-- ==== Sys2Proof/Word.lean ====
section
/-! DEFINITION. The word types of the model: bytes and the words that the spec numbers bit by bit
(spec/00, R13, R14). Everything that is only counted is a `Nat`. -/
namespace Sys2Proof

/-- One byte. -/
abbrev Byte := BitVec 8
/-- A string of bytes, the byte of the lowest address (or the first one sent) first. -/
abbrev Bytes := List Byte
/-- A verdict word (R163), a word of an instruction (R275) or of the trie (R204). -/
abbrev W32 := BitVec 32
/-- A scalar register of a compute core (R264). -/
abbrev W64 := BitVec 64
/-- A row of the tile file, of 64 bytes; byte 0 in bits 7 to 0 (R264). -/
abbrev Row := BitVec 512

end Sys2Proof
end

