-- ==== Sys2Proof/OperandTypes.lean ====
section
/-! DEFINITION. The types of the commands' operands: endpoints and requests of Cuhild (R53, R56, R68), flow
keys (R154), descriptors (R195), frames and the readings that outside parts give. Physical facts that the
spec lets happen but does not decide (an uncorrectable word, a failed check, a cache hit) are operands. -/
namespace Sys2Proof

/-- An endpoint of R68. In-band: the port number 32 s + k (s = 1 for the line side), the source MAC, and the 802.1Q tag: 0 for
none, else 65,536 + TCI. -/
inductive Endpoint
  | cfgWindow
  | pf
  | vf (p : Nat)
  | can (node : Nat)
  | inband (port mac vlan : Nat)
  | strait (device : Nat)
  deriving DecidableEq, Repr

/-- The header fields of a request (R53) and where it came from. -/
structure Req where
  ep : Endpoint
  agent : Nat
  seq : Nat
  epoch : Nat
  deriving DecidableEq, Repr

/-- The operations of R56 with their payloads; `unknown` is an operation code outside the table and
`malformed` a payload that is not the operation's. -/
inductive Body
  | read (idx sub : Nat)
  | write (idx sub typ : Nat) (val : Bytes)
  | readMulti (refs : List (Nat × Nat))
  | blobOpen (idx sub mode len : Nat)
  | blobSeg (handle count off : Nat) (data : Bytes)
  | blobClose (handle action : Nat) (crc : Option Nat)
  | claim (prio nonce : Nat)
  | giveUp (target : Nat)
  | heartbeat
  | grant (part agent : Nat)
  | revoke (part : Nat)
  | notify (mask : Nat)
  | unknown (op : Nat)
  | malformed (op : Nat)
  deriving DecidableEq, Repr

/-- A canonical flow key (R154, R155). -/
structure FlowKey where
  part : Nat
  family : Nat
  tunnel : Nat
  frag : Bool
  proto : Nat
  vni : Nat
  lo : Nat
  hi : Nat
  lop : Nat
  hip : Nat
  deriving DecidableEq, Repr

/-- A flow-table descriptor as fetched from its ring (R195): function 0 is the physical function and 1 + p
virtual function p. `data` are the words a TRIE-WRITE reads from the host buffer; `ecc` the slots whose
words the operation finds uncorrectable and `fixed` how many words it finds corrected (R181). -/
structure Desc where
  fn : Nat
  ring : Nat
  flags : Nat := 0
  epoch : Nat := 0
  cookie : Nat := 0
  buf : Nat := 0
  a : Nat := 0
  b : Nat := 0
  verdict : W32 := 0
  mepoch : Nat := 0
  score : Nat := 0
  key : FlowKey
  data : List Nat := []
  ecc : List Nat := []
  fixed : Nat := 0
  deriving DecidableEq, Repr

/-- What the stacks report of the bursts that a read takes (R348): errors corrected and uncorrectable by the stack, and end-to-end checks failed. -/
structure Bursts where
  fixed : Nat := 0
  bad : Nat := 0
  e2e : Nat := 0
  deriving DecidableEq, Repr
/-- A read met an uncorrectable burst or a failed end-to-end check (R348). -/
def Bursts.failed (e : Bursts) : Bool := e.bad + e.e2e != 0

/-- The words that a read meets with errors (R222): uncorrectable, and corrected. -/
structure WordErrs where
  bad : Nat := 0
  fixed : Nat := 0
  deriving DecidableEq, Repr

/-- How an arming ends (R345, R358): whether it succeeds, and what the stack reports of its reads (R348). -/
structure Arming where
  ok : Bool
  err : Bursts := {}
  deriving DecidableEq, Repr

/-- A refill that lands (R217): its queue, and what the stack reports of the words that are read (R222, R348). -/
structure Refill where
  queue : Nat
  err : Bursts := {}
  deriving DecidableEq, Repr

/-- A port's link loss (R177): the port, and whether a frame is in transmission at the loss. -/
structure LinkCut where
  port : Nat
  cut : Bool
  deriving DecidableEq, Repr

/-- A doorbell of a descriptor ring (R194, R350): the producer written, and the 128-byte descriptors that Brolum fetches from the ring now, oldest
first (R195), each with the bytes of its host buffer where it reads one; descriptors that it fetches later come as their own commands. -/
structure Bell where
  producer : Nat
  fetched : List (Bytes × Bytes) := []
  deriving DecidableEq, Repr

/-- What a transfer over a sound that fails its CRC comes to (R414): whether a lane loses training, and the resends without acknowledgement. -/
structure SoundErr where
  laneLoss : Bool
  resends : Nat := 0
  deriving DecidableEq, Repr

/-- A bundle-ring descriptor (R350); `data` are the host's bytes of a host-to-region transfer, `err` what the stack reports of a region-to-host
read (R348). -/
structure BDesc where
  fn : Nat
  reserved : Nat := 0
  epoch : Nat
  cookie : Nat := 0
  host : Nat := 0
  region : Nat
  off : Nat
  len : Nat
  data : Bytes := []
  err : Bursts := {}
  deriving DecidableEq, Repr

/-- A frame at an ingress port: destination MAC up to the byte before the FCS. `fcsOk` is false for a
wrong FCS; `fecBad` means an uncorrectable codeword overlaps it (R150, R173). `fecFixed` and `fecWords` count the corrected and the uncorrectable
codewords that end with this frame: a codeword that overlaps several frames is counted once. `badLate`: a bad frame is found bad only after its
transmission has begun (R173). `delays` counts repeated cycles of a bank conflict (R159),
`ecc` the flow-table slots whose words the lookup finds uncorrectable and `fixed` the corrected words
(R181), `nodeBad` whether the walk that the frame starts reads an uncorrectable word of the node cache (R416). -/
structure FrameIn where
  port : Nat
  bytes : Bytes
  fcsOk : Bool := true
  fecBad : Bool := false
  fecFixed : Nat := 0
  fecWords : Nat := 0
  badLate : Bool := false
  delays : Nat := 0
  ecc : List Nat := []
  fixed : Nat := 0
  nodeBad : Bool := false
  deriving DecidableEq, Repr

/-- A command for a compute core (R257). -/
structure CoreCmd where
  layer : Nat
  oper : Nat
  entry : Nat
  arg : Nat
  tag : Nat
  deriving DecidableEq, Repr

/-- What Brolum reads of a cartridge when it is ready (R382, R383 step 2, R392). -/
structure CartRegs where
  serial : Nat
  rated : Nat
  fw : Nat
  temp : Int
  drive : Nat
  nominal : Nat
  digest : Bytes
  cert : Bytes
  life0 : Bytes
  life1 : Bytes
  deriving DecidableEq, Repr

/-- One sample of an optical engine and its cartridge (R380, R386). -/
structure OptSample where
  rx : List Int
  tx : List Int
  cw : Int
  status : Nat
  drive : Nat
  nominal : Nat
  deriving DecidableEq, Repr

/-- A pass of the scrubber: the shadow words it reads, each with its trie target and index or slot address,
or none when a read is refused or fails (R208, R210). -/
structure ShadowWord where
  pinned : Bool
  addr : Nat
  word : Nat
  val : Nat
  /-- The shadow record's whole entry image, for a repair of a pinned entry (R209). -/
  image : List Nat := []
  deriving DecidableEq, Repr

/-- An error in a core's array `arr` (R305 to R308): a cell (row, col) from 0 to 64 that comes to hold a value off by `diff`, or else output `col`
from 0 to 64 of the streamed row `row` of a pass, off by `diff`. -/
structure Upset where
  arr : Nat
  cell : Bool
  row : Nat
  col : Nat
  diff : Int
  deriving DecidableEq, Repr

/-- Where XMOV moves data (R259): the isle shared SRAM, or another core of the isle. -/
inductive XPeer
  | sram
  | core (c : Nat)
  deriving DecidableEq, Repr

/-- A unit that the hang watchdog watches (R444), by the unit kinds of R446: 0 queue, in the order of queue.depths, 1 ring or mailbox, 2 strait,
3 isle scheduler, 4 compute core, 5 slot 4 p + S, 6 the dictionary sequencer. -/
structure HangUnit where
  kind : Nat
  num : Nat
  deriving DecidableEq, Repr

end Sys2Proof
end

