-- ==== Sys2Proof/Syntax.lean ====
section
/-! DEFINITION. The commands the block takes: one constructor for each row of spec/opcode_table.json.
Ports are numbered 32 s + k (s = 1 for the line side), compute cores 32 n + c, queues in the order of
queue.depths (R212), functions 0 for the physical and 1 + p for virtual function p. -/
namespace Sys2Proof

/-- A command (notes/assumptions/1.md). -/
inductive Instr
  /-- READ (R56). -/
  | read (r : Req) (idx sub : Nat)
  /-- WRITE (R57). -/
  | write (r : Req) (idx sub typ : Nat) (val : Bytes)
  /-- READ_MULTI (R57). -/
  | readMulti (r : Req) (refs : List (Nat × Nat))
  /-- BLOB_OPEN (R64). -/
  | blobOpen (r : Req) (idx sub mode len : Nat)
  /-- BLOB_SEG (R65). -/
  | blobSeg (r : Req) (handle count off : Nat) (data : Bytes)
  /-- BLOB_CLOSE (R64). -/
  | blobClose (r : Req) (handle action : Nat) (crc : Option Nat)
  /-- CLAIM (R80). -/
  | claim (r : Req) (prio nonce : Nat)
  /-- CLAIM_WINDOW_CLOSE (R80). -/
  | claimWindowClose
  /-- YIELD (R83). -/
  | yield (r : Req) (target : Nat)
  /-- HEARTBEAT (R81). -/
  | heartbeat (r : Req)
  /-- GRANT (R85). -/
  | grant (r : Req) (part agent : Nat)
  /-- REVOKE (R86). -/
  | revoke (r : Req) (part : Nat)
  /-- NOTIFY (R87). -/
  | notify (r : Req) (mask : Nat)
  /-- OWNER_LEASE_EXPIRY (R81). -/
  | ownerLeaseExpiry
  /-- AGENT_IDLE_EXPIRY (R79). -/
  | agentIdleExpiry (agent : Nat)
  /-- BLOB_HANDLE_TIMEOUT (R66). -/
  | blobHandleTimeout (handle : Nat)
  /-- MAILBOX_DOORBELL (R70). -/
  | mailboxDoorbell (fn producer : Nat) (slots : List Bytes)
  /-- MAILBOX_RESPONSE_DELIVER (R70). -/
  | mailboxResponseDeliver (fn : Nat)
  /-- MMIO_REGISTER_WRITE (R69). -/
  | mmioRegisterWrite (fn bar off val : Nat)
  /-- CONFIG_WINDOW_GO (R71). -/
  | configWindowGo (msg : Bytes)
  /-- CAN_FD_FRAME (R73). -/
  | canFdFrame (id : Nat) (classic : Bool) (data : Bytes)
  /-- CAN_REASSEMBLY_TIMEOUT (R73). -/
  | canReassemblyTimeout (node : Nat)
  /-- PCIE_FUNCTION_RESET (R79). -/
  | pcieFunctionReset (fn : Nat)
  /-- PORST_N_RELEASE (R90). -/
  | porstNRelease (conditionsMet : Bool)
  /-- PORST_N_ASSERT (R467). -/
  | porstNAssert
  /-- AON_LOSS (R132). -/
  | aonLoss
  /-- CORE_CLOCK_START (R133). -/
  | coreClockStart (reason : Nat) (pllLocks : Bool)
  /-- START_INFERENCE_WRITE (R95). -/
  | startInferenceWrite (r : Req) (v : Nat)
  /-- POWER_CORE_HOLD_WRITE (R133). -/
  | powerCoreHoldWrite (r : Req) (v : Nat)
  /-- RX_SIGNAL_DETECT (R133). -/
  | rxSignalDetect (lane : Nat)
  /-- PLL_LOCK_RETRY (R123). -/
  | pllLockRetry (locks : Bool)
  /-- CORE_CLOCK_STOP (R136). -/
  | coreClockStop
  /-- BERTH_KEEP_WRITE (R137). -/
  | berthKeepWrite (r : Req) (v : Nat)
  /-- KEPT_OBJECT_REWRITE (R101). -/
  | keptObjectRewrite
  /-- NONCE_FEED_READ (R107). -/
  | nonceFeedRead (r : Req)
  /-- ATTEST_REPORT_OPEN (R108). -/
  | attestReportOpen (r : Req)
  /-- UPDATE_PROGRAMMING_DONE (R117). -/
  | updateProgrammingDone (readBackOk : Bool)
  /-- UPD_RESTART_WRITE (R118). -/
  | updRestartWrite (r : Req) (v : Nat)
  /-- RESTART (R118). -/
  | restart
  /-- PPS_EDGE (R125). -/
  | ppsEdge (offset : Nat)
  /-- PPS_LOSS_TIMEOUT (R125). -/
  | ppsLossTimeout
  /-- TIME_SET_WRITE (R126). -/
  | timeSetWrite (r : Req) (v : Nat)
  /-- TIME_SET_TIMEOUT (R126). -/
  | timeSetTimeout
  /-- NAP_ENTRY (R139). -/
  | napEntry (core : Nat)
  /-- DOZE_ENTRY (R139). -/
  | dozeEntry (quad : Nat)
  /-- ISLE_OFF_ENTRY (R139). -/
  | isleOffEntry (isle : Nat)
  /-- RESIDENCY_ENTRY_DONE (R142). -/
  | residencyEntryDone (isle : Bool) (unit : Nat)
  /-- RESIDENCY_WAKE (R141). -/
  | residencyWake (quad : Nat)
  /-- SLOT_REARM (R345, R348). -/
  | slotRearm (part slot : Nat) (arm : Arming)
  /-- PART_QUADS_WRITE (R143). -/
  | partQuadsWrite (r : Req) (part v : Nat)
  /-- OWNER_DUTY_WRITE (R145). -/
  | ownerDutyWrite (r : Req) (isle v : Nat)
  /-- FRAME_INGRESS (R158). -/
  | frameIngress (f : FrameIn)
  /-- HOLD_LIMIT_EXPIRY (R170). -/
  | holdLimitExpiry (pipe : Nat)
  /-- FRAME_TRANSMIT (R173): how many words of the frame's storage are uncorrectable and corrected (R222), and whether that shows only after the
  transmission has begun. -/
  | frameTransmit (port bad fixed : Nat) (late : Bool)
  /-- XOFF_IN_CHANGE (R174). -/
  | xoffInChange (group : Nat) (level : Bool)
  /-- METER_APPLY (R166). -/
  | meterApply (r : Req) (v : Nat)
  /-- LINK_LOSS (R177). -/
  | linkLoss (loss : LinkCut)
  /-- LINK_UP (R177). -/
  | linkUp (port : Nat)
  /-- HOLD_DEADLINE (R177). -/
  | holdDeadline (port : Nat)
  /-- DAMP_END (R177). -/
  | dampEnd (port : Nat)
  /-- SERIES_CLOSE (R178). -/
  | seriesClose (port : Nat)
  /-- PORT_ENABLE_WRITE (R177). -/
  | portEnableWrite (r : Req) (line : Bool) (v : Nat)
  /-- PORT_MODE_WRITE (R147). -/
  | portModeWrite (r : Req) (line : Bool) (group v : Nat)
  /-- TRAIN_TIMEOUT (R148). -/
  | trainTimeout (port : Nat)
  /-- LEARN_INSERT (R190). -/
  | learnInsert
  /-- STATS_UPDATE (R187). -/
  | statsUpdate
  /-- FLOW_RING_DOORBELL (R194). -/
  | flowRingDoorbell (fn ring : Nat) (bell : Bell)
  /-- FLOW_RING_ENABLE (R194). -/
  | flowRingEnable (fn ring v : Nat)
  /-- RING_KEEP_ALIVE (R200). -/
  | ringKeepAlive (fn ring : Nat)
  /-- READ_KEY (R196). -/
  | readKey (d : Desc)
  /-- READ_SLOT (R196). -/
  | readSlot (d : Desc)
  /-- SCAN (R196). -/
  | scan (d : Desc)
  /-- INSERT (R196). -/
  | insert (d : Desc)
  /-- UPDATE (R196). -/
  | update (d : Desc)
  /-- DELETE (R196). -/
  | delete (d : Desc)
  /-- AGE_DELETE (R201). -/
  | ageDelete (d : Desc)
  /-- LOCK (R199). -/
  | lock (d : Desc)
  /-- UNLOCK (R199). -/
  | unlock (d : Desc)
  /-- TRIE_WRITE (R206). -/
  | trieWrite (d : Desc)
  /-- TRIE_READ (R206). -/
  | trieRead (d : Desc)
  /-- LOCK_LEASE_EXPIRY (R200). -/
  | lockLeaseExpiry (tag : Nat)
  /-- LOCK_SWEEP_DONE (R200). -/
  | lockSweepDone (tag : Nat)
  /-- SHADOW_PASS (R208): the words of a host shadow that the pass reads (an internal shadow is read from memory), none when a read fails. -/
  | shadowPass (words : Option (List ShadowWord))
  /-- QUEUE_PUSH (R214). -/
  | queuePush (q epoch : Nat) (word : Bytes) (poison : Bool)
  /-- QUEUE_COMMIT (R214). -/
  | queueCommit (q : Nat)
  /-- QUEUE_POP (R214): how many words of the packet are uncorrectable and corrected (R222). -/
  | queuePop (q bad fixed : Nat)
  /-- QUEUE_REWIND (R220). -/
  | queueRewind (q : Nat)
  /-- SPILL_REFILL_LAND (R217). -/
  | spillRefillLand (land : Refill)
  /-- COLLECTOR_RING_DELIVER (R229). -/
  | collectorRingDeliver (q : Nat) (errs : WordErrs)
  /-- COLLECTOR_FRAME_SEND (R230). -/
  | collectorFrameSend (q : Nat) (errs : WordErrs)
  /-- RECORD_FETCH_COMPLETE (R238): check 0 good, 1 end-to-end check failed, 2 stack ECC uncorrectable, 3 corrected by the stack, 4 an
  uncorrectable word of the flow-record cache (R348, R416). -/
  | recordFetchComplete (slot check : Nat)
  /-- NODE_FETCH_COMPLETE (R247): check 0 good, 1 end-to-end check failed, 2 stack ECC uncorrectable, 3 corrected. -/
  | nodeFetchComplete (req tree check : Nat)
  /-- TIER1_RESULT (R250). -/
  | tier1Result (req : Nat)
  /-- SCHEDULER_DISPATCH (R256): whether a word of the record fails its parity (R222), and what the stack reports of the fetches of the slot's
  streamed blocks (R348). -/
  | schedulerDispatch (isle check : Nat) (err : Bursts)
  /-- SCALAR_OP (R275). -/
  | scalarOp (core : Nat) (w : W32) (xd xa xb xc : Nat)
  /-- BRANCH (R261). -/
  | branch (core : Nat) (w : W32) (xa xb target : Nat)
  /-- SCALAR_LOAD_STORE (R265). -/
  | scalarLoadStore (core : Nat) (w : W32) (store : Bool) (x off : Nat) (eccBad : Bool)
  /-- VECTOR_OP (R275). -/
  | vectorOp (core : Nat) (w : W32) (vd va vb vc : Nat)
  /-- VLD (R275). -/
  | vld (core : Nat) (w : W32) (v off : Nat) (eccBad : Bool)
  /-- VST (R275). -/
  | vst (core : Nat) (w : W32) (v off : Nat)
  /-- VTL (R275). -/
  | vtl (core : Nat) (w : W32) (v tile row : Nat)
  /-- VTS (R275). -/
  | vts (core : Nat) (w : W32) (tile row v : Nat)
  /-- VSIDE (R324). -/
  | vside (core : Nat) (w : W32) (ts srow td drow width xbase : Nat)
  /-- XMOV (R259). -/
  | xmov (core : Nat) (w : W32) (toPeer : Bool) (peer : XPeer) (off peerOff len : Nat) (eccBad : Bool)
  /-- QBAR (R259). -/
  | qbar (core : Nat) (w : W32) (barrier mask : Nat)
  /-- OPSET (R258). -/
  | opset (core : Nat) (w : W32) (layer oper : Nat)
  /-- DONE (R258). -/
  | done (core : Nat) (w : W32)
  /-- WAIT (R275). -/
  | wait (core : Nat) (w : W32)
  /-- TCFG (R268). -/
  | tcfg (core : Nat) (w : W32)
  /-- TREL (R272). -/
  | trel (core : Nat) (w : W32)
  /-- CSLD (R274). -/
  | csld (core : Nat) (w : W32)
  /-- TLD (R277). -/
  | tld (core : Nat) (w : W32) (eccRows : List Nat)
  /-- TLD_CV_EXPAND (R277). -/
  | tldCvExpand (core : Nat) (w : W32) (eccRows : List Nat)
  /-- TLD_CV_QUANTISE (R319). -/
  | tldCvQuantise (core : Nat) (w : W32) (eccRows : List Nat)
  /-- TLD_CV_WIDEN (R277). -/
  | tldCvWiden (core : Nat) (w : W32) (eccRows : List Nat)
  /-- TST (R277). -/
  | tst (core : Nat) (w : W32)
  /-- ACFG (R280). -/
  | acfg (core : Nat) (w : W32)
  /-- WLD (R294). -/
  | wld (core : Nat) (w : W32)
  /-- WLD_COMPLETE (R305). -/
  | wldComplete (core : Nat) (upsets : List Upset)
  /-- ASTR (R296). -/
  | astr (core : Nat) (w : W32)
  /-- ASTR_T (R302). -/
  | astrT (core : Nat) (w : W32)
  /-- AEW (R303). -/
  | aew (core : Nat) (w : W32)
  /-- ASTR_CHUNK_COMMIT (R297). -/
  | astrChunkCommit (core mask : Nat) (upsets : List Upset)
  /-- RQ (R331). -/
  | rq (core : Nat) (w : W32)
  /-- RSTAT (R284). -/
  | rstat (core : Nat) (w : W32)
  /-- PREEMPT_REQUEST (R285). -/
  | preemptRequest (core : Nat)
  /-- CONTEXT_RESTORE (R285). -/
  | contextRestore (core : Nat)
  /-- CORE_RESET (R287). -/
  | coreReset (core : Nat)
  /-- Q_STATS_CLEAR (R334). -/
  | qStatsClear (r : Req) (v : Nat)
  /-- SLOT_LOAD (R341). -/
  | slotLoad (r : Req) (part slot v : Nat)
  /-- SLOT_UNLOAD (R343). -/
  | slotUnload (r : Req) (part slot v : Nat)
  /-- HBM_APPLY (R349). -/
  | hbmApply (r : Req) (v : Nat)
  /-- BUNDLE_RING_DOORBELL (R350). -/
  | bundleRingDoorbell (fn : Nat) (bell : Bell)
  /-- BUNDLE_HOST_TO_REGION (R350). -/
  | bundleHostToRegion (d : BDesc)
  /-- BUNDLE_REGION_TO_HOST (R350). -/
  | bundleRegionToHost (d : BDesc)
  /-- TIER2_RESULT (R354). -/
  | tier2Result (isle part : Nat) (eccBad : Bool)
  /-- T2_TIMEOUT (R353). -/
  | t2Timeout (req : Nat)
  /-- SWAP (R356). -/
  | swap (r : Req) (part v : Nat)
  /-- T1_SLOT_WRITE (R356). -/
  | t1SlotWrite (r : Req) (part v : Nat)
  /-- DRAIN_COMPLETE (R357). -/
  | drainComplete (part : Nat)
  /-- GAP_ARM_DONE (R348, R358). -/
  | gapArmDone (part : Nat) (arm : Arming)
  /-- STRAIT_ENABLE_WRITE (R362). -/
  | straitEnableWrite (r : Req) (v : Nat)
  /-- STRAIT_TRAINED (R362). -/
  | straitTrained (strait : Nat)
  /-- STRAIT_TRAIN_TIMEOUT (R362). -/
  | straitTrainTimeout (strait : Nat)
  /-- STRAIT_INIT_DONE (R362). -/
  | straitInitDone (strait : Nat) (peer : Nat) (credits : List Nat)
  /-- STRAIT_INIT_TIMEOUT (R362). -/
  | straitInitTimeout (strait : Nat)
  /-- STRAIT_LINK_LOSS (R362). -/
  | straitLinkLoss (strait : Nat)
  /-- STRAIT_RETRAIN (R362). -/
  | straitRetrain (strait : Nat)
  /-- FLIT_RECEIVE (R365). -/
  | flitReceive (strait : Nat) (flit : Bytes)
  /-- NAK_RECEIVE (R366). -/
  | nakReceive (strait seq : Nat)
  /-- REPLAY_TIMEOUT (R366). -/
  | replayTimeout (strait : Nat)
  /-- ACK_IDLE_TIMEOUT (R365). -/
  | ackIdleTimeout (strait : Nat)
  /-- STRAIT_CUHILD_MESSAGE (R77). -/
  | straitCuhildMessage (src : Nat) (msg : Bytes)
  /-- POOL_HEARTBEAT (R371). -/
  | poolHeartbeat (strait origin seq : Nat) (entries : List (Nat × Nat))
  /-- HEARTBEAT_PERIOD (R371). -/
  | heartbeatPeriod
  /-- ADMISSION_REQUEST (R369). -/
  | admissionRequest (src poolId device serial compat : Nat) (record : Bytes)
  /-- ADMISSION_REPLY (R369). -/
  | admissionReply (src outcome : Nat)
  /-- MEMBER_LOST (R372). -/
  | memberLost (device : Nat)
  /-- REGISTRY_UPDATE (R373). -/
  | registryUpdate (src : Nat) (entries : List Bytes)
  /-- WORK_CREDIT (R368). -/
  | workCredit (src q records : Nat) (granted : Bool)
  /-- REPLICA_LOCK_REQUEST (R375). -/
  | replicaLockRequest (src entry : Nat)
  /-- REPLICA_LOCK_REPLY (R375). -/
  | replicaLockReply (src entry epoch status : Nat)
  /-- REPLICA_LOCK_VOID (R375). -/
  | replicaLockVoid (region : Nat)
  /-- SEGMENT_REQUEST (R374). -/
  | segmentRequest (src entry epoch off len : Nat)
  /-- BUNDLE_SEGMENT (R374). -/
  | bundleSegment (src epoch off : Nat) (data : Bytes)
  /-- WEIGHT_STREAM_SEGMENT (R364). -/
  | weightStreamSegment (src epoch off : Nat) (data : Bytes)
  /-- REMOTE_WORK (R376). -/
  | remoteWork (src : Nat) (packet : Bytes)
  /-- REMOTE_RESULT (R376). -/
  | remoteResult (src : Nat) (packet : Bytes)
  /-- OFFER_REGION (R373). -/
  | offerRegion (r : Req) (v : Nat)
  /-- WITHDRAW_OFFER (R373). -/
  | withdrawOffer (r : Req) (v : Nat)
  /-- FETCH_APPLY (R374). -/
  | fetchApply (r : Req) (v : Nat)
  /-- FETCH_COMPLETE (R374). -/
  | fetchComplete
  /-- CARTRIDGE_OCCUPIED (R381). -/
  | cartridgeOccupied (e : Nat)
  /-- CARTRIDGE_VACATED (R381). -/
  | cartridgeVacated (e : Nat)
  /-- CARTRIDGE_READY (R383). -/
  | cartridgeReady (e : Nat) (regs : CartRegs)
  /-- CARTRIDGE_READY_TIMEOUT (R383). -/
  | cartridgeReadyTimeout (e : Nat)
  /-- CHALLENGE_DONE (R383). -/
  | challengeDone (e : Nat) (response : Bytes)
  /-- CHALLENGE_TIMEOUT (R383). -/
  | challengeTimeout (e : Nat)
  /-- CARTRIDGE_FW_INSTALL_TIMEOUT (R385). -/
  | cartridgeFwInstallTimeout (e : Nat)
  /-- OPTICAL_MONITOR_SAMPLE (R380). -/
  | opticalMonitorSample (e : Nat) (m : OptSample)
  /-- RELIGHT_ATTEMPT (R387). -/
  | relightAttempt (e : Nat) (m : OptSample)
  /-- LIGHT_USABLE (R388). -/
  | lightUsable (e : Nat)
  /-- LIFE_ACCRUAL (R389). -/
  | lifeAccrual (e : Nat) (temp : Int) (drive nominal : Nat)
  /-- LIFE_RECORD_WRITE (R392). -/
  | lifeRecordWrite (e : Nat) (ok : Bool)
  /-- CARTRIDGE_RELEASE (R394). -/
  | cartridgeRelease (r : Req) (e v : Nat)
  /-- DRIVE_SETPOINT_WRITE (R388). -/
  | driveSetpointWrite (r : Req) (e v : Nat)
  /-- ALLOW_UNAUTH_WRITE (R384). -/
  | allowUnauthWrite (r : Req) (v : Nat)
  /-- SENSOR_SAMPLE (R395). -/
  | sensorSample (n : Nat) (val : Option Int)
  /-- FORECAST_STEP (R397). -/
  | forecastStep
  /-- ROTATION_EXCHANGE (R401). -/
  | rotationExchange (part : Nat)
  /-- THERMAL_CYCLE_SAMPLE (R408). -/
  | thermalCycleSample
  /-- EXTERNAL_TRIP (R474). -/
  | externalTrip
  /-- TRIP_CLEAR (R407). -/
  | tripClear (r : Req) (v : Nat)
  /-- TRIP_AUTO_RESUME (R407). -/
  | tripAutoResume
  /-- SOUND_TRANSFER_FAIL (R414). -/
  | soundTransferFail (sound : Nat) (err : SoundErr)
  /-- CORE_WATCHDOG (R415). -/
  | coreWatchdog (core : Nat)
  /-- ISLE_WATCHDOG (R415). -/
  | isleWatchdog (isle : Nat)
  /-- CTRL_WATCHDOG (R415). -/
  | ctrlWatchdog
  /-- ISLE_RESTORE (R424). -/
  | isleRestore (r : Req) (v : Nat)
  /-- ISLE_AUTO_RESTORE (R424). -/
  | isleAutoRestore (isle : Nat)
  /-- RESTORE_TRAIN_TIMEOUT (R424). -/
  | restoreTrainTimeout (isle : Nat)
  /-- RECOVER_RESUME (R428). -/
  | recoverResume (r : Req) (part v : Nat)
  /-- COUNTER_LATCH (R434). -/
  | counterLatch (fn : Nat)
  /-- HANG_DETECT (R444). -/
  | hangDetect (kind num : Nat)
  /-- DUMP_CLEAR (R445). -/
  | dumpClear (r : Req) (v : Nat)
  /-- HANG_RELEASE (R448). -/
  | hangRelease (r : Req) (v : Nat)
  /-- INSPECT_OPEN (R449). -/
  | inspectOpen (r : Req)
  /-- TRACE_READ_OPEN (R443). -/
  | traceReadOpen (r : Req) (ext : Bool)
  /-- TRACE_FRAME_CLOSE (R439). -/
  | traceFrameClose (src : Nat)
  /-- TRACE_TIME_PERIOD (R441). -/
  | traceTimePeriod (src : Nat)
  /-- POWER_GOOD_ARRIVE (R460). -/
  | powerGoodArrive (rail : Nat)
  /-- POWER_GOOD_TIMEOUT (R461). -/
  | powerGoodTimeout (rail : Nat)
  /-- POWER_GOOD_FALL (R461). -/
  | powerGoodFall (rail : Nat)
  /-- PLL_LOCK_LOSS (R461). -/
  | pllLockLoss
  /-- PERST_N_ASSERT (R467). -/
  | perstNAssert
  /-- PERST_N_RELEASE (R92). -/
  | perstNRelease
  /-- SLOT_LOAD_COMPLETE (R341), with what the stack reports of the bundle's bursts (R348). -/
  | slotLoadComplete (part slot : Nat) (err : Bursts)
  /-- RESTART_ARMING_DONE (R426). -/
  | restartArmingDone (part : Nat)
  /-- SOUND_TRAINED (R424). -/
  | soundTrained (isle : Nat)
  /-- COUNTER_LATCH_COMPLETE (R434). -/
  | counterLatchComplete (fn : Nat)
  /-- DETECTOR_BACKOFF_END (R134). -/
  | detectorBackoffEnd (lane : Nat)
  /-- REVERSE_ENABLE_DROP (R460). -/
  | reverseEnableDrop (rail : Nat)
  deriving DecidableEq, Repr

end Sys2Proof
end

