-- ==== Sys2Proof/Decode.lean ====
section
/-! DEFINITION. The decoder of spec/opcode_table.json's bits. No row of the table gives its command any bits
(each row's list of fields is empty), so no word spells a command; commands that arrive as messages are
read from their bytes by the shared parser of Machine/Parse.lean (R53, R56). -/
namespace Sys2Proof

/-- The command that a word spells by the table's bits: none, since the table gives no row bits. -/
def decodeTableWord (nbits w : Nat) : Option Instr :=
  match nbits, w with
  | _, _ => none

end Sys2Proof
end

