-- ==== Sys2Proof/Machine/Bits.lean ====
section
/-! DEFINITION. Byte order and bit fields (R13, R14), and the check codes the spec names: CRC-32C, the
CRC-32K of R183, and the CRC-16 of R348. -/
namespace Sys2Proof.Machine

/-- Bits `hi` down to `lo` of `n` (R13). -/
def bits (n hi lo : Nat) : Nat := (n / 2 ^ lo) % 2 ^ (hi + 1 - lo)
/-- Bit `i` of `n`. -/
def bit (n i : Nat) : Bool := n / 2 ^ i % 2 == 1
/-- `n` with bit `i` set to `b`. -/
def setBit (n i : Nat) (b : Bool) : Nat :=
  if bit n i = b then n else if b then n + 2 ^ i else n - 2 ^ i
/-- 1 for true, 0 for false. -/
def b2n (b : Bool) : Nat := if b then 1 else 0
/-- The numbers of the bits among the low `w` bits of `n` that are 1, ascending. -/
def bitsOf (w n : Nat) : List Nat := (List.range w).filter (fun i => bit n i)
/-- How many of the low `w` bits are 1. -/
def popCount (w n : Nat) : Nat := (bitsOf w n).length

/-- `n` as `k` bytes, least significant first (R14). -/
def le : Nat → Nat → Bytes
  | 0, _ => []
  | k + 1, n => BitVec.ofNat 8 n :: le k (n / 256)
/-- `n` as `k` bytes, most significant first (R14). -/
def be (k n : Nat) : Bytes := (le k n).reverse
/-- The number little-endian bytes spell. -/
def unle : Bytes → Nat
  | [] => 0
  | b :: bs => b.toNat + 256 * unle bs
/-- The number big-endian bytes spell. -/
def unbe (bs : Bytes) : Nat := unle bs.reverse
/-- `n` zero bytes. -/
def zeros (n : Nat) : Bytes := List.replicate n 0
/-- Exactly `n` bytes: cut or padded with zeros. -/
def padTo (n : Nat) (bs : Bytes) : Bytes := (bs.take n) ++ zeros (n - bs.length)
/-- The `n` bytes at offset `o` (missing ones 0). -/
def slice (bs : Bytes) (o n : Nat) : Bytes := padTo n ((bs.drop o).take n)
/-- The little-endian number of `n` bytes at `o`. -/
def leAt (bs : Bytes) (o n : Nat) : Nat := unle (slice bs o n)
/-- The big-endian number of `n` bytes at `o`. -/
def beAt (bs : Bytes) (o n : Nat) : Nat := unbe (slice bs o n)
/-- Byte `o` as a number (0 past the end). -/
def byteAt (bs : Bytes) (o : Nat) : Nat := (bs.getD o 0).toNat
/-- The bytes with those at offset `o` replaced by `new`. -/
def patch (bs : Bytes) (o : Nat) (new : Bytes) : Bytes := padTo o bs ++ new ++ bs.drop (o + new.length)

/-- `n` read as a two's complement number of `w` bits. -/
def toSigned (w n : Nat) : Int := if n % 2 ^ w < 2 ^ (w - 1) then (n % 2 ^ w : Nat) else (n % 2 ^ w : Nat) - (2 ^ w : Nat)
/-- The low `w` bits of an integer. -/
def ofSigned (w : Nat) (i : Int) : Nat := (i % (2 ^ w : Nat)).toNat
/-- `n` cut off at `max` (a saturating count). -/
def sat (max n : Nat) : Nat := min max n
/-- Division rounded up. -/
def ceilDiv (a b : Nat) : Nat := (a + b - 1) / b

/-- One bit of a reflected 32-bit CRC. -/
def crcStep (poly : BitVec 32) (c : BitVec 32) : BitVec 32 :=
  if c &&& 1 = 1 then (c >>> 1) ^^^ poly else c >>> 1
/-- One byte of a reflected 32-bit CRC. -/
def crcByte (poly c : BitVec 32) (b : Byte) : BitVec 32 :=
  let c := c ^^^ b.zeroExtend 32
  crcStep poly (crcStep poly (crcStep poly (crcStep poly (crcStep poly (crcStep poly (crcStep poly (crcStep poly c)))))))
/-- A reflected 32-bit CRC with final XOR 0xFFFF_FFFF (R183, R363). -/
def crc32r (poly init : BitVec 32) (bs : Bytes) : BitVec 32 := bs.foldl (crcByte poly) init ^^^ 0xFFFFFFFF
/-- CRC-32C: reflected, normal-form polynomial 0x1EDC_6F41 (R363 gives its initial value and final XOR;
the polynomial of the named code is PRESUMED from its standard, notes/assumptions/12.md). -/
def crc32c (bs : Bytes) : Nat := (crc32r 0x82F63B78 0xFFFFFFFF bs).toNat
/-- H-A of R183: CRC-32C begun with the salt. -/
def hashA (salt : Nat) (bs : Bytes) : Nat := (crc32r 0x82F63B78 (BitVec.ofNat 32 salt) bs).toNat
/-- H-B of R183: reflected CRC-32K, normal-form polynomial 0x741B_8CD7, begun with the salt. -/
def hashB (salt : Nat) (bs : Bytes) : Nat := (crc32r 0xEB31D82E (BitVec.ofNat 32 salt) bs).toNat
/-- One bit of the CRC-16 of R348. -/
def crc16Step (c : BitVec 16) : BitVec 16 := if c &&& 0x8000 = 0x8000 then (c <<< 1) ^^^ 0x1021 else c <<< 1
/-- One byte of the CRC-16 of R348. -/
def crc16Byte (c : BitVec 16) (b : Byte) : BitVec 16 :=
  let c := c ^^^ (b.zeroExtend 16 <<< 8)
  crc16Step (crc16Step (crc16Step (crc16Step (crc16Step (crc16Step (crc16Step (crc16Step c)))))))
/-- The end-to-end check of R348: 32 data bytes followed by the 40-bit address (read most significant
byte first, no reflection, no final XOR: notes/assumptions/12.md). -/
def burstCheck (data : Bytes) (addr : Nat) : Nat := ((data ++ be 5 addr).foldl crc16Byte 0xFFFF).toNat

/-- Replace element `i` of a list. -/
def setAt {α : Type} : List α → Nat → α → List α
  | [], _, _ => []
  | _ :: xs, 0, y => y :: xs
  | x :: xs, n + 1, y => x :: setAt xs n y

/-- The last `n` elements of a list: a log that keeps the latest ones. -/
def keepLast {α : Type} (n : Nat) (xs : List α) : List α := xs.drop (xs.length - n)

end Sys2Proof.Machine
end

