-- ==== Sys2Proof/Machine/Float.lean ====
section
/-! DEFINITION. FP32 (IEEE 754 binary32) and BF16 arithmetic, every rounding to nearest with ties to even
(R234, R243, R248, R319, R332). A value is its bit pattern, a `Nat`. -/
namespace Sys2Proof.Machine

/-- Round the quotient `n / d` of naturals to nearest, ties to even. -/
def rneDiv (n d : Nat) : Nat :=
  let q := n / d; let r := n % d
  if 2 * r < d then q else if 2 * r > d then q + 1 else if q % 2 = 0 then q else q + 1

/-- Round an integer quotient to nearest, ties to even. -/
def rneDivInt (n : Int) (d : Nat) : Int := if n < 0 then -(rneDiv n.natAbs d : Nat) else (rneDiv n.natAbs d : Nat)

/-- The largest `e` with 2^e ≤ n / d (both positive). -/
def ratLog2 (n d : Nat) : Int :=
  let e : Int := (Nat.log2 n : Nat) - (Nat.log2 d : Nat)
  let ok := if 0 ≤ e then d * 2 ^ e.toNat ≤ n else d ≤ n * 2 ^ (-e).toNat
  if ok then e else e - 1

/-- The bit pattern (without the sign) nearest to n / d in a format with `m` fraction bits and 8 exponent
bits; a value beyond the format gives infinity. -/
def roundMag (m n d : Nat) : Nat :=
  if n = 0 then 0 else
  let e := max (ratLog2 n d) (-126)
  let sh : Int := (m : Int) - e
  let q := if 0 ≤ sh then rneDiv (n * 2 ^ sh.toNat) d else rneDiv n (d * 2 ^ (-sh).toNat)
  min (q + (e + 126).toNat * 2 ^ m) (255 * 2 ^ m)

/-- An FP32 pattern's sign. -/
def fNeg (a : Nat) : Bool := bit a 31
/-- An FP32 pattern is neither infinite nor a NaN. -/
def fFinite (a : Nat) : Bool := bits a 30 23 != 255
/-- An FP32 pattern is a NaN. -/
def fNaN (a : Nat) : Bool := bits a 30 23 == 255 && bits a 22 0 != 0
/-- The fraction with its hidden bit. -/
def fMant (a : Nat) : Nat := bits a 22 0 + (if bits a 30 23 = 0 then 0 else 2 ^ 23)
/-- The exact value of a finite FP32 as an integer over 2^149. -/
def fFix (a : Nat) : Int :=
  let v : Int := (fMant a * 2 ^ (bits a 30 23 - 1) : Nat)
  if fNeg a then -v else v
/-- The common denominator of `fFix`. -/
def fDen : Nat := 2 ^ 149
/-- The pattern of a NaN. -/
def fNaNPat : Nat := 0x7FC00000
/-- The FP32 nearest to the rational `n / d`; `z` is the sign of a zero result. -/
def fOfRat (n : Int) (d : Nat) (z : Bool) : Nat :=
  if n = 0 then (if z then 2 ^ 31 else 0)
  else roundMag 23 n.natAbs d + (if n < 0 then 2 ^ 31 else 0)
/-- The FP32 nearest to an integer. -/
def fOfInt (i : Int) : Nat := fOfRat i 1 false
/-- Change the sign. -/
def fNegate (a : Nat) : Nat := if fNeg a then a - 2 ^ 31 else a + 2 ^ 31
/-- The magnitude. -/
def fAbs (a : Nat) : Nat := a % 2 ^ 31

/-- Addition. -/
def fAdd (a b : Nat) : Nat :=
  if fNaN a || fNaN b then fNaNPat
  else if !fFinite a then (if !fFinite b && fNeg a != fNeg b then fNaNPat else a)
  else if !fFinite b then b
  else fOfRat (fFix a + fFix b) fDen (fNeg a && fNeg b)
/-- Subtraction. -/
def fSub (a b : Nat) : Nat := fAdd a (fNegate b)
/-- Multiplication. -/
def fMul (a b : Nat) : Nat :=
  let s := fNeg a != fNeg b
  if fNaN a || fNaN b then fNaNPat
  else if !fFinite a || !fFinite b then
    (if fAbs a = 0 || fAbs b = 0 then fNaNPat else 0x7F800000 + (if s then 2 ^ 31 else 0))
  else fOfRat (fFix a * fFix b) (fDen * fDen) s
/-- Division of finite values by a finite value that is not 0; otherwise as IEEE 754. -/
def fDiv (a b : Nat) : Nat :=
  let s := fNeg a != fNeg b
  let sg := if s then 2 ^ 31 else 0
  if fNaN a || fNaN b then fNaNPat
  else if !fFinite a then (if !fFinite b then fNaNPat else 0x7F800000 + sg)
  else if !fFinite b then sg
  else if fAbs b = 0 then (if fAbs a = 0 then fNaNPat else 0x7F800000 + sg)
  else
    let m := fOfRat ((fFix a).natAbs : Nat) (fFix b).natAbs false
    m + sg
/-- Whether a · b + c is a special value, decided without rounding: a NaN or an infinity. -/
def fmaSpecial (a b c : Nat) : Option Nat :=
  if fNaN a || fNaN b || fNaN c then some fNaNPat
  else if !fFinite a || !fFinite b then some (fAdd (fMul a b) c)
  else if !fFinite c then some c
  else none
/-- Fused multiply-add: a · b + c exactly, rounded once, to FP32 or, where `half`, to a BF16 value widened. -/
def fFma (half : Bool) (a b c : Nat) : Nat :=
  match fmaSpecial a b c with
  | some r => r
  | none =>
    let n := fFix a * fFix b + fFix c * (fDen : Nat)
    let d := fDen * fDen
    if !half then fOfRat n d ((fNeg a != fNeg b) && fNeg c)
    else if n = 0 then (if (fNeg a != fNeg b) && fNeg c then 2 ^ 31 else 0)
    else (roundMag 7 n.natAbs d + (if n < 0 then 2 ^ 15 else 0)) * 2 ^ 16
/-- Less than (−0 equals +0; false with a NaN). -/
def fLt (a b : Nat) : Bool :=
  !fNaN a && !fNaN b &&
    (let v (x : Nat) : Int := if fNeg x then -(fAbs x : Nat) else (fAbs x : Nat)
     decide (v a < v b))
/-- Equal in value. -/
def fEq (a b : Nat) : Bool := !fNaN a && !fNaN b && (a == b || (fAbs a == 0 && fAbs b == 0))
/-- Less than or equal. -/
def fLe (a b : Nat) : Bool := fLt a b || fEq a b
/-- The smaller. -/
def fMin (a b : Nat) : Nat := if fLt b a then b else a
/-- The larger. -/
def fMax (a b : Nat) : Nat := if fLt a b then b else a
/-- Square root of a finite value that is not negative, rounded to nearest: the root of a scaled integer
is taken exactly enough that its low bit decides the rounding. -/
def fSqrt (a : Nat) : Nat :=
  if fAbs a = 0 || fNeg a || !fFinite a then (if fNeg a && fAbs a != 0 then fNaNPat else a)
  else
    -- a = v / 2^149 ; sqrt = sqrt (v * 2^(2k+1)) / 2^(75+k)
    let k := 128
    let t := (fFix a).natAbs * 2 ^ (2 * k + 1)
    let r := Nat.sqrt t
    let r2 := 2 * r + (if r * r = t then 0 else 1)
    fOfRat (r2 : Nat) (2 ^ (75 + k + 1)) false

/-- The fraction bits of log2 of `x / 2^p` in [1, 2): `n` bits, by repeated squaring at `p` bits. -/
def log2Frac : Nat → Nat → Nat → Nat → Nat
  | 0, _, _, acc => acc
  | n + 1, p, x, acc =>
    let y := x * x / 2 ^ p
    if 2 ^ (p + 1) ≤ y then log2Frac n p (y / 2) (2 * acc + 1) else log2Frac n p y (2 * acc)
/-- log2 of a positive finite FP32, rounded to nearest (R243; computed to 64 fraction bits,
notes/assumptions/13.md). -/
def fLog2 (a : Nat) : Nat :=
  let v := (fFix a).natAbs
  let e := Nat.log2 v
  let x := v * 2 ^ 160 / 2 ^ e
  let f := log2Frac 64 160 x 0
  let exact := v = 2 ^ e
  fOfRat ((((e : Nat) : Int) - 149) * (2 ^ 65 : Nat) + ((2 * f + (if exact then 0 else 1)) : Nat)) (2 ^ 65) false

/-- BF16 widened to FP32 (R332). -/
def bfWiden (b : Nat) : Nat := b % 2 ^ 16 * 2 ^ 16
/-- FP32 rounded to BF16, ties to even; the pattern of a non-finite value keeps its class. -/
def bfRound (a : Nat) : Nat :=
  if fNaN a then 0x7FC0 + (if fNeg a then 2 ^ 15 else 0)
  else if !fFinite a then a / 2 ^ 16
  else roundMag 7 (fFix a).natAbs fDen + (if fNeg a then 2 ^ 15 else 0)
/-- A BF16 pattern is finite. -/
def bfFinite (b : Nat) : Bool := bits b 14 7 != 255
/-- The integer nearest to an FP32 value, ties to even (finite values). -/
def fToInt (a : Nat) : Int := rneDivInt (fFix a) fDen

end Sys2Proof.Machine
end

