-- ==== Sys2Proof/Machine/Quant.lean ====
section
/-! DEFINITION. The bell grid: lattice, spans, quantising, tags and side rows (R314 to R325), and row packing
(R270). Element types are those of R266: 0 INT4, 1 BELL4, 2 INT8. -/
namespace Sys2Proof.Machine

/-- The bell lattice (R314). -/
def lattice : List Nat := [0, 4, 9, 15, 23, 33, 46, 63]
/-- The signed lattice value of a BELL4 code; the escape is 0 (R291, R314). -/
def bellVal (c : Nat) : Int := let v : Int := (lattice.getD (c % 8) 0 : Nat); if c / 8 % 2 = 1 then -v else v
/-- Element j of a row of 8-bit elements. -/
def elem8 (row j : Nat) : Nat := row / 2 ^ (8 * j) % 256
/-- Element j of a row packed two to a byte, low nibble first (R270). -/
def elem4 (row j : Nat) : Nat := row / 2 ^ (4 * j) % 16
/-- Element j of a BF16 row. -/
def elem16 (row j : Nat) : Nat := row / 2 ^ (16 * j) % 2 ^ 16
/-- Element j of an INT32 or FP32 row. -/
def elem32 (row j : Nat) : Nat := row / 2 ^ (32 * j) % 2 ^ 32
/-- Pack elements of `w` bits, the first lowest. -/
def packBits (w : Nat) : List Nat → Nat
  | [] => 0
  | e :: es => e % 2 ^ w + 2 ^ w * packBits w es
/-- The values that a row of an A tile enters the array with, or decodes to before scale and zero point (R291). -/
def rowInts (ty row : Nat) : List Int :=
  (List.range 64).map (fun j => if ty = 0 then toSigned 4 (elem4 row j) else if ty = 1 then bellVal (elem4 row j) else toSigned 8 (elem8 row j))
/-- Steps per row of an element type (R291). -/
def stepsOf (ty : Nat) : Nat := if ty = 0 then 4 else if ty = 1 then 7 else if ty = 2 then 8 else 16

/-- The lattice index of a magnitude (R316); the bounds are FP32 patterns of 2, 6.5, 12, 19, 28, 39.5 and 54.5. -/
def bellIndex (u : Nat) : Nat :=
  if fLe u 0x40000000 then 0 else if fLt u 0x40D00000 then 1 else if fLe u 0x41400000 then 2 else if fLt u 0x41980000 then 3
  else if fLe u 0x41E00000 then 4 else if fLt u 0x421E0000 then 5 else if fLe u 0x425A0000 then 6 else 7

/-- One tile row of a quantised span: codes as unsigned fields, escapes (element, FP32 value), clipped elements. -/
structure QRow where
  codes : List Nat
  esc : List (Nat × Nat)
  clipped : Nat
  deriving DecidableEq, Repr

/-- A quantised span (R319): scale in BF16, zero point, the span's maximum, flags, rows. -/
structure QSpan where
  s : Nat
  z : Int
  m : Nat
  zero : Bool
  under : Bool
  rows : List QRow
  deriving DecidableEq, Repr

/-- The outliers of a row that become escapes: the four of largest magnitude, ties to the lower index, in ascending
index (R320, R322). -/
def pickEsc (xs : List Nat) (out : List Nat) : List Nat :=
  let before (a b : Nat) := fLt (fAbs (xs.getD b 0)) (fAbs (xs.getD a 0)) || (fAbs (xs.getD a 0) == fAbs (xs.getD b 0) && decide (a < b))
  out.filter (fun i => decide (out.countP (fun j => before j i) < 4))

/-- Quantise one tile row of 64 elements (R319, R320). -/
def quantRow (ty s : Nat) (z : Int) (top : Nat) (beyond : Bool) (xs : List Nat) : QRow :=
  let u := fun x => fDiv (fAbs x) s
  let out := (List.range xs.length).filter (fun i => beyond && fLt top (u (xs.getD i 0)))
  if ty = 1 then
    let esc := pickEsc xs out
    { codes := xs.zipIdx.map (fun e =>
        if esc.contains e.2 then 8
        else let k := if out.contains e.2 then 7 else bellIndex (u e.1)
             if k = 0 then 0 else k + (if fNeg e.1 then 8 else 0)),
      esc := esc.map (fun i => (i, xs.getD i 0)), clipped := out.length - esc.length }
  else
    let w := if ty = 0 then 4 else 8
    let lo : Int := if z = 0 then 1 - (2 ^ (w - 1) : Nat) else -(2 ^ (w - 1) : Nat)
    let hi : Int := (2 ^ (w - 1) : Nat) - 1
    { codes := xs.map (fun x => ofSigned w (max lo (min hi (fToInt (fDiv x s) + z)))), esc := [], clipped := out.length }

/-- Cut a list into rows of 64; `fuel` bounds them. -/
def rows64 : Nat → List Nat → List (List Nat)
  | 0, _ => []
  | n + 1, xs => if xs.isEmpty then [] else xs.take 64 :: rows64 n (xs.drop 64)

/-- Quantise a span of FP32 elements under clamps in BF16 (R315, R319). -/
def quantise (ty smin smax : Nat) (xs : List Nat) : QSpan :=
  let smin := fMax (bfWiden smin) 0x00800000
  let smax := fMax (bfWiden smax) smin
  let m := xs.foldl (fun a x => fMax a (fAbs x)) 0
  let rs := rows64 256 xs
  if fAbs m = 0 then
    { s := bfRound smin, z := 0, m := 0, zero := true, under := false,
      rows := rs.map (fun r => { codes := r.map (fun _ => 0), esc := [], clipped := 0 }) }
  else
    let off := ty != 1 && xs.all (fun x => fAbs x == 0 || !fNeg x)
    let w := if ty = 0 then 4 else 8
    let z : Int := if off then -(2 ^ (w - 1) : Nat) else 0
    let top := fOfInt (if ty = 1 then 63 else if off then (2 ^ w : Nat) - 1 else (2 ^ (w - 1) : Nat) - 1)
    let r := fDiv m top
    let beyond := fLt smax r
    let under := fLt r smin
    let s := if beyond then smax else if under then smin else bfWiden (bfRound r)
    { s := bfRound s, z := z, m := m, zero := false, under := under, rows := rs.map (quantRow ty s z top beyond) }

/-- A row tag (R271). -/
def mkTag (s : Nat) (poison zero under clipped : Bool) (esc : Nat) (z : Int) : Nat :=
  s % 2 ^ 16 * 2 ^ 16 + b2n poison * 2 ^ 15 + b2n zero * 2 ^ 14 + b2n under * 2 ^ 13 + b2n clipped * 2 ^ 12 + esc % 8 * 2 ^ 9 +
  ofSigned 8 z * 2
/-- The tag of a row that TLD copies (R277): scale 1.0. -/
def plainTag : Nat := mkTag 0x3F80 false false false false 0 0
/-- The tag of row r of a quantised span (R321). -/
def QSpan.tag (q : QSpan) (r : QRow) : Nat := mkTag q.s false q.zero q.under (r.clipped != 0) r.esc.length q.z
/-- The packed row (R270). -/
def QRow.pack (ty : Nat) (r : QRow) : Nat := packBits (if ty = 2 then 8 else 4) r.codes
/-- The side row of a BELL4 row (R322). -/
def QSpan.side (q : QSpan) (r : QRow) : Nat :=
  unle (le 1 r.esc.length ++ [0] ++ le 2 q.s ++ r.esc.flatMap (fun e => le 1 e.1 ++ [0] ++ le 2 (bfRound e.2)))

/-- Scale of a tag. -/
def tagScale (t : Nat) : Nat := t / 2 ^ 16 % 2 ^ 16
/-- Zero point of a tag. -/
def tagZero (t : Nat) : Int := toSigned 8 (t / 2 % 256)
/-- Poison of a tag. -/
def tagPoison (t : Nat) : Bool := bit t 15

/-- A channel scale: bf16(S × f(b)) (R325, R326), from a tensor scale in BF16 and a block code. -/
def channelScale (scale code : Nat) : Nat :=
  let f := fOfRat ((16 + code % 16 : Nat) : Int) (2 ^ (code / 16 + 5)) false
  bfRound (fMul (bfWiden scale) f)

end Sys2Proof.Machine
end

