-- ==== Sys2Proof/Config.lean ====
section
/-! DEFINITION. What the spec leaves open or takes from secrets it does not give: uninterpreted
constants without a body. Nothing in Lean can evaluate them, so a claim holds whatever they are
(notes/assumptions/7.md and the entry named beside each). -/
namespace Sys2Proof

/-- The rounded floating-point operations of the vector unit (R275): addition, subtraction, multiplication, fused multiply-add, and the
rounding of FP32 lanes to BF16 values. -/
inductive VFloat
  | add
  | sub
  | mul
  | fma
  | round
  deriving DecidableEq, Repr

/-- What the forecaster knows of a quad (R398): its residency state and effective duty, the bundles it issued since the last step, and the core
cycles of work that its isle scheduler reports queued. -/
structure QuadIn where
  state : Nat
  duty : Nat
  issued : Nat
  queued : Nat
  deriving DecidableEq, Repr

/-- The forecaster's inputs at a step (R397, R398): the latest readings, the 32 quads, the frames each pipe accepted, the bytes each stack and each
sound moved, and the drive current and lanes lit of each engine and cartridge. -/
structure ForecastIn where
  readings : List Int
  quads : List QuadIn
  frames : List Nat
  stackBytes : List Nat
  soundBytes : List Nat
  light : List (Nat × Nat)
  deriving DecidableEq, Repr

end Sys2Proof

namespace Sys2Proof.Config

/-- A value the spec leaves open, one for each reading of `State.free` (DESIGN CHOICE, notes/assumptions/7.md). -/
opaque freeNat : Nat → Nat
/-- An open byte string of 32 bytes: the random nonce of R383, one for each reading of `State.free`. -/
opaque freeNonce : Nat → List (BitVec 8)
/-- The result of a class 0 (scalar) instruction word on its three operands, whose opcodes R275 does not
list (notes/assumptions/8.md). -/
opaque scalarResult : BitVec 32 → BitVec 64 → BitVec 64 → BitVec 64 → BitVec 64
/-- Whether a class 1 branch word is taken on its operands (R275 gives no opcode; notes/assumptions/8.md). -/
opaque branchTaken : BitVec 32 → BitVec 64 → BitVec 64 → Bool
/-- Which rounded floating-point operation on which lanes a class 2 word is, if it is one: R275 lists the operations and no opcode
(notes/assumptions/8.md). The Boolean says BF16 lanes. -/
opaque vectorFloat : BitVec 32 → Option (VFloat × Bool)
/-- The result of any other class 2 arithmetic word on its three vector operands (notes/assumptions/8.md). -/
opaque vectorResult : BitVec 32 → BitVec 512 → BitVec 512 → BitVec 512 → BitVec 512
/-- The set of the flow-record cache in which a slot's record is kept (R238; notes/assumptions/128.md). -/
opaque recordSet : Nat → Nat
/-- Whether an ECDSA signature verifies: public key, message digest, r ‖ s (R99, R383; notes/assumptions/10.md). -/
opaque ecdsaVerify : List (BitVec 8) → List (BitVec 8) → List (BitVec 8) → Bool
/-- The signature that the attestation key derived from fused secrets gives a digest: 96 bytes r ‖ s (R106, R108;
notes/assumptions/10.md). -/
opaque attestSign : List (BitVec 8) → List (BitVec 8) → List (BitVec 8)
/-- The public point of the attestation key derived from fused secrets: 96 bytes x ‖ y (R106; notes/assumptions/10.md). -/
opaque attestPoint : List (BitVec 8) → List (BitVec 8)
/-- Whether a cartridge certificate chains to the Gnomet cartridge root (R383 step 3; notes/assumptions/10.md). -/
opaque cartCertGood : List (BitVec 8) → Bool
/-- The subject serial of a cartridge certificate (R383). -/
opaque cartCertSerial : List (BitVec 8) → Nat
/-- The public key of a cartridge certificate (R383). -/
opaque cartCertKey : List (BitVec 8) → List (BitVec 8)
/-- The compatibility record that a cartridge certificate carries (R383 step 6). -/
opaque cartCertRecord : List (BitVec 8) → List (BitVec 8)
/-- The device identification register of the TAP (R475, which gives no value; notes/assumptions/112.md). -/
opaque idcode : BitVec 32
/-- The core cycles of a bundle's command list, by the bundle's digest: what a load records of its slot (R398); the spec gives no figure
(notes/assumptions/11.md). -/
opaque commandCost : List (BitVec 8) → Nat
/-- The forecaster's 10 ms value of a sensor (R397, R399): step number, inputs, sensor (notes/assumptions/11.md). -/
opaque forecast : Nat → ForecastIn → Nat → Int
/-- The forecaster's peak of a unit within its horizon (R399): step number, inputs, unit. -/
opaque forecastPeak : Nat → ForecastIn → Nat → Int

end Sys2Proof.Config
end

