-- ==== Sys2Proof/Machine/Dict.lean ====
section
/-! DEFINITION. The object dictionary (R43 to R48): a row for each object of the final tables of spec/00 to
spec/18, with type, access, default, range and whether a change raises an event; and the names of the
objects as keys, index × 256 + subindex. -/
namespace Sys2Proof.Machine

/-- Access kinds (R50). -/
inductive Acc
  | const | ro | rw | ow | wo | tw
  deriving DecidableEq, Repr

/-- The range an object's table states for its value (R48). -/
inductive Dom
  | any
  | range (lo hi : Nat)
  | srange (lo hi : Int)
  | enum (vs : List Nat)
  | orSpecial (lo hi : Nat) (vs : List Nat)
  deriving DecidableEq, Repr

/-- A row of the dictionary: indexes `idx` to `idx + inst - 1` (for a partition object the offset form
0x8000 + o of R46), subindexes `sub` to `sub + n - 1`, type code (R47), access, default, range, event. -/
structure DRow where
  idx : Nat
  inst : Nat
  sub : Nat
  n : Nat
  ty : Nat
  acc : Acc
  dflt : Nat
  dom : Dom
  ev : Bool
  deriving DecidableEq, Repr

/-- Objects of the 0x1000 range (R45). -/
def dict1000 : List DRow := [
  ⟨0x1000, 1, 0x1, 1, 11, .const, 0, .any, false⟩,
  ⟨0x1000, 1, 0x2, 1, 11, .const, 0, .any, false⟩,
  ⟨0x1000, 1, 0x3, 1, 11, .const, 0, .any, false⟩,
  ⟨0x1000, 1, 0x4, 1, 12, .const, 0, .any, false⟩,
  ⟨0x1000, 1, 0x5, 1, 2, .const, 0, .any, false⟩,
  ⟨0x1000, 1, 0x6, 1, 5, .const, 0, .any, false⟩,
  ⟨0x1000, 1, 0x7, 1, 3, .const, 0, .any, false⟩,
  ⟨0x1000, 1, 0x8, 1, 3, .const, 0x80, .any, false⟩,
  ⟨0x1000, 1, 0x9, 1, 13, .const, 0, .any, false⟩,
  ⟨0x1000, 1, 0xA, 1, 1, .const, 0, .any, false⟩,
  ⟨0x1000, 1, 0xB, 1, 1, .ro, 0, .any, true⟩,
  ⟨0x1000, 1, 0xC, 1, 2, .const, 4, .any, false⟩,
  ⟨0x1000, 1, 0xD, 1, 2, .const, 4, .any, false⟩,
  ⟨0x1000, 1, 0xE, 1, 5, .const, 0x1800000000, .any, false⟩,
  ⟨0x1000, 1, 0xF, 1, 4, .const, 0x400000, .any, false⟩,
  ⟨0x1000, 1, 0x10, 1, 2, .const, 0x10, .any, false⟩,
  ⟨0x1000, 1, 0x11, 1, 2, .const, 0x40, .any, false⟩]

/-- Objects of the 0x1100 range (R45). -/
def dict1100 : List DRow := [
  ⟨0x1100, 1, 0x1, 1, 3, .const, 0x100, .any, false⟩,
  ⟨0x1100, 1, 0x2, 1, 3, .const, 0x400, .any, false⟩,
  ⟨0x1100, 1, 0x3, 1, 2, .ow, 0x10, .range 0 126, false⟩,
  ⟨0x1100, 1, 0x4, 1, 12, .ow, 3, .enum [1, 2, 3], false⟩,
  ⟨0x1100, 1, 0x5, 1, 3, .ow, 0x88B5, .range 1536 65535, false⟩,
  ⟨0x1100, 1, 0x6, 1, 4, .ow, 0xFFFFFFFF, .any, false⟩,
  ⟨0x1100, 1, 0x7, 1, 4, .ow, 0, .any, false⟩,
  ⟨0x1100, 1, 0x8, 1, 5, .const, 0, .any, false⟩,
  ⟨0x1100, 1, 0x9, 1, 4, .ow, 0x1388, .range 1000 60000, false⟩,
  ⟨0x1110, 8, 0x1, 1, 12, .ro, 0, .any, false⟩,
  ⟨0x1110, 8, 0x2, 1, 12, .ro, 0, .any, false⟩,
  ⟨0x1110, 8, 0x3, 1, 5, .ro, 0, .any, false⟩,
  ⟨0x1110, 8, 0x4, 1, 2, .ro, 0xFF, .any, false⟩,
  ⟨0x1110, 8, 0x5, 1, 10, .ro, 0, .any, false⟩,
  ⟨0x1110, 8, 0x6, 1, 4, .ro, 0, .any, false⟩,
  ⟨0x1120, 1, 0x1, 1, 2, .ro, 0xFF, .any, true⟩,
  ⟨0x1120, 1, 0x2, 1, 4, .ro, 0, .any, false⟩,
  ⟨0x1120, 1, 0x3, 1, 3, .ro, 0, .any, false⟩,
  ⟨0x1120, 1, 0x4, 1, 2, .ro, 0, .any, false⟩,
  ⟨0x1130, 1, 0x1, 16, 2, .ro, 0xFF, .any, true⟩]

/-- Objects of the 0x1200 range (R45). -/
def dict1200 : List DRow := [
  ⟨0x1200, 1, 0x1, 1, 4, .ro, 0, .any, false⟩,
  ⟨0x1200, 1, 0x2, 1, 1, .ow, 1, .range 0 1, false⟩,
  ⟨0x1200, 1, 0x3, 1, 1, .ow, 0, .range 0 1, false⟩,
  ⟨0x1200, 1, 0x4, 1, 1, .ro, 1, .any, true⟩,
  ⟨0x1200, 1, 0x5, 1, 1, .ro, 0, .any, true⟩,
  ⟨0x1200, 1, 0x6, 1, 1, .ro, 0, .any, false⟩,
  ⟨0x1200, 1, 0x7, 1, 1, .ro, 0, .any, true⟩,
  ⟨0x1200, 1, 0x8, 1, 12, .ro, 0, .any, false⟩,
  ⟨0x1210, 1, 0x1, 8, 13, .ro, 0, .any, false⟩,
  ⟨0x1210, 1, 0x9, 1, 4, .ro, 0, .any, false⟩,
  ⟨0x1210, 1, 0xA, 1, 13, .ro, 0, .any, false⟩,
  ⟨0x1210, 1, 0xB, 1, 1, .ro, 0, .any, true⟩,
  ⟨0x1220, 1, 0x1, 1, 3, .ro, 0, .any, false⟩,
  ⟨0x1220, 1, 0x2, 1, 13, .ro, 0, .any, false⟩,
  ⟨0x1220, 1, 0x3, 1, 13, .const, 0, .any, false⟩,
  ⟨0x1220, 1, 0x4, 1, 13, .const, 0, .any, false⟩,
  ⟨0x1230, 1, 0x1, 1, 4, .ro, 0, .any, false⟩,
  ⟨0x1230, 1, 0x2, 1, 4, .ro, 0, .any, false⟩,
  ⟨0x1230, 1, 0x3, 1, 4, .ro, 0, .any, false⟩,
  ⟨0x1230, 1, 0x4, 1, 4, .ro, 0, .any, false⟩,
  ⟨0x1230, 1, 0x5, 1, 3, .const, 0, .any, false⟩,
  ⟨0x1230, 1, 0x6, 1, 13, .ro, 0, .any, false⟩,
  ⟨0x1230, 1, 0x7, 1, 13, .ro, 0, .any, false⟩,
  ⟨0x1240, 1, 0x1, 1, 12, .ro, 0, .any, true⟩,
  ⟨0x1240, 1, 0x2, 1, 4, .ro, 0, .any, false⟩,
  ⟨0x1240, 1, 0x3, 1, 4, .ro, 0, .any, false⟩,
  ⟨0x1240, 1, 0x4, 1, 1, .ow, 0, .range 0 1, false⟩,
  ⟨0x1250, 1, 0x1, 1, 13, .wo, 0, .any, false⟩,
  ⟨0x1250, 1, 0x2, 1, 13, .wo, 0, .any, false⟩,
  ⟨0x1250, 1, 0x3, 1, 13, .wo, 0, .any, false⟩,
  ⟨0x1250, 1, 0x4, 1, 12, .ro, 0, .any, true⟩,
  ⟨0x1250, 1, 0x5, 1, 4, .ro, 0, .any, false⟩,
  ⟨0x1250, 1, 0x6, 1, 12, .ro, 0, .any, false⟩,
  ⟨0x1250, 1, 0x7, 1, 1, .wo, 0, .range 0 1, false⟩]

/-- Objects of the 0x1300 range (R45). -/
def dict1300 : List DRow := [
  ⟨0x1300, 1, 0x1, 1, 12, .ro, 1, .any, true⟩,
  ⟨0x1300, 1, 0x2, 1, 1, .ow, 0, .range 0 1, false⟩,
  ⟨0x1300, 1, 0x3, 1, 1, .ow, 1, .range 0 1, false⟩,
  ⟨0x1300, 1, 0x4, 1, 4, .ow, 0xA, .range 1 60000, false⟩,
  ⟨0x1300, 1, 0x5, 1, 2, .ow, 0x3F, .any, false⟩,
  ⟨0x1300, 1, 0x6, 1, 2, .ro, 0, .any, false⟩,
  ⟨0x1300, 1, 0x7, 1, 12, .ro, 0, .any, false⟩,
  ⟨0x1300, 1, 0x8, 1, 1, .ro, 0, .any, true⟩,
  ⟨0x1300, 1, 0x9, 1, 4, .ow, 0x3E8, .range 100 64000, false⟩,
  ⟨0x1310, 1, 0x1, 1, 2, .ow, 8, .range 1 255, false⟩,
  ⟨0x1310, 1, 0x2, 1, 4, .ow, 0x32, .range 1 100000, false⟩,
  ⟨0x1310, 1, 0x3, 1, 4, .ow, 0x64, .range 1 60000, false⟩,
  ⟨0x1310, 1, 0x4, 1, 12, .ow, 3, .enum [1, 2, 3], false⟩,
  ⟨0x1310, 1, 0x5, 1, 5, .ro, 0, .any, false⟩,
  ⟨0x1320, 1, 0x1, 4, 2, .ow, 0x10, .range 1 16, false⟩,
  ⟨0x1320, 1, 0x5, 1, 13, .ro, 0, .any, false⟩,
  ⟨0x1330, 1, 0x1, 1, 10, .ro, 0, .any, false⟩,
  ⟨0x1330, 1, 0x2, 1, 10, .wo, 0, .any, false⟩,
  ⟨0x1330, 1, 0x3, 1, 1, .ro, 0, .any, true⟩,
  ⟨0x1330, 1, 0x4, 1, 7, .ro, 0, .any, false⟩,
  ⟨0x1330, 1, 0x5, 1, 4, .ow, 0xF4240, .range 1000 1000000000, false⟩,
  ⟨0x1340, 1, 0x1, 1, 2, .ro, 0, .any, true⟩,
  ⟨0x1340, 1, 0x2, 1, 2, .ro, 0, .any, true⟩,
  ⟨0x1340, 1, 0x3, 1, 12, .ro, 0, .any, false⟩,
  ⟨0x1340, 1, 0x4, 1, 2, .ro, 0, .any, false⟩,
  ⟨0x1340, 1, 0x5, 1, 2, .ow, 0x4F, .any, false⟩,
  ⟨0x1340, 1, 0x6, 1, 2, .ro, 0, .any, false⟩]

/-- Objects of the 0x1400 range (R45). -/
def dict1400 : List DRow := [
  ⟨0x1400, 1, 0x1, 1, 13, .ro, 0, .any, false⟩,
  ⟨0x1400, 1, 0x2, 1, 13, .ro, 0, .any, true⟩,
  ⟨0x1400, 1, 0x3, 1, 13, .ro, 0, .any, false⟩,
  ⟨0x1400, 1, 0x4, 1, 13, .ro, 0, .any, false⟩,
  ⟨0x1400, 1, 0x5, 1, 3, .const, 0, .any, false⟩,
  ⟨0x1400, 1, 0x6, 1, 2, .ow, 0x62, .range 80 98, false⟩,
  ⟨0x1400, 1, 0x7, 1, 2, .ow, 3, .range 1 10, false⟩,
  ⟨0x1400, 1, 0x8, 1, 2, .ow, 0x5F, .range 80 100, false⟩,
  ⟨0x1400, 1, 0x9, 1, 3, .ow, 0x14, .range 1 1000, false⟩,
  ⟨0x1400, 1, 0xA, 1, 3, .ow, 0xFFFF, .any, false⟩,
  ⟨0x1400, 1, 0xB, 1, 3, .ro, 0, .any, true⟩,
  ⟨0x1400, 1, 0xC, 1, 13, .ro, 0, .any, false⟩,
  ⟨0x1400, 1, 0xD, 1, 1, .ro, 0, .any, true⟩,
  ⟨0x1400, 1, 0xE, 1, 2, .ro, 0xFF, .any, false⟩,
  ⟨0x1400, 1, 0xF, 1, 1, .wo, 0, .range 0 1, false⟩,
  ⟨0x1400, 1, 0x10, 1, 1, .ow, 0, .range 0 1, false⟩,
  ⟨0x1400, 1, 0x11, 1, 2, .ow, 0x55, .range 50 95, false⟩,
  ⟨0x1400, 1, 0x12, 1, 1, .ro, 0, .any, true⟩,
  ⟨0x1400, 1, 0x13, 1, 13, .ro, 0, .any, false⟩,
  ⟨0x1400, 1, 0x14, 1, 13, .ro, 0, .any, false⟩]

/-- Objects of the 0x1500 range (R45). -/
def dict1500 : List DRow := [
  ⟨0x1500, 1, 0x1, 1, 13, .ro, 0, .any, true⟩,
  ⟨0x1500, 1, 0x2, 1, 4, .ro, 0, .any, false⟩,
  ⟨0x1500, 1, 0x3, 1, 2, .ro, 0, .any, true⟩,
  ⟨0x1500, 1, 0x4, 1, 13, .ro, 0, .any, false⟩,
  ⟨0x1500, 1, 0x5, 1, 2, .wo, 0, .any, false⟩,
  ⟨0x1500, 1, 0x6, 1, 1, .ow, 0, .range 0 1, false⟩,
  ⟨0x1500, 1, 0x7, 1, 4, .ow, 0x64, .range 10 10000, false⟩,
  ⟨0x1500, 1, 0x8, 1, 4, .ow, 0x1F4, .range 100 100000, false⟩,
  ⟨0x1500, 1, 0x9, 1, 3, .ow, 0xA, .range 1 1000, false⟩,
  ⟨0x1500, 1, 0xA, 1, 2, .ow, 4, .range 1 64, false⟩,
  ⟨0x1500, 1, 0xB, 1, 1, .ro, 0, .any, true⟩,
  ⟨0x1510, 1, 0x1, 1, 2, .ro, 0, .any, false⟩,
  ⟨0x1510, 1, 0x2, 1, 2, .ro, 0, .any, false⟩,
  ⟨0x1510, 1, 0x3, 1, 2, .ro, 0, .any, false⟩]

/-- Objects of the 0x1600 range (R45). -/
def dict1600 : List DRow := [
  ⟨0x1600, 1, 0x1, 1, 13, .ro, 0, .any, false⟩,
  ⟨0x1600, 1, 0x2, 1, 13, .ro, 0, .any, false⟩,
  ⟨0x1610, 1, 0x1, 127, 5, .ro, 0, .any, false⟩,
  ⟨0x1620, 1, 0x1, 1, 2, .ow, 0, .any, false⟩,
  ⟨0x1620, 1, 0x2, 1, 12, .ow, 0, .enum [0, 1], false⟩,
  ⟨0x1620, 1, 0x3, 1, 3, .ow, 0x64, .range 1 10000, false⟩,
  ⟨0x1620, 1, 0x4, 1, 2, .ow, 0xFF, .orSpecial 0 3 [0xFF], false⟩,
  ⟨0x1620, 1, 0x5, 1, 3, .ow, 0, .range 0 640, false⟩,
  ⟨0x1620, 1, 0x6, 1, 12, .ro, 0, .any, true⟩,
  ⟨0x1620, 1, 0x7, 1, 13, .ro, 0, .any, false⟩,
  ⟨0x1620, 1, 0x8, 1, 13, .ro, 0, .any, false⟩,
  ⟨0x1620, 1, 0x9, 1, 5, .ro, 0, .any, false⟩,
  ⟨0x1630, 1, 0x1, 1, 4, .ow, 0x32, .range 1 10000, false⟩,
  ⟨0x1630, 1, 0x2, 1, 1, .ow, 0, .range 0 1, false⟩,
  ⟨0x1630, 1, 0x3, 1, 13, .ro, 0, .any, false⟩,
  ⟨0x1630, 1, 0x4, 1, 1, .ro, 0, .any, true⟩,
  ⟨0x1630, 1, 0x5, 1, 1, .wo, 0, .range 0 1, false⟩,
  ⟨0x1630, 1, 0x6, 1, 1, .wo, 0, .range 0 1, false⟩,
  ⟨0x1630, 1, 0x7, 1, 5, .ow, 0, .any, false⟩,
  ⟨0x1630, 1, 0x8, 1, 4, .ow, 0x40, .range 1 16777216, false⟩,
  ⟨0x1630, 1, 0x9, 1, 13, .ro, 0, .any, false⟩]

/-- Objects of the 0x2000 range (R45). -/
def dict2000 : List DRow := [
  ⟨0x2000, 1, 0x1, 4, 12, .ow, 1, .enum [1, 2, 3], false⟩,
  ⟨0x2000, 1, 0x5, 4, 12, .ow, 1, .enum [1, 2, 3], false⟩,
  ⟨0x2000, 1, 0x9, 1, 4, .ow, 0xFFFFFFFF, .any, false⟩,
  ⟨0x2000, 1, 0xA, 1, 4, .ow, 0xFFFFFFFF, .any, false⟩,
  ⟨0x2000, 1, 0xB, 1, 4, .ro, 0, .any, false⟩,
  ⟨0x2000, 1, 0xC, 1, 4, .ro, 0, .any, false⟩,
  ⟨0x2000, 1, 0xD, 1, 2, .ro, 0, .any, true⟩,
  ⟨0x2000, 1, 0xE, 1, 4, .ow, 0xC8, .range 0 10000, false⟩,
  ⟨0x2000, 1, 0xF, 1, 4, .ow, 0x64, .range 1 10000, false⟩,
  ⟨0x2000, 1, 0x10, 1, 3, .ow, 0x2400, .range 1518 9600, false⟩,
  ⟨0x2000, 1, 0x11, 1, 1, .ow, 0, .range 0 1, false⟩,
  ⟨0x2000, 1, 0x12, 1, 3, .ow, 0x1F4, .range 100 5000, false⟩,
  ⟨0x2010, 32, 0x1, 1, 12, .ro, 1, .any, true⟩,
  ⟨0x2010, 32, 0x2, 1, 4, .ro, 0, .any, false⟩,
  ⟨0x2010, 32, 0x3, 1, 5, .ro, 0, .any, false⟩,
  ⟨0x2010, 32, 0x4, 1, 5, .ro, 0, .any, false⟩,
  ⟨0x2010, 32, 0x5, 1, 5, .ro, 0, .any, false⟩,
  ⟨0x2010, 32, 0x6, 1, 5, .ro, 0, .any, false⟩,
  ⟨0x2010, 32, 0x7, 1, 5, .ro, 0, .any, false⟩,
  ⟨0x2010, 32, 0x8, 1, 5, .ro, 0, .any, false⟩,
  ⟨0x2010, 32, 0x9, 1, 5, .ro, 0, .any, false⟩,
  ⟨0x2010, 32, 0xA, 1, 4, .ro, 0, .any, false⟩,
  ⟨0x2010, 32, 0xB, 1, 4, .ro, 0, .any, false⟩,
  ⟨0x2010, 32, 0xC, 1, 4, .ro, 0, .any, false⟩,
  ⟨0x2030, 32, 0x1, 1, 12, .ro, 1, .any, true⟩,
  ⟨0x2030, 32, 0x2, 1, 4, .ro, 0, .any, false⟩,
  ⟨0x2030, 32, 0x3, 1, 5, .ro, 0, .any, false⟩,
  ⟨0x2030, 32, 0x4, 1, 5, .ro, 0, .any, false⟩,
  ⟨0x2030, 32, 0x5, 1, 5, .ro, 0, .any, false⟩,
  ⟨0x2030, 32, 0x6, 1, 5, .ro, 0, .any, false⟩,
  ⟨0x2030, 32, 0x7, 1, 5, .ro, 0, .any, false⟩,
  ⟨0x2030, 32, 0x8, 1, 5, .ro, 0, .any, false⟩,
  ⟨0x2030, 32, 0x9, 1, 5, .ro, 0, .any, false⟩,
  ⟨0x2030, 32, 0xA, 1, 4, .ro, 0, .any, false⟩,
  ⟨0x2030, 32, 0xB, 1, 4, .ro, 0, .any, false⟩]

/-- Objects of the 0x2100 range (R45). -/
def dict2100 : List DRow := [
  ⟨0x2100, 1, 0x1, 1, 3, .ow, 0x12B5, .range 1 65535, false⟩,
  ⟨0x2100, 1, 0x2, 1, 3, .ow, 0x17C1, .range 1 65535, false⟩,
  ⟨0x2100, 1, 0x3, 1, 12, .ow, 1, .enum [1, 2], false⟩,
  ⟨0x2100, 1, 0x4, 1, 2, .ow, 0, .range 0 15, false⟩,
  ⟨0x2100, 1, 0x5, 1, 3, .ow, 0x88B6, .range 1536 65535, false⟩,
  ⟨0x2100, 1, 0x6, 1, 3, .ow, 0, .range 0 65535, false⟩,
  ⟨0x2100, 1, 0x7, 1, 4, .ow, 0, .range 0 800000000, false⟩,
  ⟨0x2100, 1, 0x8, 1, 4, .ow, 0x4000, .range 1518 16777216, false⟩,
  ⟨0x2100, 1, 0x9, 1, 4, .ow, 0, .range 0 800000000, false⟩,
  ⟨0x2100, 1, 0xA, 1, 4, .ow, 0x4000, .range 1518 16777216, false⟩,
  ⟨0x2100, 1, 0xB, 1, 4, .ow, 0, .range 0 0xFFFFF, false⟩,
  ⟨0x2100, 1, 0xC, 1, 1, .wo, 0, .range 0 1, false⟩,
  ⟨0x2100, 1, 0xD, 3, 5, .ro, 0, .any, false⟩]

/-- Objects of the 0x2200 range (R45). -/
def dict2200 : List DRow := [
  ⟨0x2200, 1, 0x1, 1, 4, .ro, 0, .any, false⟩,
  ⟨0x2200, 1, 0x2, 1, 2, .ow, 0x10, .range 1 64, false⟩,
  ⟨0x2200, 1, 0x3, 1, 4, .ro, 0, .any, false⟩,
  ⟨0x2200, 1, 0x4, 1, 4, .ro, 0, .any, false⟩,
  ⟨0x2200, 1, 0x5, 1, 4, .ro, 0, .any, false⟩,
  ⟨0x2200, 1, 0x6, 1, 4, .ow, 0x3E8, .range 100 60000, false⟩,
  ⟨0x2200, 1, 0x7, 1, 5, .ro, 0, .any, false⟩]

/-- Objects of the 0x2300 range (R45). -/
def dict2300 : List DRow := [
  ⟨0x2300, 1, 0x1, 1, 1, .ow, 0, .range 0 1, false⟩,
  ⟨0x2300, 1, 0x2, 1, 12, .ow, 0, .enum [0, 1, 2], false⟩,
  ⟨0x2300, 1, 0x3, 1, 12, .ow, 0, .enum [0, 1], false⟩,
  ⟨0x2300, 1, 0x4, 1, 5, .ow, 0, .any, false⟩,
  ⟨0x2300, 1, 0x5, 1, 5, .ow, 0, .any, false⟩,
  ⟨0x2300, 1, 0x6, 1, 4, .ow, 0, .range 0 262144, false⟩,
  ⟨0x2300, 1, 0x7, 1, 3, .ow, 0x400, .range 64 4096, false⟩,
  ⟨0x2300, 1, 0x8, 1, 4, .ro, 0, .any, false⟩,
  ⟨0x2300, 1, 0x9, 1, 13, .ro, 0, .any, true⟩]

/-- Objects of the 0x2400 range (R45). -/
def dict2400 : List DRow := [
  ⟨0x2400, 1, 0x1, 1, 3, .ow, 0x300, .range 64 1024, false⟩,
  ⟨0x2400, 1, 0x2, 1, 3, .ow, 0x200, .range 0 1023, false⟩,
  ⟨0x2400, 1, 0x3, 1, 3, .ow, 0x300, .range 64 1024, false⟩,
  ⟨0x2400, 1, 0x4, 1, 3, .ow, 0x200, .range 0 1023, false⟩,
  ⟨0x2400, 1, 0x5, 1, 3, .ow, 0x88B6, .range 1536 65535, false⟩,
  ⟨0x2400, 1, 0x6, 1, 2, .ro, 0, .any, true⟩,
  ⟨0x2400, 1, 0x7, 1, 5, .ro, 0, .any, false⟩,
  ⟨0x2400, 1, 0x8, 1, 13, .ro, 0, .any, false⟩]

/-- Objects of the 0x2500 range (R45). -/
def dict2500 : List DRow := [
  ⟨0x2500, 1, 0x1, 1, 2, .const, 0x10, .any, false⟩,
  ⟨0x2500, 1, 0x2, 1, 4, .const, 0x400000, .any, false⟩,
  ⟨0x2500, 1, 0x3, 1, 4, .ro, 0, .any, false⟩,
  ⟨0x2500, 1, 0x4, 1, 3, .ro, 0, .any, false⟩,
  ⟨0x2500, 1, 0x5, 1, 3, .const, 1, .any, false⟩]

/-- Objects of the 0x3000 range (R45). -/
def dict3000 : List DRow := [
  ⟨0x3000, 1, 0x1, 1, 2, .const, 0x20, .any, false⟩,
  ⟨0x3000, 1, 0x2, 1, 2, .const, 8, .any, false⟩,
  ⟨0x3000, 1, 0x3, 1, 3, .const, 0x300, .any, false⟩,
  ⟨0x3000, 1, 0x4, 1, 4, .const, 0x3F0000, .any, false⟩,
  ⟨0x3000, 1, 0x5, 1, 4, .const, 0x3F0000, .any, false⟩,
  ⟨0x3000, 1, 0x6, 1, 2, .const, 4, .any, false⟩,
  ⟨0x3000, 1, 0x7, 1, 13, .ro, 0, .any, false⟩,
  ⟨0x3000, 1, 0x8, 1, 13, .ro, 0, .any, true⟩]

/-- Objects of the 0x3100 range (R45). -/
def dict3100 : List DRow := [
  ⟨0x3100, 1, 0x1, 1, 3, .const, 0x1000, .any, false⟩,
  ⟨0x3100, 1, 0x2, 1, 2, .const, 9, .any, false⟩,
  ⟨0x3100, 1, 0x3, 1, 2, .const, 0x10, .any, false⟩,
  ⟨0x3100, 1, 0x4, 1, 13, .const, 0, .any, false⟩,
  ⟨0x3100, 1, 0x5, 1, 13, .ro, 0, .any, false⟩,
  ⟨0x3100, 1, 0x6, 1, 13, .ro, 0, .any, false⟩,
  ⟨0x3100, 1, 0x7, 1, 13, .const, 0, .any, false⟩,
  ⟨0x3100, 1, 0x8, 1, 2, .const, 4, .any, false⟩,
  ⟨0x3100, 1, 0x9, 1, 13, .ro, 0, .any, false⟩,
  ⟨0x3100, 1, 0xA, 1, 1, .wo, 0, .range 0 1, false⟩]

/-- Objects of the 0x3200 range (R45). -/
def dict3200 : List DRow := [
  ⟨0x3200, 1, 0x1, 1, 3, .const, 0x4000, .any, false⟩,
  ⟨0x3200, 1, 0x2, 1, 3, .ro, 0, .any, false⟩,
  ⟨0x3200, 1, 0x3, 1, 5, .ro, 0, .any, false⟩,
  ⟨0x3200, 1, 0x4, 1, 5, .ro, 0, .any, false⟩,
  ⟨0x3200, 1, 0x5, 1, 5, .ro, 0, .any, false⟩]

/-- Objects of the 0x3300 range (R45). -/
def dict3300 : List DRow := [
  ⟨0x3300, 1, 0x1, 1, 3, .ro, 0x1F40, .any, false⟩,
  ⟨0x3300, 1, 0x2, 1, 2, .ow, 0, .range 0 63, false⟩,
  ⟨0x3300, 1, 0x3, 1, 5, .ow, 0, .any, false⟩,
  ⟨0x3300, 1, 0x4, 1, 3, .ow, 2, .range 1 23552, false⟩,
  ⟨0x3300, 1, 0x5, 1, 2, .ow, 0xFF, .orSpecial 0 15 [0xF0, 0xFF], false⟩,
  ⟨0x3300, 1, 0x6, 1, 1, .wo, 0, .range 0 1, false⟩,
  ⟨0x3300, 1, 0x7, 1, 13, .ro, 0, .any, false⟩]

/-- Objects of the 0x4000 range (R45). -/
def dict4000 : List DRow := [
  ⟨0x4000, 1, 0x1, 1, 4, .ow, 0, .any, false⟩,
  ⟨0x4000, 1, 0x2, 1, 2, .ow, 0xFF, .orSpecial 0 63 [0xFF], false⟩,
  ⟨0x4000, 1, 0x3, 1, 2, .ow, 0, .any, false⟩,
  ⟨0x4000, 1, 0x4, 1, 2, .ro, 0, .any, true⟩,
  ⟨0x4000, 1, 0x5, 1, 3, .ow, 0x1F4, .range 100 5000, false⟩,
  ⟨0x4000, 1, 0x6, 1, 5, .ro, 0, .any, true⟩,
  ⟨0x4000, 1, 0x7, 1, 3, .ow, 0, .any, false⟩,
  ⟨0x4000, 1, 0x8, 1, 13, .ro, 0, .any, false⟩,
  ⟨0x4000, 1, 0x9, 1, 2, .wo, 0, .range 0 63, false⟩,
  ⟨0x4000, 1, 0xA, 1, 2, .wo, 0, .range 0 63, false⟩,
  ⟨0x4000, 1, 0xB, 1, 2, .ow, 0, .range 0 255, false⟩,
  ⟨0x4000, 1, 0xC, 1, 2, .ow, 0, .range 0 63, false⟩,
  ⟨0x4000, 1, 0xD, 1, 1, .wo, 0, .range 0 1, false⟩,
  ⟨0x4000, 1, 0xE, 1, 12, .ro, 0, .any, true⟩,
  ⟨0x4000, 1, 0xF, 1, 13, .ro, 0, .any, true⟩,
  ⟨0x4000, 1, 0x10, 1, 13, .ro, 0, .any, false⟩,
  ⟨0x4000, 1, 0x11, 1, 13, .ro, 0, .any, false⟩,
  ⟨0x4010, 8, 0x1, 1, 12, .ro, 0, .any, true⟩,
  ⟨0x4010, 8, 0x2, 1, 2, .ro, 0xFF, .any, false⟩,
  ⟨0x4010, 8, 0x3, 1, 4, .ro, 0, .any, false⟩,
  ⟨0x4010, 8, 0x4, 1, 5, .ro, 0, .any, false⟩,
  ⟨0x4010, 8, 0x5, 1, 5, .ro, 0, .any, false⟩]

/-- Objects of the 0x4100 range (R45). -/
def dict4100 : List DRow := [
  ⟨0x4100, 1, 0x1, 1, 1, .ow, 0, .range 0 1, false⟩,
  ⟨0x4100, 1, 0x2, 1, 3, .ow, 0x258, .range 60 3600, false⟩,
  ⟨0x4100, 1, 0x3, 1, 1, .ow, 1, .range 0 1, false⟩,
  ⟨0x4100, 1, 0x4, 1, 2, .ro, 0, .any, true⟩,
  ⟨0x4100, 1, 0x5, 1, 2, .ro, 0, .any, true⟩,
  ⟨0x4100, 1, 0x6, 1, 6, .ow, 0xFCE0, .srange (-2000) (1000), false⟩,
  ⟨0x4100, 1, 0x7, 1, 6, .ow, 0xFC18, .srange (-2000) (1000), false⟩,
  ⟨0x4100, 1, 0x8, 1, 6, .ow, 0x190, .srange (-1000) (1000), false⟩,
  ⟨0x4100, 1, 0x9, 1, 6, .ow, 0xFE0C, .srange (-2000) (1000), false⟩,
  ⟨0x4100, 1, 0xA, 1, 6, .ow, 0x1F4, .srange (-1000) (1000), false⟩,
  ⟨0x4100, 1, 0xB, 1, 6, .ow, 0x3E8, .srange (0) (2000), false⟩,
  ⟨0x4100, 1, 0xC, 1, 13, .ro, 0, .any, true⟩,
  ⟨0x4100, 1, 0xD, 1, 13, .ro, 0, .any, false⟩,
  ⟨0x4110, 8, 0x1, 1, 12, .ro, 0, .any, true⟩,
  ⟨0x4110, 8, 0x2, 1, 5, .ro, 0, .any, false⟩,
  ⟨0x4110, 8, 0x3, 1, 4, .ro, 0, .any, false⟩,
  ⟨0x4110, 8, 0x4, 1, 12, .ro, 0, .any, false⟩,
  ⟨0x4110, 8, 0x5, 1, 4, .ro, 0, .any, false⟩,
  ⟨0x4110, 8, 0x6, 1, 5, .ro, 0, .any, false⟩,
  ⟨0x4110, 8, 0x7, 1, 3, .ro, 0, .any, false⟩,
  ⟨0x4110, 8, 0x8, 1, 12, .ro, 0, .any, true⟩,
  ⟨0x4110, 8, 0x9, 1, 4, .ro, 0, .any, false⟩,
  ⟨0x4110, 8, 0xA, 1, 6, .ro, 0, .any, false⟩,
  ⟨0x4110, 8, 0xB, 1, 2, .ow, 0x64, .range 90 110, false⟩,
  ⟨0x4110, 8, 0xC, 1, 1, .wo, 0, .range 0 1, false⟩,
  ⟨0x4110, 8, 0xD, 1, 4, .ro, 0, .any, false⟩,
  ⟨0x4110, 8, 0xE, 1, 4, .ro, 0, .any, false⟩,
  ⟨0x4110, 8, 0xF, 1, 1, .ro, 0, .any, false⟩]

/-- Objects of the partition blocks, as offsets from 0x8000 (R46), part 1. -/
def dict8000a : List DRow := [
  ⟨0x8000, 1, 0x1, 1, 4, .ow, 0, .any, false⟩,
  ⟨0x8000, 1, 0x2, 1, 4, .ow, 0, .any, false⟩,
  ⟨0x8000, 1, 0x3, 1, 3, .ow, 0, .range 0 4095, false⟩,
  ⟨0x8000, 1, 0x4, 1, 3, .ow, 0xFFF, .range 0 4095, false⟩,
  ⟨0x8000, 1, 0x5, 1, 4, .tw, 0, .any, false⟩,
  ⟨0x8000, 1, 0x6, 1, 4, .tw, 0, .any, false⟩,
  ⟨0x8000, 1, 0x7, 1, 4, .tw, 0, .any, false⟩,
  ⟨0x8000, 1, 0x8, 1, 4, .ow, 0, .any, false⟩,
  ⟨0x8000, 1, 0x9, 1, 4, .ow, 0, .any, false⟩,
  ⟨0x8000, 1, 0xA, 1, 3, .tw, 0, .range 0 4000, false⟩,
  ⟨0x8000, 1, 0xB, 1, 12, .tw, 0, .enum [0, 1, 2], false⟩,
  ⟨0x8080, 1, 0x1, 1, 4, .ow, 0x400000, .range 0 4194304, false⟩,
  ⟨0x8080, 1, 0x2, 1, 4, .ro, 0, .any, false⟩,
  ⟨0x8100, 1, 0x1, 4, 3, .ow, 0, .any, false⟩,
  ⟨0x8100, 1, 0x5, 1, 5, .tw, 0, .range 0 0xFFFFFFFFFFFF, false⟩,
  ⟨0x8100, 1, 0x6, 1, 3, .ow, 0x180, .range 16 480, false⟩,
  ⟨0x8100, 1, 0x7, 1, 3, .ow, 0x100, .range 0 479, false⟩,
  ⟨0x8180, 1, 0x1, 1, 2, .ow, 0xFF, .orSpecial 0 3 [0xFF], false⟩,
  ⟨0x8180, 1, 0x2, 1, 1, .tw, 1, .range 0 1, false⟩,
  ⟨0x8180, 1, 0x3, 1, 3, .ow, 0x100, .range 0 4096, false⟩,
  ⟨0x8180, 1, 0x4, 1, 2, .ro, 0, .any, false⟩,
  ⟨0x8200, 1, 0x1, 1, 2, .tw, 8, .range 1 64, false⟩,
  ⟨0x8200, 1, 0x2, 1, 4, .ro, 0, .any, false⟩,
  ⟨0x8200, 1, 0x3, 1, 4, .tw, 0xFFFF, .any, false⟩,
  ⟨0x8200, 1, 0x4, 1, 2, .ro, 0xFE, .any, false⟩,
  ⟨0x8200, 1, 0x5, 1, 1, .tw, 0, .range 0 1, false⟩,
  ⟨0x8200, 1, 0x6, 1, 4, .tw, 0x3E8, .range 10 100000, false⟩,
  ⟨0x8200, 1, 0x7, 1, 12, .ro, 0, .any, true⟩,
  ⟨0x8210, 4, 0x1, 1, 3, .tw, 0xFF, .any, false⟩,
  ⟨0x8210, 4, 0x2, 1, 4, .tw, 0, .any, false⟩,
  ⟨0x8210, 4, 0x3, 1, 12, .ro, 0, .any, true⟩,
  ⟨0x8210, 4, 0x4, 1, 12, .ro, 0, .any, true⟩,
  ⟨0x8210, 4, 0x5, 1, 13, .ro, 0, .any, false⟩,
  ⟨0x8210, 4, 0x6, 1, 12, .ro, 0, .any, false⟩,
  ⟨0x8210, 4, 0x7, 1, 13, .ro, 0, .any, false⟩,
  ⟨0x8210, 4, 0x8, 1, 1, .tw, 0, .range 0 1, false⟩,
  ⟨0x8210, 4, 0x9, 1, 3, .ro, 0, .any, false⟩,
  ⟨0x8210, 4, 0xA, 1, 2, .ro, 0, .any, false⟩,
  ⟨0x8210, 4, 0xB, 1, 4, .ro, 0, .any, false⟩,
  ⟨0x82C0, 1, 0x1, 1, 12, .tw, 1, .enum [1, 2], false⟩]

/-- Objects of the partition blocks, as offsets from 0x8000 (R46), part 2. -/
def dict8000b : List DRow := [
  ⟨0x82C0, 1, 0x2, 1, 12, .ro, 0, .any, true⟩,
  ⟨0x82C0, 1, 0x3, 1, 2, .tw, 3, .range 1 16, false⟩,
  ⟨0x82C0, 1, 0x4, 1, 1, .tw, 0, .range 0 1, false⟩,
  ⟨0x82C0, 1, 0x5, 1, 4, .ro, 0, .any, false⟩,
  ⟨0x8300, 1, 0x1, 1, 4, .ow, 0, .any, false⟩,
  ⟨0x8300, 1, 0x2, 1, 12, .tw, 1, .enum [1, 2, 3], false⟩,
  ⟨0x8380, 1, 0x1, 1, 13, .ro, 0, .any, false⟩,
  ⟨0x8380, 1, 0x2, 1, 13, .ro, 0, .any, false⟩]

/-- Objects of the partition blocks, as offsets from 0x8000 (R46). -/
def dict8000 : List DRow := dict8000a ++ dict8000b

/-- The objects of the range that an index lies in; a partition index by its offset (R45, R46). -/
def dictRange (idx : Nat) : List DRow :=
  match idx / 0x100 with
  | 0x10 => dict1000
  | 0x11 => dict1100
  | 0x12 => dict1200
  | 0x13 => dict1300
  | 0x14 => dict1400
  | 0x15 => dict1500
  | 0x16 => dict1600
  | 0x20 => dict2000
  | 0x21 => dict2100
  | 0x22 => dict2200
  | 0x23 => dict2300
  | 0x24 => dict2400
  | 0x25 => dict2500
  | 0x30 => dict3000
  | 0x31 => dict3100
  | 0x32 => dict3200
  | 0x33 => dict3300
  | 0x40 => dict4000
  | 0x41 => dict4100
  | _ => if 0x8000 ≤ idx then dict8000 else []

/-- An index as the dictionary lists it: a partition index p as its offset form 0x8000 + o (R46). -/
def idxBase (idx : Nat) : Nat := if 0x8000 ≤ idx then (if idx < 0xC000 then 0x8000 + (idx - 0x8000) % 0x400 else 0) else idx

/-- The row of an object, if the dictionary defines it (R43). -/
def dictRow (idx sub : Nat) : Option DRow :=
  (dictRange (idxBase idx)).find? (fun r =>
    decide (r.idx ≤ idxBase idx) && decide (idxBase idx < r.idx + r.inst) && decide (r.sub ≤ sub) && decide (sub < r.sub + r.n))

/-- The row of a key. -/
def keyRow (key : Nat) : Option DRow := dictRow (key / 256) (key % 256)

/-- The highest subindex defined at an index, none where the index is not defined (R43). -/
def highestSub (idx : Nat) : Option Nat :=
  ((dictRange (idxBase idx)).filter (fun r => decide (r.idx ≤ idxBase idx) && decide (idxBase idx < r.idx + r.inst))).foldl
    (fun m r => some (max (m.getD 0) (r.sub + r.n - 1))) none

/-- The default of an object (R44), as the bits that encode it. -/
def objDefault (key : Nat) : Nat := ((keyRow key).map (·.dflt)).getD 0

/-- Bytes of a value of a type code (R47); STR and BLOB have no fixed length. -/
def typeWidth : Nat → Nat
  | 1 => 1 | 2 => 1 | 3 => 2 | 4 => 4 | 5 => 8 | 6 => 2 | 7 => 4 | 8 => 4 | 9 => 2 | 10 => 8 | 12 => 1 | _ => 0

/-- Whether a value lies in an object's range (R48); `w` is the width in bits of a signed type. -/
def Dom.ok (w : Nat) : Dom → Nat → Bool
  | .any, _ => true
  | .range lo hi, v => decide (lo ≤ v) && decide (v ≤ hi)
  | .srange lo hi, v => decide (lo ≤ toSigned w v) && decide (toSigned w v ≤ hi)
  | .enum vs, v => vs.contains v
  | .orSpecial lo hi vs, v => (decide (lo ≤ v) && decide (v ≤ hi)) || vs.contains v

end Sys2Proof.Machine
end

