-- ==== Sys2Proof/Machine/DictNames.lean ====
section
/-! DEFINITION. The names of the dictionary's objects (R45, R46) as keys: index × 256 + subindex. An
object of a partition block takes the partition, one of a numbered family its number. -/
namespace Sys2Proof.Machine

/-- id.vendor. -/
abbrev Obj.idVendor : Nat := 0x100001
/-- id.family. -/
abbrev Obj.idFamily : Nat := 0x100002
/-- id.device. -/
abbrev Obj.idDevice : Nat := 0x100003
/-- id.grade. -/
abbrev Obj.idGrade : Nat := 0x100004
/-- id.stepping. -/
abbrev Obj.idStepping : Nat := 0x100005
/-- id.serial. -/
abbrev Obj.idSerial : Nat := 0x100006
/-- id.arrays_enabled. -/
abbrev Obj.idArraysEnabled : Nat := 0x100007
/-- id.cores. -/
abbrev Obj.idCores : Nat := 0x100008
/-- id.array_map. -/
abbrev Obj.idArrayMap : Nat := 0x100009
/-- id.production_fused. -/
abbrev Obj.idProductionFused : Nat := 0x10000A
/-- id.fuse_inconsistent. -/
abbrev Obj.idFuseInconsistent : Nat := 0x10000B
/-- id.isles. -/
abbrev Obj.idIsles : Nat := 0x10000C
/-- id.control_cores. -/
abbrev Obj.idControlCores : Nat := 0x10000D
/-- id.hbm_bytes. -/
abbrev Obj.idHbmBytes : Nat := 0x10000E
/-- id.flow_capacity. -/
abbrev Obj.idFlowCapacity : Nat := 0x10000F
/-- id.partitions_max. -/
abbrev Obj.idPartitionsMax : Nat := 0x100010
/-- id.pool_max. -/
abbrev Obj.idPoolMax : Nat := 0x100011
/-- machine.isles_up. -/
abbrev Obj.machineIslesUp : Nat := 0x151001
/-- machine.sounds_up. -/
abbrev Obj.machineSoundsUp : Nat := 0x151002
/-- machine.stacks_up. -/
abbrev Obj.machineStacksUp : Nat := 0x151003
/-- ctr.addr_refused. -/
abbrev Obj.ctrAddrRefused : Nat := 0x161001
/-- ctr.result_stale. -/
abbrev Obj.ctrResultStale : Nat := 0x161002
/-- ctr.result_locked. -/
abbrev Obj.ctrResultLocked : Nat := 0x161003
/-- ctr.result_superseded. -/
abbrev Obj.ctrResultSuperseded : Nat := 0x161004
/-- cuhild.version. -/
abbrev Obj.cuhildVersion : Nat := 0x110001
/-- cuhild.max_message. -/
abbrev Obj.cuhildMaxMessage : Nat := 0x110002
/-- cuhild.can_node. -/
abbrev Obj.cuhildCanNode : Nat := 0x110003
/-- cuhild.can_data_rate. -/
abbrev Obj.cuhildCanDataRate : Nat := 0x110004
/-- cuhild.inband_ethertype. -/
abbrev Obj.cuhildInbandEthertype : Nat := 0x110005
/-- cuhild.inband_host. -/
abbrev Obj.cuhildInbandHost : Nat := 0x110006
/-- cuhild.inband_line. -/
abbrev Obj.cuhildInbandLine : Nat := 0x110007
/-- cuhild.mac. -/
abbrev Obj.cuhildMac : Nat := 0x110008
/-- cuhild.agent_idle. -/
abbrev Obj.cuhildAgentIdle : Nat := 0x110009
/-- agent.n.state. -/
abbrev Obj.agentState (n : Nat) : Nat := 0x111001 + 0x100 * n
/-- agent.n.transport. -/
abbrev Obj.agentTransport (n : Nat) : Nat := 0x111002 + 0x100 * n
/-- agent.n.endpoint. -/
abbrev Obj.agentEndpoint (n : Nat) : Nat := 0x111003 + 0x100 * n
/-- agent.n.scope. -/
abbrev Obj.agentScope (n : Nat) : Nat := 0x111004 + 0x100 * n
/-- agent.n.last_heard. -/
abbrev Obj.agentLastHeard (n : Nat) : Nat := 0x111005 + 0x100 * n
/-- agent.n.notify_mask. -/
abbrev Obj.agentNotifyMask (n : Nat) : Nat := 0x111006 + 0x100 * n
/-- owner.agent. -/
abbrev Obj.ownerAgent : Nat := 0x112001
/-- owner.epoch. -/
abbrev Obj.ownerEpoch : Nat := 0x112002
/-- owner.lease_remaining. -/
abbrev Obj.ownerLeaseRemaining : Nat := 0x112003
/-- owner.priority. -/
abbrev Obj.ownerPriority : Nat := 0x112004
/-- deleg.p00 to deleg.p15. -/
abbrev Obj.delegP (i : Nat) : Nat := 0x113001 + i
/-- ctr.cuhild_requests. -/
abbrev Obj.ctrCuhildRequests : Nat := 0x161005
/-- ctr.cuhild_malformed. -/
abbrev Obj.ctrCuhildMalformed : Nat := 0x161006
/-- ctr.cuhild_stale_epoch. -/
abbrev Obj.ctrCuhildStaleEpoch : Nat := 0x161007
/-- ctr.cuhild_overrun. -/
abbrev Obj.ctrCuhildOverrun : Nat := 0x161008
/-- ctr.notify_lost. -/
abbrev Obj.ctrNotifyLost : Nat := 0x161009
/-- ctr.can_bad. -/
abbrev Obj.ctrCanBad : Nat := 0x16100A
/-- ctr.inband_consumed. -/
abbrev Obj.ctrInbandConsumed : Nat := 0x16100B
/-- start.boot_count. -/
abbrev Obj.startBootCount : Nat := 0x120001
/-- start.autostart. -/
abbrev Obj.startAutostart : Nat := 0x120002
/-- start.inference. -/
abbrev Obj.startInference : Nat := 0x120003
/-- start.plain_crossing. -/
abbrev Obj.startPlainCrossing : Nat := 0x120004
/-- start.restricted. -/
abbrev Obj.startRestricted : Nat := 0x120005
/-- start.fallback. -/
abbrev Obj.startFallback : Nat := 0x120006
/-- start.kept_lost. -/
abbrev Obj.startKeptLost : Nat := 0x120007
/-- start.phase. -/
abbrev Obj.startPhase : Nat := 0x120008
/-- meas.m0 to meas.m7. -/
abbrev Obj.measM (i : Nat) : Nat := 0x121001 + i
/-- meas.count. -/
abbrev Obj.measCount : Nat := 0x121009
/-- meas.log. -/
abbrev Obj.measLog : Nat := 0x12100A
/-- meas.log_overflow. -/
abbrev Obj.measLogOverflow : Nat := 0x12100B
/-- attest.nonce_feed. -/
abbrev Obj.attestNonceFeed : Nat := 0x122001
/-- attest.report. -/
abbrev Obj.attestReport : Nat := 0x122002
/-- attest.public_key. -/
abbrev Obj.attestPublicKey : Nat := 0x122003
/-- attest.key_cert. -/
abbrev Obj.attestKeyCert : Nat := 0x122004
/-- img.harbour_version. -/
abbrev Obj.imgHarbourVersion : Nat := 0x123001
/-- img.isle_version. -/
abbrev Obj.imgIsleVersion : Nat := 0x123002
/-- img.cartridge_version. -/
abbrev Obj.imgCartridgeVersion : Nat := 0x123003
/-- img.bundle_format. -/
abbrev Obj.imgBundleFormat : Nat := 0x123004
/-- img.security_floor. -/
abbrev Obj.imgSecurityFloor : Nat := 0x123005
/-- img.harbour_record. -/
abbrev Obj.imgHarbourRecord : Nat := 0x123006
/-- img.isle_record. -/
abbrev Obj.imgIsleRecord : Nat := 0x123007
/-- compat.state. -/
abbrev Obj.compatState : Nat := 0x124001
/-- compat.deciding_a. -/
abbrev Obj.compatDecidingA : Nat := 0x124002
/-- compat.deciding_b. -/
abbrev Obj.compatDecidingB : Nat := 0x124003
/-- compat.allow_provisional_pool. -/
abbrev Obj.compatAllowProvisionalPool : Nat := 0x124004
/-- upd.harbour. -/
abbrev Obj.updHarbour : Nat := 0x125001
/-- upd.isle. -/
abbrev Obj.updIsle : Nat := 0x125002
/-- upd.cartridge. -/
abbrev Obj.updCartridge : Nat := 0x125003
/-- upd.status. -/
abbrev Obj.updStatus : Nat := 0x125004
/-- upd.staged. -/
abbrev Obj.updStaged : Nat := 0x125005
/-- upd.predicted. -/
abbrev Obj.updPredicted : Nat := 0x125006
/-- upd.restart. -/
abbrev Obj.updRestart : Nat := 0x125007
/-- ctr.attest_reports. -/
abbrev Obj.ctrAttestReports : Nat := 0x16100C
/-- ctr.update_refused. -/
abbrev Obj.ctrUpdateRefused : Nat := 0x16100D
/-- power.state. -/
abbrev Obj.powerState : Nat := 0x130001
/-- power.core_hold. -/
abbrev Obj.powerCoreHold : Nat := 0x130002
/-- power.auto_stop. -/
abbrev Obj.powerAutoStop : Nat := 0x130003
/-- power.idle_time. -/
abbrev Obj.powerIdleTime : Nat := 0x130004
/-- power.berth_keep. -/
abbrev Obj.powerBerthKeep : Nat := 0x130005
/-- power.domains. -/
abbrev Obj.powerDomains : Nat := 0x130006
/-- power.wake_reason. -/
abbrev Obj.powerWakeReason : Nat := 0x130007
/-- power.pll_fail. -/
abbrev Obj.powerPllFail : Nat := 0x130008
/-- power.redetect_backoff. -/
abbrev Obj.powerRedetectBackoff : Nat := 0x130009
/-- res.nap_after. -/
abbrev Obj.resNapAfter : Nat := 0x131001
/-- res.doze_after. -/
abbrev Obj.resDozeAfter : Nat := 0x131002
/-- res.isle_off_after. -/
abbrev Obj.resIsleOffAfter : Nat := 0x131003
/-- res.free_floor. -/
abbrev Obj.resFreeFloor : Nat := 0x131004
/-- res.quad_state. -/
abbrev Obj.resQuadState : Nat := 0x131005
/-- thr.isle0_duty to thr.isle3_duty. -/
abbrev Obj.thrIsleDuty (i : Nat) : Nat := 0x132001 + i
/-- thr.effective. -/
abbrev Obj.thrEffective : Nat := 0x132005
/-- time.now. -/
abbrev Obj.timeNow : Nat := 0x133001
/-- time.set. -/
abbrev Obj.timeSet : Nat := 0x133002
/-- time.pps_locked. -/
abbrev Obj.timePpsLocked : Nat := 0x133003
/-- time.rate_ppb. -/
abbrev Obj.timeRatePpb : Nat := 0x133004
/-- time.step_limit. -/
abbrev Obj.timeStepLimit : Nat := 0x133005
/-- ctr.core_wakes. -/
abbrev Obj.ctrCoreWakes : Nat := 0x16100E
/-- ctr.core_stops. -/
abbrev Obj.ctrCoreStops : Nat := 0x16100F
/-- ctr.isle_off_entries. -/
abbrev Obj.ctrIsleOffEntries : Nat := 0x161010
/-- ctr.time_steps. -/
abbrev Obj.ctrTimeSteps : Nat := 0x161011
/-- part.quads. -/
abbrev Obj.partQuads (p : Nat) : Nat := 0x830001 + 0x40000 * p
/-- part.residency_floor. -/
abbrev Obj.partResidencyFloor (p : Nat) : Nat := 0x830002 + 0x40000 * p
/-- port.host_mode_g0 to _g3. -/
abbrev Obj.portHostMode (i : Nat) : Nat := 0x200001 + i
/-- port.line_mode_g0 to _g3. -/
abbrev Obj.portLineMode (i : Nat) : Nat := 0x200005 + i
/-- port.host_enable. -/
abbrev Obj.portHostEnable : Nat := 0x200009
/-- port.line_enable. -/
abbrev Obj.portLineEnable : Nat := 0x20000A
/-- port.up_host. -/
abbrev Obj.portUpHost : Nat := 0x20000B
/-- port.up_line. -/
abbrev Obj.portUpLine : Nat := 0x20000C
/-- port.mismatch. -/
abbrev Obj.portMismatch : Nat := 0x20000D
/-- port.hold_time. -/
abbrev Obj.portHoldTime : Nat := 0x20000E
/-- port.stale_age. -/
abbrev Obj.portStaleAge : Nat := 0x20000F
/-- port.max_frame. -/
abbrev Obj.portMaxFrame : Nat := 0x200010
/-- port.follow. -/
abbrev Obj.portFollow : Nat := 0x200011
/-- port.train_timeout. -/
abbrev Obj.portTrainTimeout : Nat := 0x200012
/-- port.hostk.state. -/
abbrev Obj.portHostState (n : Nat) : Nat := 0x201001 + 0x100 * n
/-- port.hostk.link_epoch. -/
abbrev Obj.portHostLinkEpoch (n : Nat) : Nat := 0x201002 + 0x100 * n
/-- port.hostk.fec_corrected. -/
abbrev Obj.portHostFecCorrected (n : Nat) : Nat := 0x201003 + 0x100 * n
/-- port.hostk.fec_uncorrectable. -/
abbrev Obj.portHostFecUncorrectable (n : Nat) : Nat := 0x201004 + 0x100 * n
/-- port.hostk.stomped. -/
abbrev Obj.portHostStomped (n : Nat) : Nat := 0x201005 + 0x100 * n
/-- port.hostk.linkdown_drop. -/
abbrev Obj.portHostLinkdownDrop (n : Nat) : Nat := 0x201006 + 0x100 * n
/-- port.hostk.stale. -/
abbrev Obj.portHostStale (n : Nat) : Nat := 0x201007 + 0x100 * n
/-- port.hostk.flushed. -/
abbrev Obj.portHostFlushed (n : Nat) : Nat := 0x201008 + 0x100 * n
/-- port.hostk.congestion_drop. -/
abbrev Obj.portHostCongestionDrop (n : Nat) : Nat := 0x201009 + 0x100 * n
/-- port.hostk.downs. -/
abbrev Obj.portHostDowns (n : Nat) : Nat := 0x20100A + 0x100 * n
/-- port.hostk.damps. -/
abbrev Obj.portHostDamps (n : Nat) : Nat := 0x20100B + 0x100 * n
/-- port.hostk.train_retries. -/
abbrev Obj.portHostTrainRetries (n : Nat) : Nat := 0x20100C + 0x100 * n
/-- port.linek.state. -/
abbrev Obj.portLineState (n : Nat) : Nat := 0x203001 + 0x100 * n
/-- port.linek.link_epoch. -/
abbrev Obj.portLineLinkEpoch (n : Nat) : Nat := 0x203002 + 0x100 * n
/-- port.linek.fec_corrected. -/
abbrev Obj.portLineFecCorrected (n : Nat) : Nat := 0x203003 + 0x100 * n
/-- port.linek.fec_uncorrectable. -/
abbrev Obj.portLineFecUncorrectable (n : Nat) : Nat := 0x203004 + 0x100 * n
/-- port.linek.stomped. -/
abbrev Obj.portLineStomped (n : Nat) : Nat := 0x203005 + 0x100 * n
/-- port.linek.linkdown_drop. -/
abbrev Obj.portLineLinkdownDrop (n : Nat) : Nat := 0x203006 + 0x100 * n
/-- port.linek.stale. -/
abbrev Obj.portLineStale (n : Nat) : Nat := 0x203007 + 0x100 * n
/-- port.linek.flushed. -/
abbrev Obj.portLineFlushed (n : Nat) : Nat := 0x203008 + 0x100 * n
/-- port.linek.congestion_drop. -/
abbrev Obj.portLineCongestionDrop (n : Nat) : Nat := 0x203009 + 0x100 * n
/-- port.linek.downs. -/
abbrev Obj.portLineDowns (n : Nat) : Nat := 0x20300A + 0x100 * n
/-- port.linek.damps. -/
abbrev Obj.portLineDamps (n : Nat) : Nat := 0x20300B + 0x100 * n
/-- parse.vxlan_port. -/
abbrev Obj.parseVxlanPort : Nat := 0x210001
/-- parse.geneve_port. -/
abbrev Obj.parseGenevePort : Nat := 0x210002
/-- parse.tunnel_key. -/
abbrev Obj.parseTunnelKey : Nat := 0x210003
/-- parse.orphan_partition. -/
abbrev Obj.parseOrphanPartition : Nat := 0x210004
/-- tag.ethertype. -/
abbrev Obj.tagEthertype : Nat := 0x210005
/-- meter.select. -/
abbrev Obj.meterSelect : Nat := 0x210006
/-- meter.cir. -/
abbrev Obj.meterCir : Nat := 0x210007
/-- meter.cbs. -/
abbrev Obj.meterCbs : Nat := 0x210008
/-- meter.pir. -/
abbrev Obj.meterPir : Nat := 0x210009
/-- meter.pbs. -/
abbrev Obj.meterPbs : Nat := 0x21000A
/-- meter.yellow. -/
abbrev Obj.meterYellow : Nat := 0x21000B
/-- meter.apply. -/
abbrev Obj.meterApply : Nat := 0x21000C
/-- meter.green. -/
abbrev Obj.meterGreen : Nat := 0x21000D
/-- meter.yellow_count. -/
abbrev Obj.meterYellowCount : Nat := 0x21000E
/-- meter.red. -/
abbrev Obj.meterRed : Nat := 0x21000F
/-- ctr.unparsed. -/
abbrev Obj.ctrUnparsed : Nat := 0x161012
/-- ctr.parse_outer_fallback. -/
abbrev Obj.ctrParseOuterFallback : Nat := 0x161013
/-- ctr.hold_timeout. -/
abbrev Obj.ctrHoldTimeout : Nat := 0x161014
/-- ctr.hold_overflow. -/
abbrev Obj.ctrHoldOverflow : Nat := 0x161015
/-- ctr.flood_frames. -/
abbrev Obj.ctrFloodFrames : Nat := 0x161016
/-- ctr.flood_copy_drop. -/
abbrev Obj.ctrFloodCopyDrop : Nat := 0x161017
/-- ctr.mirror_drop. -/
abbrev Obj.ctrMirrorDrop : Nat := 0x161018
/-- ctr.redirect_invalid. -/
abbrev Obj.ctrRedirectInvalid : Nat := 0x161019
/-- ctr.tag_skipped_size. -/
abbrev Obj.ctrTagSkippedSize : Nat := 0x16101A
/-- ctr.ingress_bad. -/
abbrev Obj.ctrIngressBad : Nat := 0x16101B
/-- part.assign_host. -/
abbrev Obj.partAssignHost (p : Nat) : Nat := 0x800001 + 0x40000 * p
/-- part.assign_line. -/
abbrev Obj.partAssignLine (p : Nat) : Nat := 0x800002 + 0x40000 * p
/-- part.vlan_lo. -/
abbrev Obj.partVlanLo (p : Nat) : Nat := 0x800003 + 0x40000 * p
/-- part.vlan_hi. -/
abbrev Obj.partVlanHi (p : Nat) : Nat := 0x800004 + 0x40000 * p
/-- part.default_verdict. -/
abbrev Obj.partDefaultVerdict (p : Nat) : Nat := 0x800005 + 0x40000 * p
/-- part.nonip_verdict. -/
abbrev Obj.partNonipVerdict (p : Nat) : Nat := 0x800006 + 0x40000 * p
/-- part.unparsed_verdict. -/
abbrev Obj.partUnparsedVerdict (p : Nat) : Nat := 0x800007 + 0x40000 * p
/-- part.flood_host. -/
abbrev Obj.partFloodHost (p : Nat) : Nat := 0x800008 + 0x40000 * p
/-- part.flood_line. -/
abbrev Obj.partFloodLine (p : Nat) : Nat := 0x800009 + 0x40000 * p
/-- part.first_frame_hold. -/
abbrev Obj.partFirstFrameHold (p : Nat) : Nat := 0x80000A + 0x40000 * p
/-- part.tag_mode. -/
abbrev Obj.partTagMode (p : Nat) : Nat := 0x80000B + 0x40000 * p
/-- flow.salt. -/
abbrev Obj.flowSalt : Nat := 0x220001
/-- flow.kick_limit. -/
abbrev Obj.flowKickLimit : Nat := 0x220002
/-- flow.count. -/
abbrev Obj.flowCount : Nat := 0x220003
/-- flow.pinned_count. -/
abbrev Obj.flowPinnedCount : Nat := 0x220004
/-- flow.now_stamp. -/
abbrev Obj.flowNowStamp : Nat := 0x220005
/-- flow.lock_lease. -/
abbrev Obj.flowLockLease : Nat := 0x220006
/-- flow.tags_live. -/
abbrev Obj.flowTagsLive : Nat := 0x220007
/-- trie.enable. -/
abbrev Obj.trieEnable : Nat := 0x230001
/-- shadow.mode. -/
abbrev Obj.shadowMode : Nat := 0x230002
/-- shadow.location. -/
abbrev Obj.shadowLocation : Nat := 0x230003
/-- shadow.trie_base. -/
abbrev Obj.shadowTrieBase : Nat := 0x230004
/-- shadow.pinned_base. -/
abbrev Obj.shadowPinnedBase : Nat := 0x230005
/-- shadow.pinned_count. -/
abbrev Obj.shadowPinnedCount : Nat := 0x230006
/-- shadow.rate. -/
abbrev Obj.shadowRate : Nat := 0x230007
/-- shadow.passes. -/
abbrev Obj.shadowPasses : Nat := 0x230008
/-- shadow.mismatch_log. -/
abbrev Obj.shadowMismatchLog : Nat := 0x230009
/-- ctr.flow_inserts. -/
abbrev Obj.ctrFlowInserts : Nat := 0x16101C
/-- ctr.flow_moves. -/
abbrev Obj.ctrFlowMoves : Nat := 0x16101D
/-- ctr.flow_fail_quota. -/
abbrev Obj.ctrFlowFailQuota : Nat := 0x16101E
/-- ctr.flow_fail_kicks. -/
abbrev Obj.ctrFlowFailKicks : Nat := 0x16101F
/-- ctr.flow_fail_queue. -/
abbrev Obj.ctrFlowFailQueue : Nat := 0x161020
/-- ctr.result_pinned. -/
abbrev Obj.ctrResultPinned : Nat := 0x161021
/-- ctr.flow_ecc_corrected. -/
abbrev Obj.ctrFlowEccCorrected : Nat := 0x161022
/-- ctr.flow_ecc_uncorrectable. -/
abbrev Obj.ctrFlowEccUncorrectable : Nat := 0x161023
/-- ctr.flow_lock_voided. -/
abbrev Obj.ctrFlowLockVoided : Nat := 0x161024
/-- ctr.flow_dma_fenced. -/
abbrev Obj.ctrFlowDmaFenced : Nat := 0x161025
/-- ctr.trie_bad_entry. -/
abbrev Obj.ctrTrieBadEntry : Nat := 0x161026
/-- ctr.shadow_mismatch. -/
abbrev Obj.ctrShadowMismatch : Nat := 0x161027
/-- ctr.shadow_repaired. -/
abbrev Obj.ctrShadowRepaired : Nat := 0x161028
/-- ctr.shadow_read_fail. -/
abbrev Obj.ctrShadowReadFail : Nat := 0x161029
/-- part.flow_quota. -/
abbrev Obj.partFlowQuota (p : Nat) : Nat := 0x808001 + 0x40000 * p
/-- part.flow_count. -/
abbrev Obj.partFlowCount (p : Nat) : Nat := 0x808002 + 0x40000 * p
/-- eq.host_high. -/
abbrev Obj.eqHostHigh : Nat := 0x240001
/-- eq.host_low. -/
abbrev Obj.eqHostLow : Nat := 0x240002
/-- eq.line_high. -/
abbrev Obj.eqLineHigh : Nat := 0x240003
/-- eq.line_low. -/
abbrev Obj.eqLineLow : Nat := 0x240004
/-- coll.ethertype. -/
abbrev Obj.collEthertype : Nat := 0x240005
/-- queue.xoff_out. -/
abbrev Obj.queueXoffOut : Nat := 0x240006
/-- queue.work_high_state. -/
abbrev Obj.queueWorkHighState : Nat := 0x240007
/-- queue.depths. -/
abbrev Obj.queueDepths : Nat := 0x240008
/-- ctr.queue_rewinds. -/
abbrev Obj.ctrQueueRewinds : Nat := 0x16102A
/-- ctr.head_refill_stalls. -/
abbrev Obj.ctrHeadRefillStalls : Nat := 0x16102B
/-- ctr.poison_delivered. -/
abbrev Obj.ctrPoisonDelivered : Nat := 0x16102C
/-- ctr.queue_ecc_corrected. -/
abbrev Obj.ctrQueueEccCorrected : Nat := 0x16102D
/-- ctr.queue_ecc_uncorrectable. -/
abbrev Obj.ctrQueueEccUncorrectable : Nat := 0x16102E
/-- ctr.work_deferred. -/
abbrev Obj.ctrWorkDeferred : Nat := 0x16102F
/-- ctr.collector_drop. -/
abbrev Obj.ctrCollectorDrop : Nat := 0x161030
/-- ctr.queue_fenced_writes. -/
abbrev Obj.ctrQueueFencedWrites : Nat := 0x161031
/-- ctr.spill_lost. -/
abbrev Obj.ctrSpillLost : Nat := 0x161032
/-- ctr.collector_tx_frames. -/
abbrev Obj.ctrCollectorTxFrames : Nat := 0x161033
/-- part.coll0_dest to part.coll3_dest. -/
abbrev Obj.partCollDest (p i : Nat) : Nat := 0x810001 + 0x40000 * p + i
/-- part.coll_mac. -/
abbrev Obj.partCollMac (p : Nat) : Nat := 0x810005 + 0x40000 * p
/-- part.work_high. -/
abbrev Obj.partWorkHigh (p : Nat) : Nat := 0x810006 + 0x40000 * p
/-- part.work_low. -/
abbrev Obj.partWorkLow (p : Nat) : Nat := 0x810007 + 0x40000 * p
/-- t1.walkers. -/
abbrev Obj.t1Walkers : Nat := 0x250001
/-- t1.cache_bytes. -/
abbrev Obj.t1CacheBytes : Nat := 0x250002
/-- t1.cache_used. -/
abbrev Obj.t1CacheUsed : Nat := 0x250003
/-- t1.queue_depth. -/
abbrev Obj.t1QueueDepth : Nat := 0x250004
/-- feat.catalogue_version. -/
abbrev Obj.featCatalogueVersion : Nat := 0x250005
/-- ctr.t1_requests. -/
abbrev Obj.ctrT1Requests : Nat := 0x161034
/-- ctr.t1_skipped. -/
abbrev Obj.ctrT1Skipped : Nat := 0x161035
/-- ctr.t1_abandoned. -/
abbrev Obj.ctrT1Abandoned : Nat := 0x161036
/-- ctr.t1_node_fetches. -/
abbrev Obj.ctrT1NodeFetches : Nat := 0x161037
/-- ctr.feature_update_lost. -/
abbrev Obj.ctrFeatureUpdateLost : Nat := 0x161038
/-- ctr.record_unreachable. -/
abbrev Obj.ctrRecordUnreachable : Nat := 0x161039
/-- ctr.record_reinit. -/
abbrev Obj.ctrRecordReinit : Nat := 0x16103A
/-- ctr.expr_saturated. -/
abbrev Obj.ctrExprSaturated : Nat := 0x16103B
/-- ctr.record_cache_miss. -/
abbrev Obj.ctrRecordCacheMiss : Nat := 0x16103C
/-- part.t1_slot. -/
abbrev Obj.partT1Slot (p : Nat) : Nat := 0x818001 + 0x40000 * p
/-- part.t1_enable. -/
abbrev Obj.partT1Enable (p : Nat) : Nat := 0x818002 + 0x40000 * p
/-- part.t1_cache_kib. -/
abbrev Obj.partT1CacheKib (p : Nat) : Nat := 0x818003 + 0x40000 * p
/-- part.t1_levels. -/
abbrev Obj.partT1Levels (p : Nat) : Nat := 0x818004 + 0x40000 * p
/-- isle.cores_per_isle. -/
abbrev Obj.isleCoresPerIsle : Nat := 0x300001
/-- isle.quads_per_isle. -/
abbrev Obj.isleQuadsPerIsle : Nat := 0x300002
/-- core.tile_rows. -/
abbrev Obj.coreTileRows : Nat := 0x300003
/-- core.store_usable. -/
abbrev Obj.coreStoreUsable : Nat := 0x300004
/-- core.save_offset. -/
abbrev Obj.coreSaveOffset : Nat := 0x300005
/-- core.cmd_depth. -/
abbrev Obj.coreCmdDepth : Nat := 0x300006
/-- core.state. -/
abbrev Obj.coreState : Nat := 0x300007
/-- isle.fault_log. -/
abbrev Obj.isleFaultLog : Nat := 0x300008
/-- ctr.core_faults. -/
abbrev Obj.ctrCoreFaults : Nat := 0x16103D
/-- ctr.operator_faults. -/
abbrev Obj.ctrOperatorFaults : Nat := 0x16103E
/-- ctr.context_saves. -/
abbrev Obj.ctrContextSaves : Nat := 0x16103F
/-- ctr.context_restores. -/
abbrev Obj.ctrContextRestores : Nat := 0x161040
/-- ctr.opcache_hits. -/
abbrev Obj.ctrOpcacheHits : Nat := 0x161041
/-- ctr.opcache_misses. -/
abbrev Obj.ctrOpcacheMisses : Nat := 0x161042
/-- ctr.commands. -/
abbrev Obj.ctrCommands : Nat := 0x161043
/-- arr.cells. -/
abbrev Obj.arrCells : Nat := 0x310001
/-- arr.sum_depth. -/
abbrev Obj.arrSumDepth : Nat := 0x310002
/-- arr.chunk_rows. -/
abbrev Obj.arrChunkRows : Nat := 0x310003
/-- arr.core_modes. -/
abbrev Obj.arrCoreModes : Nat := 0x310004
/-- arr.loaded. -/
abbrev Obj.arrLoaded : Nat := 0x310005
/-- arr.mismatch_counts. -/
abbrev Obj.arrMismatchCounts : Nat := 0x310006
/-- ctr.array_mismatch. -/
abbrev Obj.ctrArrayMismatch : Nat := 0x161044
/-- ctr.wld. -/
abbrev Obj.ctrWld : Nat := 0x161045
/-- ctr.astr_rows. -/
abbrev Obj.ctrAstrRows : Nat := 0x161046
/-- ctr.astr_preempted. -/
abbrev Obj.ctrAstrPreempted : Nat := 0x161047
/-- ctr.chunks_abandoned. -/
abbrev Obj.ctrChunksAbandoned : Nat := 0x161048
/-- q.lattice. -/
abbrev Obj.qLattice : Nat := 0x310007
/-- q.escape_max. -/
abbrev Obj.qEscapeMax : Nat := 0x310008
/-- q.stats. -/
abbrev Obj.qStats : Nat := 0x310009
/-- q.stats_clear. -/
abbrev Obj.qStatsClear : Nat := 0x31000A
/-- ctr.q_clipped. -/
abbrev Obj.ctrQClipped : Nat := 0x161049
/-- ctr.q_escapes. -/
abbrev Obj.ctrQEscapes : Nat := 0x16104A
/-- ctr.q_underscaled. -/
abbrev Obj.ctrQUnderscaled : Nat := 0x16104B
/-- ctr.q_zero_spans. -/
abbrev Obj.ctrQZeroSpans : Nat := 0x16104C
/-- ctr.q_stat_evicted. -/
abbrev Obj.ctrQStatEvicted : Nat := 0x16104D
/-- ctr.escape_saturated. -/
abbrev Obj.ctrEscapeSaturated : Nat := 0x16104E
/-- model.outstanding_max. -/
abbrev Obj.modelOutstandingMax : Nat := 0x320001
/-- model.outstanding. -/
abbrev Obj.modelOutstanding : Nat := 0x320002
/-- model.load_refused. -/
abbrev Obj.modelLoadRefused : Nat := 0x320003
/-- model.loads. -/
abbrev Obj.modelLoads : Nat := 0x320004
/-- model.quarantines. -/
abbrev Obj.modelQuarantines : Nat := 0x320005
/-- hbm.pin_rate. -/
abbrev Obj.hbmPinRate : Nat := 0x330001
/-- hbm.sel. -/
abbrev Obj.hbmSel : Nat := 0x330002
/-- hbm.base. -/
abbrev Obj.hbmBase : Nat := 0x330003
/-- hbm.size. -/
abbrev Obj.hbmSize : Nat := 0x330004
/-- hbm.holder. -/
abbrev Obj.hbmHolder : Nat := 0x330005
/-- hbm.apply. -/
abbrev Obj.hbmApply : Nat := 0x330006
/-- hbm.regions. -/
abbrev Obj.hbmRegions : Nat := 0x330007
/-- ctr.t2_requests. -/
abbrev Obj.ctrT2Requests : Nat := 0x16104F
/-- ctr.t2_withdrawn. -/
abbrev Obj.ctrT2Withdrawn : Nat := 0x161050
/-- ctr.t2_late. -/
abbrev Obj.ctrT2Late : Nat := 0x161051
/-- ctr.t2_table_full. -/
abbrev Obj.ctrT2TableFull : Nat := 0x161052
/-- ctr.reeval_requests. -/
abbrev Obj.ctrReevalRequests : Nat := 0x161053
/-- ctr.amendments. -/
abbrev Obj.ctrAmendments : Nat := 0x161054
/-- ctr.hbm_ecc_corrected. -/
abbrev Obj.ctrHbmEccCorrected : Nat := 0x161055
/-- ctr.hbm_ecc_uncorrectable. -/
abbrev Obj.ctrHbmEccUncorrectable : Nat := 0x161056
/-- ctr.hbm_e2e_fail. -/
abbrev Obj.ctrHbmE2eFail : Nat := 0x161057
/-- ctr.bundle_dma_fenced. -/
abbrev Obj.ctrBundleDmaFenced : Nat := 0x161058
/-- part.k. -/
abbrev Obj.partK (p : Nat) : Nat := 0x820001 + 0x40000 * p
/-- part.epoch. -/
abbrev Obj.partEpoch (p : Nat) : Nat := 0x820002 + 0x40000 * p
/-- part.swap. -/
abbrev Obj.partSwap (p : Nat) : Nat := 0x820003 + 0x40000 * p
/-- part.t2_active. -/
abbrev Obj.partT2Active (p : Nat) : Nat := 0x820004 + 0x40000 * p
/-- part.reeval. -/
abbrev Obj.partReeval (p : Nat) : Nat := 0x820005 + 0x40000 * p
/-- part.t2_timeout. -/
abbrev Obj.partT2Timeout (p : Nat) : Nat := 0x820006 + 0x40000 * p
/-- part.swap_state. -/
abbrev Obj.partSwapState (p : Nat) : Nat := 0x820007 + 0x40000 * p
/-- part.slotS.load. -/
abbrev Obj.partSlotLoad (p n : Nat) : Nat := 0x821001 + 0x40000 * p + 0x100 * n
/-- part.slotS.quads. -/
abbrev Obj.partSlotQuads (p n : Nat) : Nat := 0x821002 + 0x40000 * p + 0x100 * n
/-- part.slotS.state. -/
abbrev Obj.partSlotState (p n : Nat) : Nat := 0x821003 + 0x40000 * p + 0x100 * n
/-- part.slotS.load_status. -/
abbrev Obj.partSlotLoadStatus (p n : Nat) : Nat := 0x821004 + 0x40000 * p + 0x100 * n
/-- part.slotS.digest. -/
abbrev Obj.partSlotDigest (p n : Nat) : Nat := 0x821005 + 0x40000 * p + 0x100 * n
/-- part.slotS.residency. -/
abbrev Obj.partSlotResidency (p n : Nat) : Nat := 0x821006 + 0x40000 * p + 0x100 * n
/-- part.slotS.rung_blocks. -/
abbrev Obj.partSlotRungBlocks (p n : Nat) : Nat := 0x821007 + 0x40000 * p + 0x100 * n
/-- part.slotS.unload. -/
abbrev Obj.partSlotUnload (p n : Nat) : Nat := 0x821008 + 0x40000 * p + 0x100 * n
/-- part.slotS.outstanding. -/
abbrev Obj.partSlotOutstanding (p n : Nat) : Nat := 0x821009 + 0x40000 * p + 0x100 * n
/-- part.slotS.op_faults. -/
abbrev Obj.partSlotOpFaults (p n : Nat) : Nat := 0x82100A + 0x40000 * p + 0x100 * n
/-- part.slotS.format. -/
abbrev Obj.partSlotFormat (p n : Nat) : Nat := 0x82100B + 0x40000 * p + 0x100 * n
/-- pool.id. -/
abbrev Obj.poolId : Nat := 0x400001
/-- pool.device. -/
abbrev Obj.poolDevice : Nat := 0x400002
/-- strait.enable. -/
abbrev Obj.straitEnable : Nat := 0x400003
/-- strait.up. -/
abbrev Obj.straitUp : Nat := 0x400004
/-- strait.train_timeout. -/
abbrev Obj.straitTrainTimeout : Nat := 0x400005
/-- pool.members. -/
abbrev Obj.poolMembers : Nat := 0x400006
/-- pool.serve_mask. -/
abbrev Obj.poolServeMask : Nat := 0x400007
/-- pool.registry. -/
abbrev Obj.poolRegistry : Nat := 0x400008
/-- pool.offer_region. -/
abbrev Obj.poolOfferRegion : Nat := 0x400009
/-- pool.withdraw_offer. -/
abbrev Obj.poolWithdrawOffer : Nat := 0x40000A
/-- pool.fetch_entry. -/
abbrev Obj.poolFetchEntry : Nat := 0x40000B
/-- pool.fetch_region. -/
abbrev Obj.poolFetchRegion : Nat := 0x40000C
/-- pool.fetch_apply. -/
abbrev Obj.poolFetchApply : Nat := 0x40000D
/-- pool.fetch_status. -/
abbrev Obj.poolFetchStatus : Nat := 0x40000E
/-- pool.remap_table. -/
abbrev Obj.poolRemapTable : Nat := 0x40000F
/-- pool.peer_compat. -/
abbrev Obj.poolPeerCompat : Nat := 0x400010
/-- pool.routes. -/
abbrev Obj.poolRoutes : Nat := 0x400011
/-- straits.state. -/
abbrev Obj.straitState (n : Nat) : Nat := 0x401001 + 0x100 * n
/-- straits.peer. -/
abbrev Obj.straitPeer (n : Nat) : Nat := 0x401002 + 0x100 * n
/-- straits.link_epoch. -/
abbrev Obj.straitLinkEpoch (n : Nat) : Nat := 0x401003 + 0x100 * n
/-- straits.crc_errors. -/
abbrev Obj.straitCrcErrors (n : Nat) : Nat := 0x401004 + 0x100 * n
/-- straits.replays. -/
abbrev Obj.straitReplays (n : Nat) : Nat := 0x401005 + 0x100 * n
/-- ctr.molur_crc_errors. -/
abbrev Obj.ctrMolurCrcErrors : Nat := 0x161059
/-- ctr.molur_replays. -/
abbrev Obj.ctrMolurReplays : Nat := 0x16105A
/-- ctr.molur_hop_expired. -/
abbrev Obj.ctrMolurHopExpired : Nat := 0x16105B
/-- ctr.pool_members_lost. -/
abbrev Obj.ctrPoolMembersLost : Nat := 0x16105C
/-- ctr.pool_admit_refused. -/
abbrev Obj.ctrPoolAdmitRefused : Nat := 0x16105D
/-- ctr.pool_work_sent. -/
abbrev Obj.ctrPoolWorkSent : Nat := 0x16105E
/-- ctr.pool_work_served. -/
abbrev Obj.ctrPoolWorkServed : Nat := 0x16105F
/-- ctr.pool_result_orphan. -/
abbrev Obj.ctrPoolResultOrphan : Nat := 0x161060
/-- ctr.pool_remaps. -/
abbrev Obj.ctrPoolRemaps : Nat := 0x161061
/-- ctr.replica_lock_voided. -/
abbrev Obj.ctrReplicaLockVoided : Nat := 0x161062
/-- cart.allow_unauth. -/
abbrev Obj.cartAllowUnauth : Nat := 0x410001
/-- cart.record_interval. -/
abbrev Obj.cartRecordInterval : Nat := 0x410002
/-- cart.idle_dark. -/
abbrev Obj.cartIdleDark : Nat := 0x410003
/-- cart.present. -/
abbrev Obj.cartPresent : Nat := 0x410004
/-- cart.lit. -/
abbrev Obj.cartLit : Nat := 0x410005
/-- opt.rx_low_warn. -/
abbrev Obj.optRxLowWarn : Nat := 0x410006
/-- opt.rx_low_alarm. -/
abbrev Obj.optRxLowAlarm : Nat := 0x410007
/-- opt.rx_high_alarm. -/
abbrev Obj.optRxHighAlarm : Nat := 0x410008
/-- opt.tx_low_alarm. -/
abbrev Obj.optTxLowAlarm : Nat := 0x410009
/-- opt.tx_high_alarm. -/
abbrev Obj.optTxHighAlarm : Nat := 0x41000A
/-- opt.cw_low_alarm. -/
abbrev Obj.optCwLowAlarm : Nat := 0x41000B
/-- opt.lane_alarms. -/
abbrev Obj.optLaneAlarms : Nat := 0x41000C
/-- opt.lane_power. -/
abbrev Obj.optLanePower : Nat := 0x41000D
/-- cart.e.state. -/
abbrev Obj.cartState (n : Nat) : Nat := 0x411001 + 0x100 * n
/-- cart.e.serial. -/
abbrev Obj.cartSerial (n : Nat) : Nat := 0x411002 + 0x100 * n
/-- cart.e.firmware. -/
abbrev Obj.cartFirmware (n : Nat) : Nat := 0x411003 + 0x100 * n
/-- cart.e.auth. -/
abbrev Obj.cartAuth (n : Nat) : Nat := 0x411004 + 0x100 * n
/-- cart.e.rated_hours. -/
abbrev Obj.cartRatedHours (n : Nat) : Nat := 0x411005 + 0x100 * n
/-- cart.e.acc. -/
abbrev Obj.cartAcc (n : Nat) : Nat := 0x411006 + 0x100 * n
/-- cart.e.life_pct. -/
abbrev Obj.cartLifePct (n : Nat) : Nat := 0x411007 + 0x100 * n
/-- cart.e.life_stage. -/
abbrev Obj.cartLifeStage (n : Nat) : Nat := 0x411008 + 0x100 * n
/-- cart.e.cycles. -/
abbrev Obj.cartCycles (n : Nat) : Nat := 0x411009 + 0x100 * n
/-- cart.e.temp. -/
abbrev Obj.cartTemp (n : Nat) : Nat := 0x41100A + 0x100 * n
/-- cart.e.drive_pct. -/
abbrev Obj.cartDrivePct (n : Nat) : Nat := 0x41100B + 0x100 * n
/-- cart.e.release. -/
abbrev Obj.cartRelease (n : Nat) : Nat := 0x41100C + 0x100 * n
/-- cart.e.remaining_hours. -/
abbrev Obj.cartRemainingHours (n : Nat) : Nat := 0x41100D + 0x100 * n
/-- cart.e.light_losses. -/
abbrev Obj.cartLightLosses (n : Nat) : Nat := 0x41100E + 0x100 * n
/-- cart.e.record_lost. -/
abbrev Obj.cartRecordLost (n : Nat) : Nat := 0x41100F + 0x100 * n
/-- ctr.cart_auth_fail. -/
abbrev Obj.ctrCartAuthFail : Nat := 0x161063
/-- ctr.cart_surprise_removal. -/
abbrev Obj.ctrCartSurpriseRemoval : Nat := 0x161064
/-- ctr.cart_light_loss. -/
abbrev Obj.ctrCartLightLoss : Nat := 0x161065
/-- ctr.cart_fw_installed. -/
abbrev Obj.ctrCartFwInstalled : Nat := 0x161066
/-- ctr.cart_fw_install_fail. -/
abbrev Obj.ctrCartFwInstallFail : Nat := 0x161067
/-- ctr.cart_record_write_fail. -/
abbrev Obj.ctrCartRecordWriteFail : Nat := 0x161068
/-- ctr.opt_alarms. -/
abbrev Obj.ctrOptAlarms : Nat := 0x161069
/-- therm.sensors. -/
abbrev Obj.thermSensors : Nat := 0x140001
/-- therm.sensor_failed. -/
abbrev Obj.thermSensorFailed : Nat := 0x140002
/-- therm.forecast. -/
abbrev Obj.thermForecast : Nat := 0x140003
/-- therm.forecast_peak. -/
abbrev Obj.thermForecastPeak : Nat := 0x140004
/-- therm.model_version. -/
abbrev Obj.thermModelVersion : Nat := 0x140005
/-- therm.forecast_limit. -/
abbrev Obj.thermForecastLimit : Nat := 0x140006
/-- therm.hysteresis. -/
abbrev Obj.thermHysteresis : Nat := 0x140007
/-- therm.stack_limit. -/
abbrev Obj.thermStackLimit : Nat := 0x140008
/-- therm.rotation_period. -/
abbrev Obj.thermRotationPeriod : Nat := 0x140009
/-- therm.rotate_mask. -/
abbrev Obj.thermRotateMask : Nat := 0x14000A
/-- therm.rotating. -/
abbrev Obj.thermRotating : Nat := 0x14000B
/-- therm.duty. -/
abbrev Obj.thermDuty : Nat := 0x14000C
/-- therm.tripped. -/
abbrev Obj.thermTripped : Nat := 0x14000D
/-- therm.trip_cause. -/
abbrev Obj.thermTripCause : Nat := 0x14000E
/-- therm.trip_clear. -/
abbrev Obj.thermTripClear : Nat := 0x14000F
/-- therm.auto_resume. -/
abbrev Obj.thermAutoResume : Nat := 0x140010
/-- therm.resume_temp. -/
abbrev Obj.thermResumeTemp : Nat := 0x140011
/-- therm.harbour_hot. -/
abbrev Obj.thermHarbourHot : Nat := 0x140012
/-- therm.cycles. -/
abbrev Obj.thermCycles : Nat := 0x140013
/-- therm.life_report. -/
abbrev Obj.thermLifeReport : Nat := 0x140014
/-- ctr.therm_rotations. -/
abbrev Obj.ctrThermRotations : Nat := 0x16106A
/-- ctr.therm_throttles. -/
abbrev Obj.ctrThermThrottles : Nat := 0x16106B
/-- ctr.therm_trips. -/
abbrev Obj.ctrThermTrips : Nat := 0x16106C
/-- ctr.trip_frames_lost. -/
abbrev Obj.ctrTripFramesLost : Nat := 0x16106D
/-- fault.log. -/
abbrev Obj.faultLog : Nat := 0x150001
/-- fault.count. -/
abbrev Obj.faultCount : Nat := 0x150002
/-- fault.isles_fenced. -/
abbrev Obj.faultIslesFenced : Nat := 0x150003
/-- fault.isle_epochs. -/
abbrev Obj.faultIsleEpochs : Nat := 0x150004
/-- fault.isle_restore. -/
abbrev Obj.faultIsleRestore : Nat := 0x150005
/-- fault.isle_auto_restore. -/
abbrev Obj.faultIsleAutoRestore : Nat := 0x150006
/-- fault.core_wd. -/
abbrev Obj.faultCoreWd : Nat := 0x150007
/-- fault.isle_wd. -/
abbrev Obj.faultIsleWd : Nat := 0x150008
/-- fault.ctrl_wd. -/
abbrev Obj.faultCtrlWd : Nat := 0x150009
/-- fault.mismatch_limit. -/
abbrev Obj.faultMismatchLimit : Nat := 0x15000A
/-- fault.recovering. -/
abbrev Obj.faultRecovering : Nat := 0x15000B
/-- ctr.fault_frames_lost. -/
abbrev Obj.ctrFaultFramesLost : Nat := 0x16106E
/-- ctr.requests_reissued. -/
abbrev Obj.ctrRequestsReissued : Nat := 0x16106F
/-- ctr.isle_fences. -/
abbrev Obj.ctrIsleFences : Nat := 0x161070
/-- ctr.isle_fenced_writes. -/
abbrev Obj.ctrIsleFencedWrites : Nat := 0x161071
/-- ctr.job_restarts. -/
abbrev Obj.ctrJobRestarts : Nat := 0x161072
/-- ctr.slot_fenced_results. -/
abbrev Obj.ctrSlotFencedResults : Nat := 0x161073
/-- ctr.sound_retries. -/
abbrev Obj.ctrSoundRetries : Nat := 0x161074
/-- ctr.sound_failures. -/
abbrev Obj.ctrSoundFailures : Nat := 0x161075
/-- ctr.watchdog_expiries. -/
abbrev Obj.ctrWatchdogExpiries : Nat := 0x161076
/-- ctr.ctrl_restarts. -/
abbrev Obj.ctrCtrlRestarts : Nat := 0x161077
/-- ctr.leases_fenced. -/
abbrev Obj.ctrLeasesFenced : Nat := 0x161078
/-- ctr.ecc_uncorrectable_other. -/
abbrev Obj.ctrEccUncorrectableOther : Nat := 0x161079
/-- part.recovery_policy. -/
abbrev Obj.partRecoveryPolicy (p : Nat) : Nat := 0x82C001 + 0x40000 * p
/-- part.recovery_state. -/
abbrev Obj.partRecoveryState (p : Nat) : Nat := 0x82C002 + 0x40000 * p
/-- part.restart_limit. -/
abbrev Obj.partRestartLimit (p : Nat) : Nat := 0x82C003 + 0x40000 * p
/-- part.recover_resume. -/
abbrev Obj.partRecoverResume (p : Nat) : Nat := 0x82C004 + 0x40000 * p
/-- part.faults. -/
abbrev Obj.partFaults (p : Nat) : Nat := 0x82C005 + 0x40000 * p
/-- obs.snapshot. -/
abbrev Obj.obsSnapshot : Nat := 0x160001
/-- obs.op_counters. -/
abbrev Obj.obsOpCounters : Nat := 0x160002
/-- trace.enable. -/
abbrev Obj.traceEnable : Nat := 0x162001
/-- trace.mode. -/
abbrev Obj.traceMode : Nat := 0x162002
/-- trace.time_period. -/
abbrev Obj.traceTimePeriod : Nat := 0x162003
/-- trace.ext_stack. -/
abbrev Obj.traceExtStack : Nat := 0x162004
/-- trace.ext_size. -/
abbrev Obj.traceExtSize : Nat := 0x162005
/-- trace.state. -/
abbrev Obj.traceState : Nat := 0x162006
/-- trace.buffer. -/
abbrev Obj.traceBuffer : Nat := 0x162007
/-- trace.ext. -/
abbrev Obj.traceExt : Nat := 0x162008
/-- trace.bytes. -/
abbrev Obj.traceBytes : Nat := 0x162009
/-- obs.hang_window. -/
abbrev Obj.obsHangWindow : Nat := 0x163001
/-- obs.hang_halt. -/
abbrev Obj.obsHangHalt : Nat := 0x163002
/-- obs.dump. -/
abbrev Obj.obsDump : Nat := 0x163003
/-- obs.dump_held. -/
abbrev Obj.obsDumpHeld : Nat := 0x163004
/-- obs.dump_clear. -/
abbrev Obj.obsDumpClear : Nat := 0x163005
/-- obs.hang_release. -/
abbrev Obj.obsHangRelease : Nat := 0x163006
/-- obs.inspect_addr. -/
abbrev Obj.obsInspectAddr : Nat := 0x163007
/-- obs.inspect_len. -/
abbrev Obj.obsInspectLen : Nat := 0x163008
/-- obs.inspect. -/
abbrev Obj.obsInspect : Nat := 0x163009
/-- ctr.trace_overflow. -/
abbrev Obj.ctrTraceOverflow : Nat := 0x16107A
/-- ctr.hang_dumps. -/
abbrev Obj.ctrHangDumps : Nat := 0x16107B
/-- ctr.hang_dumps_skipped. -/
abbrev Obj.ctrHangDumpsSkipped : Nat := 0x16107C
/-- ctr.op_counter_evicted. -/
abbrev Obj.ctrOpCounterEvicted : Nat := 0x16107D
/-- part.counters. -/
abbrev Obj.partCounters (p : Nat) : Nat := 0x838001 + 0x40000 * p
/-- part.op_counters. -/
abbrev Obj.partOpCounters (p : Nat) : Nat := 0x838002 + 0x40000 * p
/-- elec.rail_pg. -/
abbrev Obj.elecRailPg : Nat := 0x134001
/-- elec.rail_fault. -/
abbrev Obj.elecRailFault : Nat := 0x134002
/-- elec.trip_source. -/
abbrev Obj.elecTripSource : Nat := 0x134003
/-- elec.fault_sources. -/
abbrev Obj.elecFaultSources : Nat := 0x134004
/-- elec.fault_mask. -/
abbrev Obj.elecFaultMask : Nat := 0x134005
/-- elec.xoff_in. -/
abbrev Obj.elecXoffIn : Nat := 0x134006
/-- ctr.rail_faults. -/
abbrev Obj.ctrRailFaults : Nat := 0x16107E
/-- ctr.pll_lock_losses. -/
abbrev Obj.ctrPllLockLosses : Nat := 0x16107F

end Sys2Proof.Machine
end

