-- ==== Sys2Proof/Machine/SMap.lean ====
section
/-! DEFINITION. Sparse maps: a list of key and value pairs in one canonical form, keys strictly
rising and no entry equal to what an unlisted key reads as (`d`). Registers, memories and tables of
the state are such maps, so equal contents are equal data. -/
namespace Sys2Proof.Machine

/-- What key `k` holds; an unlisted key reads as `d k`. -/
def mget {α : Type} (d : Nat → α) : List (Nat × α) → Nat → α
  | [], k => d k
  | (k', v) :: m, k => if k = k' then v else mget d m k

/-- List `v` at `k`, before the first greater key. -/
def mput {α : Type} : List (Nat × α) → Nat → α → List (Nat × α)
  | [], k, v => [(k, v)]
  | (k', v') :: m, k, v =>
    if k < k' then (k, v) :: (k', v') :: m else if k = k' then (k, v) :: m else (k', v') :: mput m k v

/-- Write `v` at `k`, keeping the canonical form: a value that an unlisted key reads as is not listed. -/
def mset {α : Type} [DecidableEq α] (d : Nat → α) (m : List (Nat × α)) (k : Nat) (v : α) : List (Nat × α) :=
  if v = d k then m.filter (fun e => e.1 != k) else mput m k v

/-- The canonical form: keys strictly rising above `lo` (`none`: any), no listed value the default. -/
def mwf {α : Type} [DecidableEq α] (d : Nat → α) : Option Nat → List (Nat × α) → Bool
  | _, [] => true
  | lo, (k, v) :: m => (match lo with | none => true | some l => decide (l < k)) && decide (v ≠ d k) && mwf d (some k) m

/-- Change the value at `k`. -/
def mupd {α : Type} [DecidableEq α] (d : Nat → α) (m : List (Nat × α)) (k : Nat) (f : α → α) : List (Nat × α) :=
  mset d m k (f (mget d m k))

/-- Read one byte of a memory whose unlisted bytes are 0 (notes/assumptions/5.md). -/
def Memory.read (m : List (Nat × Byte)) (a : Nat) : Byte := mget (fun _ => 0) m a

/-- Write one byte of such a memory. -/
def Memory.write (m : List (Nat × Byte)) (a : Nat) (b : Byte) : List (Nat × Byte) := mset (fun _ => 0) m a b

/-- The canonical form of a memory. -/
def Memory.wf (m : List (Nat × Byte)) : Bool := mwf (fun _ => (0 : Byte)) none m

/-- Write consecutive bytes, lowest address first. -/
def Memory.writeAll (m : List (Nat × Byte)) (a : Nat) : Bytes → List (Nat × Byte)
  | [] => m
  | b :: bs => Memory.writeAll (Memory.write m a b) (a + 1) bs

/-- Read `n` consecutive bytes, lowest address first. -/
def Memory.readAll (m : List (Nat × Byte)) (a : Nat) : Nat → Bytes
  | 0 => []
  | n + 1 => Memory.read m a :: Memory.readAll m (a + 1) n

/-- Drop the entries whose key satisfies `p`, so that they read as unlisted. -/
def mdrop {α : Type} (p : Nat → Bool) (m : List (Nat × α)) : List (Nat × α) := m.filter (fun e => !p e.1)

end Sys2Proof.Machine
end

