-- ==== Sys2Proof/Machine/State.lean ====
section
/-! DEFINITION. The state of the block as plain data: every register, FIFO, buffer, counter, mode and pin the
spec gives it, the queue of waiting commands, and the state after reset. Sparse maps are in the canonical
form of SMap.lean. Times are in grain ticks since power unless a field says otherwise. -/
namespace Sys2Proof.Machine

/-- How the machine stops with a fault. -/
inductive Fault
  /-- PORST_N released without the rail, power-good and REFCLK_AON conditions; raised by PORST_N_RELEASE alone
  (R91: the behaviour is not defined). Safe: the model stops where the device may go on. -/
  | undefinedRelease
  deriving DecidableEq, Repr

/-- How the machine refuses a command. -/
inductive Refusal
  /-- The command has no meaning in the model yet; raised by an arm of `exec` only. Safe. -/
  | notModelled (mnemonic : String)
  deriving DecidableEq, Repr

/-- What an observer outside sees (the model's own log; notes/assumptions/6.md). -/
inductive Out
  /-- A frame that leaves a port, from destination MAC to the byte before the FCS; `bad` when its FCS is inverted (R173). -/
  | frame (port : Nat) (bytes : Bytes) (bad : Bool)
  /-- Bytes written to host memory by function `fn`. -/
  | dma (fn addr : Nat) (bytes : Bytes)
  /-- An MSI-X interrupt. -/
  | msix (fn vec : Nat)
  /-- A flit sent on a strait (R363). -/
  | flit (s : Nat) (bytes : Bytes)
  /-- A CAN FD frame (R72). -/
  | can (id : Nat) (data : Bytes)
  /-- A packet handed to the consumer of queue `q` (R214). -/
  | packet (q : Nat) (words : List Bytes) (poison : Bool)
  /-- A read of host memory by function `fn` (R194, R206, R350). -/
  | dmaRead (fn addr len : Nat)
  /-- The notice of a committed packet to its queue's consumer (R223). -/
  | notice (q : Nat)
  /-- A watermark event of a queue: its high state begins or ends (R224). -/
  | watermark (q : Nat) (high : Bool)
  /-- A write of a cartridge register over its two-wire bus (R382). -/
  | cartWrite (e reg : Nat) (bytes : Bytes)
  deriving DecidableEq, Repr

/-- A Cuhild message as fields, before a transport gives it a byte order (R53, R54). Payload fields are
(bytes, value) pairs. -/
structure Msg where
  flags : Nat
  op : Nat
  agent : Nat
  scope : Nat
  seq : Nat
  epoch : Nat
  abort : Nat
  payload : List (Nat × Nat)
  deriving DecidableEq, Repr

/-- A registered agent (R78): endpoint, device time and tick last heard, subscription (R87), nonce words
(R107), kept responses (R60), CLAIM sequence numbers awaiting the window's close (R80), undelivered
notifications with their lost count (R89), sequence number and operation code of the 16 most recent requests (R60), and for each
CLAIM that waits its sequence number, CAN priority (R72) and endpoint with the VLAN tag it came with (R75). -/
structure Agent where
  ep : Endpoint
  heard : Nat
  heardTick : Nat
  mask : Nat
  nonce : List Nat
  kept : List (Nat × Nat × Msg)
  claims : List Nat
  notes : List Msg
  lost : Nat
  recent : List (Nat × Nat) := []
  via : List (Nat × Nat × Endpoint) := []
  deriving DecidableEq, Repr

/-- A BLOB handle (R64 to R67): a read snapshot or the data of a write so far. `dead` is the abort code of
its next use once discarded; `basis` is 0xFF for ownership, else the delegated partition. -/
structure Handle where
  id : Nat
  agent : Nat
  idx : Nat
  sub : Nat
  write : Bool
  len : Nat
  data : Bytes
  deadline : Nat
  basis : Nat
  dead : Option Nat
  deriving DecidableEq, Repr

/-- A BAR0 mailbox (R69, R70): the six pointers, interrupt enables, request messages not served yet,
responses that wait for room, and the slots of the response and notification rings. -/
structure MBox where
  reqP : Nat := 0
  reqC : Nat := 0
  rspP : Nat := 0
  rspC : Nat := 0
  ntfP : Nat := 0
  ntfC : Nat := 0
  irq : Nat := 0
  reqs : List Bytes := []
  waiting : List Bytes := []
  rsp : List (Nat × Bytes) := []
  ntf : List (Nat × Bytes) := []
  deriving DecidableEq, Repr

/-- A partial CAN FD message (R73). -/
structure CanPart where
  next : Nat
  data : Bytes
  deadline : Nat
  deriving DecidableEq, Repr

/-- A bid in the claim window (R80). -/
structure Bid where
  agent : Nat
  prio : Nat
  nonce : Nat
  deriving DecidableEq, Repr

/-- Cuhild (spec/02): agents, ownership timers, BLOB handles and transports. -/
structure Cuhild where
  agents : List (Nat × Option Agent)
  lease : Option Nat
  window : Option Nat
  bids : List Bid
  handles : List Handle
  mbox : List (Nat × MBox)
  cfgGo : Bool
  cfgDone : Bool
  cfgReq : Bytes
  cfgRsp : Bytes
  can : List (Nat × Option CanPart)
  canPrio : List (Nat × Nat)
  deriving DecidableEq, Repr

/-- Fixed facts of one device (R4 to R7, R19, R99, R106, R184; notes/assumptions/3.md); `siliconEntries` are
the entries of the boot ROM's compatibility record of kind 5 (R110), `secret` the fused secrets of which the attestation key is derived
at each start (R106). -/
structure Dev where
  grade : Nat
  stepping : Nat
  serial : Nat
  arrayMap : Nat
  productionFused : Nat
  securityFloor : Nat
  salt : Nat
  mac : Nat
  romKey : Bytes
  secret : Bytes
  keyCert : Bytes
  siliconEntries : Bytes
  thermModel : Nat
  deriving DecidableEq, Repr

/-- An update's programming of a bank (R117): image kind, bank, image. -/
structure Prog where
  kind : Nat
  bank : Nat
  image : Bytes
  deriving DecidableEq, Repr

/-- Start-up (spec/03). Cuhild served, ROM recovery, step 7 done since the start; `passed` gives the bank of each image kind that passed at the last start (2: none);
`keptSeq` and `keptCopy` the sequence and the copy last read or written (R101); `harbour`, `cart` and `isle` are the verified images kept in AON (R430, R130); `pairs` the
compatibility decisions that count, in order: the pair's number, counted outcome, first and second image (R113). -/
structure Boot where
  served : Bool
  recovery : Bool
  firstDone : Bool
  passed : List (Nat × Nat)
  harbour : Bytes
  isle : Bytes
  cart : Bytes
  prog : Option Prog
  keptPending : Bool
  keptDeadline : Nat
  keptSeq : Nat
  keptCopy : Nat
  restartAt : Option Nat
  pairs : List (Nat × Nat × Nat × Nat)
  deriving DecidableEq, Repr

/-- Measurement registers and log (R102 to R105): M0 to M7, 48 bytes each; log entries of 72 bytes. -/
structure Meas where
  regs : List (Nat × Bytes)
  log : List Bytes
  deriving DecidableEq, Repr

/-- The clocks (R124 to R126): grain ticks since power, device time in ns, its fraction in 10⁻⁹ ns, the
learnt frequency, consecutive good PPS edges, the tick of the last edge, an armed time.set with its deadline, and the step in ns that
the next grain tick takes (R125). -/
structure Clk where
  ticks : Nat
  dev : Nat
  acc : Int
  freq : Int
  ppsGood : Nat
  ppsTick : Option Nat
  armed : Option (Nat × Nat)
  step : Int := 0
  deriving DecidableEq, Repr

/-- Power (spec/04, spec/18). `phase` is 0 in Off, 1 from release of PORST_N on; the tick of the next PLL retry; the start trigger
that has arrived; core clock running; `up` the domain whose power-up is under way (0 PD-NET, 1 PD-HBM), `en` the enables, `waits`
the enables that wait for their power-good with their deadlines, `down` the enables still to drop and the tick by which the next
drops; PD-HBM and the isles powered before since the start; PERST_N asserted, PCIe link trained; lanes that woke the device;
detector backoffs as lane, length in ms, end; sounds that have failed; tick since which every die is cool in a trip;
the tick of the trip plus 1, 0 where none is in effect; the tick since which the stop conditions hold (R135). -/
structure Power where
  phase : Nat
  pllRetry : Option Nat
  trigger : Option Nat
  coreClock : Bool
  up : Option Nat
  en : Nat
  waits : List (Nat × Nat)
  down : List Nat
  downAt : Nat
  hbmUsed : Bool
  isleUsed : Bool
  perst : Bool
  pcieUp : Bool
  wakeLanes : List Nat
  backoff : List (Nat × Nat × Nat)
  soundBad : Nat
  tripCool : Option Nat
  tripAt : Nat
  idleAt : Option Nat := none
  deriving DecidableEq, Repr

/-- Residency (R139 to R142): cores in Nap and quads in Doze with the ticks plus 1 from which their timers run; entries under way and the
wakes that wait for them; isles that work waits for; isles that residency took Off; cores in Run with nothing to issue, likewise; the ticks
at which the entries under way end. -/
structure Resid where
  nap : List (Nat × Nat)
  doze : List (Nat × Nat)
  entering : List (Bool × Nat)
  wakes : List Nat
  needIsle : Nat
  off : Nat
  idle : List (Nat × Nat) := []
  ends : List ((Bool × Nat) × Nat) := []
  deriving DecidableEq, Repr

/-- A port (R176 to R179): link, training with its deadline, the open series, hold and damp deadlines,
whether port.follow turned it off. -/
structure Port where
  link : Bool := false
  train : Option Nat := none
  series : Nat := 0
  firstDown : Nat := 0
  lastDown : Nat := 0
  hold : Option Nat := none
  damp : Option Nat := none
  followed : Bool := false
  deriving DecidableEq, Repr

/-- A frame in an egress queue: bytes without FCS, found bad after its transmission began (R173), committed tick, whether its age is to be
judged at dequeue (R177). -/
structure EFrame where
  bytes : Bytes
  bad : Bool
  since : Nat
  judge : Bool
  deriving DecidableEq, Repr

/-- An egress crossing queue (R212, R213, R215): pointers of 15 bits, frames, high state, device time of its last progress. -/
structure EQueue where
  wr : Nat := 0
  rd : Nat := 0
  frames : List EFrame := []
  high : Bool := false
  last : Nat := 0
  deriving DecidableEq, Repr

/-- A word of a queue, with its poison tag (R222). -/
structure QWord where
  bytes : Bytes
  poison : Bool
  deriving DecidableEq, Repr

/-- A work, result, collector or bulk queue (R213 to R221): pointers; for a spill queue head and middle; the
circular words or the tail (the last `unc` uncommitted); sizes of the committed packets, oldest first; high
state, refill under way, lost count and sequence (R228), producer's fencing epoch (its owner tag is the queue's number, R421), device
time of its last progress, words still to come of a packet that is being dropped (R227), place of the middle's oldest word (R218). -/
structure Queue where
  wr : Nat := 0
  cm : Nat := 0
  rd : Nat := 0
  head : List QWord := []
  mid : List QWord := []
  words : List QWord := []
  unc : Nat := 0
  pkts : List Nat := []
  high : Bool := false
  refill : Bool := false
  stall : Bool := false
  lost : Nat := 0
  seq : Nat := 0
  epoch : Nat := 0
  last : Nat := 0
  skip : Nat := 0
  midRd : Nat := 0
  deriving DecidableEq, Repr

/-- A meter (R165): rates in kb/s, bursts in bytes, yellow parameter, tokens in 1/400,000 byte, tick last
counted, colour counts. -/
structure Meter where
  cir : Nat
  cbs : Nat
  pir : Nat
  pbs : Nat
  yellow : Nat
  tc : Nat
  tp : Nat
  at_ : Nat
  green : Nat
  yellowN : Nat
  red : Nat
  deriving DecidableEq, Repr

/-- A held key of a pipe's hold unit (R170) with its frames in arrival order, each with whether it hit. -/
structure HeldKey where
  key : FlowKey
  dir : Bool
  deadline : Nat
  frames : List (Bool × FrameIn)
  deriving DecidableEq, Repr

/-- The crossing (spec/05): ports 32 s + k, egress queues, meters, hold units of the eight pipes, PCIe-side
light counters are in `Obs`. -/
structure Cross where
  ports : List (Nat × Port)
  egress : List (Nat × EQueue)
  meters : List (Nat × Meter)
  holds : List (Nat × List HeldKey)
  deriving DecidableEq, Repr

/-- A flow-table entry (R180); reserved bits read 0 and are not kept. -/
structure FEntry where
  valid : Bool
  key : FlowKey
  lock : Bool
  owner : Nat
  pinned : Bool
  tier : Nat
  t2req : Bool
  score : Nat
  verdict : Nat
  epoch : Nat
  stamp : Nat
  total : Nat
  under : Nat
  deriving DecidableEq, Repr

/-- The facts of a frame that the feature engine takes from a pipe (R234, R235): verdict-cycle time, direction
bit, side, length with FCS, L4 payload length, TCP flags and window, outer keying of a recognised tunnel,
Spethal tag, tunnel recognised, and the 144-bit snapshot. -/
structure Meta where
  time : Nat
  dir : Bool
  line : Bool
  len : Nat
  payload : Nat
  tcp : Bool
  flags : Nat
  window : Nat
  outerKey : Bool
  tagged : Bool
  snap : Nat
  deriving DecidableEq, Repr

/-- A flow record (R234); directions are relative to the first frame's. -/
structure Rec where
  first : Nat
  latest : Nat
  fwd : Nat
  rev : Nat
  bfwd : Nat
  brev : Nat
  minLen : Nat
  maxLen : Nat
  lastLen : Nat
  zeroPay : Nat
  changes : Nat
  longRun : Nat
  run : Nat
  bits46 : Nat
  zeroWin : Nat
  sqLen : Nat
  sqGap : Nat
  minGap : Nat
  maxGap : Nat
  lastGap : Nat
  gap2 : Nat
  gapRev : Nat
  hist : List Nat
  fflags : List Nat
  rflags : List Nat
  winMin : Nat
  winMax : Nat
  winLast : Nat
  loClass : Nat
  loTag : Nat
  hiClass : Nat
  hiTag : Nat
  snap : Nat
  deriving DecidableEq, Repr

/-- A pending key of the learning engine (R190, R192, R236): merged misses, those that have crossed under the
default verdict, stamp of the first, the record built so far. -/
structure Pend where
  key : FlowKey
  merged : Nat
  crossed : Nat
  stamp : Nat
  record : Rec
  deriving DecidableEq, Repr

/-- A lock owner tag (R200): fencing epoch, the ring that holds it, sweep under way, lease deadline. -/
structure LTag where
  epoch : Nat := 0
  ring : Option Nat := none
  sweep : Bool := false
  lease : Nat := 0
  deriving DecidableEq, Repr

/-- A descriptor ring's registers (R194): `sub` and `comp` bases, size code, enable, interrupt enable, the four
pointers, lock owner tag and epoch shown, fenced and error bits. -/
structure Ring where
  sub : Nat := 0
  comp : Nat := 0
  size : Nat := 0
  en : Bool := false
  irq : Bool := false
  sp : Nat := 0
  sc : Nat := 0
  cp : Nat := 0
  cc : Nat := 0
  tag : Nat := 0
  epoch : Nat := 0
  fenced : Bool := false
  err : Bool := false
  deriving DecidableEq, Repr

/-- A collector ring's registers (R229). -/
structure CRing where
  base : Nat := 0
  size : Nat := 0
  en : Bool := false
  irq : Bool := false
  prod : Nat := 0
  cons : Nat := 0
  deriving DecidableEq, Repr

/-- A queued statistics update (R187); `under` is false for a frame that is held, which counts under the applied verdict
when it leaves (R251). -/
structure StatUpd where
  key : FlowKey
  stamp : Nat
  dir : Bool
  under : Bool
  deriving DecidableEq, Repr

/-- The flow table, its rings and the prefix trie (spec/06). Entries are keyed by slot number
t × 2²¹ + n × 4 + s; rings by 4 × function + ring; trie entries by target × 2³² + index. -/
structure Flow where
  entries : List (Nat × FEntry)
  pend : List Pend
  flooded : List FlowKey
  tags : List (Nat × LTag)
  rings : List (Nat × Ring)
  bring : List (Nat × Ring)
  crings : List (Nat × CRing)
  statq : List StatUpd
  trie : List (Nat × Nat)
  /-- Mismatches that wait for confirmation (R208): pinned, address, word, shadow value. -/
  unconf : List (Bool × Nat × Nat × Nat)
  shadowLog : List Bytes
  deriving DecidableEq, Repr

/-- A tree of a request in the walkers (R247): node index within the ensemble, its depth, and the leaf value once
reached; `fetch` while the node is on its way from a stack. -/
structure TreePos where
  node : Nat
  depth : Nat
  leaf : Option Nat
  fetch : Bool
  deriving DecidableEq, Repr

/-- A tier-1 request (R247, R250): key, time and epoch in force at the verdict cycle, address and digest of the ensemble section under which
it started, the 256 features, a position for each tree (with neither leaf nor fetch: not yet taken by its walker), abandoned or not. -/
structure T1Req where
  id : Nat
  key : FlowKey
  time : Nat
  epoch : Nat
  ens : Nat
  digest : Bytes
  feats : List Nat
  trees : List TreePos
  dead : Bool
  deriving DecidableEq, Repr

/-- An update that waits for its record's fetch (R238): the frame's facts and the tier-2 request whose vector
is formed after it (R351), if any. -/
structure FetchUpd where
  fact : Meta
  req : Option Nat
  deriving DecidableEq, Repr

/-- An ensemble section that is held (R41, R245, R246): its digest, its header, tree table and verdict map as loaded, the levels pinned, and
the node cache's copy of their nodes as index and 128 bits, tree by tree. -/
structure Ens where
  digest : Bytes
  head : Bytes
  levels : Nat
  nodes : List (Nat × Nat)
  deriving DecidableEq, Repr

/-- Tier 1 (spec/08): requests in arrival order, next request number, flow records by slot (listed: valid,
R233, R236), record fetches under way with the updates that wait, the slots whose records stand in the flow-record cache, latest used
first (R238), the ensembles held, in load order (R246). -/
structure Tier1 where
  reqs : List T1Req
  nextReq : Nat
  recs : List (Nat × Option Rec)
  fetches : List (Nat × List FetchUpd)
  cache : List Nat := []
  ens : List Ens := []
  deriving DecidableEq, Repr

/-- A tier-2 request in the outstanding table (R353): sequence, key, flow-table slot index, partition, slot, epoch,
time of the triggering verdict cycle, ticks of its deadline, the work record's words once formed, whether the record has gone to its queue or
peer. -/
structure T2Req where
  seq : Nat
  key : FlowKey
  index : Nat
  part : Nat
  slot : Nat
  epoch : Nat
  time : Nat
  deadline : Nat
  flags : Nat
  fence : Nat
  record : List Bytes
  sent : Bool := false
  deriving DecidableEq, Repr

/-- A weight block as placed (R337 kind 10, R346): its number, core position, array, whether it is pinned, its bytes and their offset in the
bundle; its rung and local address, given by the ladder (a pinned block: rung 0 and its array). -/
structure BlockPlace where
  block : Nat
  core : Nat
  arr : Nat
  pinned : Bool
  size : Nat := 0
  off : Nat := 0
  rung : Nat := 0
  local_ : Nat := 0
  deriving DecidableEq, Repr

/-- What a bundle places on a slot's quads (R337 kinds 9 and 10, R338, R341): array mode and enabled-array mask per core position; the blocks;
the core programs as core position, core store offset and bytes; the escape copies as block number, core position and core store offset; the
core store offset of the block address table. -/
structure Placing where
  positions : List (Nat × Nat)
  blocks : List BlockPlace
  progs : List (Nat × Nat × Bytes) := []
  escs : List (Nat × Nat × Nat) := []
  table : Nat := 0
  deriving DecidableEq, Repr

/-- A slot of a partition (R340 to R346) beyond its objects: local region held or peer replica, bundle length and
digest, quads it holds, tier-1 ensemble (address, length, digest, expressions), tier-2 facts (output kind,
input map, expressions, verdict map, the bundle's compatibility record, placing, the graph's commands by core position), ticks of operator faults,
arming under way; the load under way (value written, quads, state before it). `ens` is 0 without an ensemble; `kept` while an unloaded slot's
ensemble stays in force (R343); `lost` once PD-HBM has gone down under it (R345). -/
structure Slot where
  region : Option Nat := none
  peer : Option Nat := none
  len : Nat := 0
  digest : Bytes := []
  quads : Nat := 0
  ens : Nat := 0
  ensLen : Nat := 0
  ensDigest : Bytes := []
  exprs : Bytes := []
  tier2 : Bool := false
  kind : Nat := 0
  inputs : List Nat := []
  vmap : Bytes := []
  compat : Bytes := []
  sums : Bytes := []
  cal : Bytes := []
  place : Option Placing := none
  cmds : List (Nat × CoreCmd) := []
  cost : Nat := 0
  opFaults : List Nat := []
  fence : Nat := 0
  armed : Bool := false
  arming : Bool := false
  load : Option Nat := none
  lquads : Nat := 0
  prev : Nat := 0
  kept : Bool := false
  lost : Bool := false
  deriving DecidableEq, Repr

/-- A region of stack space (R349): base, size in MiB, holder, fencing epoch. -/
structure Region where
  base : Nat := 0
  size : Nat := 0
  holder : Nat := 0xFF
  epoch : Nat := 0
  deriving DecidableEq, Repr

/-- A partition's swap progress (R356 to R358): the slot that drains, the staged slot that the gap's close makes
active; and the ticks of its restarts (R428). -/
structure Part where
  drain : Option Nat := none
  gap : Option Nat := none
  restarts : List Nat := []
  deriving DecidableEq, Repr

/-- Models (spec/12): slots by 4 × partition + slot, regions, the outstanding table in order of request, the next
sequence, partitions' swaps, records of peers that wait for room in a work queue (R226). -/
structure Models where
  slots : List (Nat × Slot)
  regions : List (Nat × Region)
  out2 : List T2Req
  nextSeq : Nat
  parts : List (Nat × Part)
  waiting : List (Nat × List Bytes) := []
  deriving DecidableEq, Repr

/-- Faults (spec/16): the latest 128 records of fault.log (R413), isle fencing epochs, ticks at which isles
were fenced, isles being restored with the training deadline, ticks of array mismatches per isle (R423),
recoveries in progress. -/
structure Faults where
  log : List Bytes
  isleEpoch : List (Nat × Nat)
  fencedAt : List (Nat × Nat)
  restoring : List (Nat × Nat)
  mism : List (Nat × List Nat)
  deriving DecidableEq, Repr

/-- A counter page's latch (R434): the page latched last with its device time, the one being latched, and whether
another latch waits. -/
structure Latch where
  last : Option (Nat × Bytes) := none
  next : Option (Nat × Bytes) := none
  again : Bool := false
  deriving DecidableEq, Repr

/-- A trace source (R438 to R441): stream bytes of the frame being filled, whether a packet or a SYNC begins at its
first byte, tick of its first byte, stream bytes since the latest SYNC, packets dropped since the latest Overflow. -/
structure TSrc where
  buf : Bytes := []
  pkt : Bool := false
  sync : Bool := false
  first : Nat := 0
  count : Nat := 0
  lost : Nat := 0
  deriving DecidableEq, Repr

/-- What the hang watchdog knows of a pending unit (R444, R445): what its progress shows in, the tick of its last progress or since which it is
pending, and whether the hang has been taken; the watch of a unit comes to life again with its next progress. -/
structure HangWatch where
  sig : List Nat := []
  since : Nat := 0
  fired : Bool := false
  deriving DecidableEq, Repr

/-- Observation (spec/17): the light set of R433 by page offset, the counter pages' latches by function, trace sources,
trace ring and extension ring (frames of 64 bytes, oldest first), the dump memory, isles halted by a dump (R448), the pending
units that the hang watchdog watches (R444). -/
structure Obs where
  light : List (Nat × Nat) := []
  latches : List (Nat × Latch) := []
  srcs : List (Nat × TSrc) := []
  ring : List Bytes := []
  ext : List Bytes := []
  dump : Bytes := []
  halted : Nat := 0
  watch : List (HangUnit × HangWatch) := []
  deriving DecidableEq, Repr

/-- A packet of a strait (R363, R364): channel, destination and source device, hops left, type, payload. -/
structure SPkt where
  ch : Nat
  dst : Nat
  src : Nat
  hops : Nat
  ty : Nat
  data : Bytes
  deriving DecidableEq, Repr

/-- A strait (R362 to R367): deadline of its state, next and expected sequence, replay buffer (sequence and flit) with
the tick its oldest was sent, resends without advance, nak outstanding, credits held and credits to return for the
three channels, waiting packets, destinations and types of the bulk queue's packets, packet in reassembly, init flit
received and acknowledged, tick of the latest flit sent, bulk packets whose producer waits for room (R231). -/
structure Strait where
  deadline : Option Nat := none
  tx : Nat := 0
  rx : Nat := 0
  replay : List (Nat × Bytes) := []
  sent : List Nat := []
  resends : Nat := 0
  nak : Bool := false
  cred : List Nat := [0, 0, 0]
  free : List Nat := [0, 0, 0]
  out : List SPkt := []
  bulk : List SPkt := []
  part : Option SPkt := none
  initGot : Bool := false
  initAck : Bool := false
  lastSent : Nat := 0
  wait : List SPkt := []
  deriving DecidableEq, Repr

/-- A registry entry (R373). -/
structure RegEntry where
  kind : Nat := 0
  holder : Nat := 0
  part : Nat := 0
  slot : Nat := 0
  region : Nat := 0
  len : Nat := 0
  digest : Bytes := []
  deriving DecidableEq, Repr

/-- What is known of another device of the pool (R369, R371): serial, the two replies, compatibility result of the
pair, its state and harbour version, latest heartbeat sequence heard and the tick it last advanced. -/
structure Peer where
  serial : Nat := 0
  mine : Option Nat := none
  theirs : Option Nat := none
  pair : Nat := 0
  compat : Nat := 0
  version : Nat := 0
  seq : Option Nat := none
  at_ : Nat := 0
  deriving DecidableEq, Repr

/-- A replica lock held at this device (R375): region, locker, fencing epoch, deadline. -/
structure RLock where
  region : Nat
  locker : Nat
  epoch : Nat
  deadline : Nat
  deriving DecidableEq, Repr

/-- A fetch that runs (R374): holder, registry entry, local region, length, digest, lock epoch once granted, bytes
received. -/
structure Fetch where
  holder : Nat
  entry : Nat
  region : Nat
  len : Nat
  digest : Bytes
  epoch : Option Nat
  got : Nat
  deriving DecidableEq, Repr

/-- Where a slot's work goes while it is re-mapped (R377): kind 1 local, 2 peer, 3 unplaced. -/
structure Remap where
  kind : Nat := 0
  unit : Nat := 0
  part : Nat := 0
  slot : Nat := 0
  deriving DecidableEq, Repr

/-- The pool (spec/13): peers by device, heartbeat entries of the adjacent members by strait (hops and sequence of
each device), own heartbeat sequence, registry, replica locks held here and the locks' epochs by region, the fetch,
locks that slots hold on peers' replicas (holder, registry entry, epoch), work credits held by device × 64 + queue and granted
likewise, re-maps by slot, the bytes received of a peer's bundle by slot. -/
structure Pool where
  peers : List (Nat × Peer)
  adv : List (Nat × List (Nat × Nat))
  seq : Nat
  reg : List (Nat × RegEntry)
  locks : List RLock
  lockEpoch : List (Nat × Nat)
  fetch : Option Fetch
  slotLock : List (Nat × Option (Nat × Nat × Option Nat))
  credits : List (Nat × Nat)
  granted : List (Nat × Nat)
  remap : List (Nat × Remap)
  stream : List (Nat × Bytes)
  deriving DecidableEq, Repr

/-- An ASTR, ASTR.T or AEW in flight (R296, R309): instruction word, program counter of its bundle, Xc at issue, chunks
committed, stopped at a chunk boundary for a pre-emption (R310). -/
structure Pass where
  w : Nat
  pc : Nat
  xc : Nat
  chunks : Nat
  stop : Bool := false
  deriving DecidableEq, Repr

/-- A compute core (R264) with its command port (R257): registers, tile rows and tags, configuration words and fill
counts of T0 to T7, cached tile-file rows (latest used first), channel scales, poisoned registers (R416), identifier
register, array mode, loaded mask, program counter, the words of the bundle that is not whole yet (slot, word, instruction; R260), a taken
branch's target;
state 0 idle, 1 running, 2 stopped, 3 context saved; port, running command with the tick it began, last completion
status, array passes and WLD (word, program counter, rows) in flight, barrier waited at, pre-emption requested, fault to be judged
at the reset (code, detail, device time), device time of its last issue. -/
structure Core where
  x : List (Nat × Nat) := []
  v : List (Nat × Nat) := []
  rows : List (Nat × Nat) := []
  tags : List (Nat × Nat) := []
  cfg : List (Nat × Nat) := []
  fill : List (Nat × Nat) := []
  cache : List Nat := []
  cs : List (Nat × Nat) := []
  xbad : Nat := 0
  vbad : Nat := 0
  ident : Nat := 0
  mode : Nat := 0
  loaded : Nat := 0
  progress : Nat := 0
  pc : Nat := 0
  bundle : List (Nat × Nat × Instr) := []
  branch : Option Nat := none
  run : Nat := 0
  port : List CoreCmd := []
  cur : Option CoreCmd := none
  since : Nat := 0
  status : Nat := 0
  passes : List Pass := []
  wld : Option (Nat × Nat × List Nat) := none
  barrier : Option (Nat × Nat) := none
  preempt : Bool := false
  fault : Option (Nat × Nat × Nat) := none
  lastAt : Nat := 0
  deriving DecidableEq, Repr

/-- A matrix array (R290): 64 weight rows of 64 bytes, checksum column, checksum row and corner. -/
structure MArr where
  w : List Nat := []
  col : List Int := []
  row : List Int := []
  corner : Int := 0
  deriving DecidableEq, Repr

/-- An isle scheduler (R256, R257): the work queue served last, commands that wait for a full port, tick of its last
progress; by request identifier the padded vectors of the requests that run (R352) and those whose record came poisoned (R222). -/
structure Sched where
  rr : Nat := 0
  waiting : List (Nat × CoreCmd) := []
  last : Nat := 0
  vecs : List (Nat × Bytes) := []
  poison : List Nat := []
  deriving DecidableEq, Repr

/-- An operator statistics entry (R333). -/
structure QStat where
  oper : Nat := 0
  layer : Nat := 0
  max : Nat := 0
  esc : Nat := 0
  elems : Nat := 0
  clipped : Nat := 0
  deriving DecidableEq, Repr

/-- An operator counter entry (R436). -/
structure OpCtr where
  oper : Nat
  layer : Nat
  part : Nat
  cmds : Nat
  bundles : Nat
  steps : Nat
  rows : Nat
  wlds : Nat
  waits : Nat
  deriving DecidableEq, Repr

/-- The isles (spec/09 to spec/11): cores 32 n + c, arrays 4 × core + k, schedulers, statistics and operator
counter tables by 1,024 n + entry, isle.fault_log, mismatch counts by array. -/
structure Isles where
  cores : List (Nat × Core)
  arrays : List (Nat × MArr)
  scheds : List (Nat × Sched)
  stats : List (Nat × Option QStat)
  ops : List (Nat × Option OpCtr)
  log : List Bytes
  mism : List (Nat × Nat)
  deriving DecidableEq, Repr

/-- A cartridge slot (R381 to R394). `phase`: 0 absent, 1 waits for ready, 2 waits for the challenge, 3 decided, 4 installing; its
deadline (none while the control cores do not run); what was read at step 2 (`known`); `tried` the serials installed to in this
start; pair Restricted, released, tick of the light loss with the attempts made, tick of the light-on, light usable. Life: record
sequence and copy written last, lit seconds, highest temperature, ever lit unauthenticated, tick of the next record, record due,
the cycle rule's direction (true up), extreme, halves and cycles at insertion, the factors of the lit seconds (newest first, in
units of 1/10,000). Monitors: samples in a row beyond and inside by 6 × lane + monitor, alarm bytes, powers. -/
structure Cart where
  phase : Nat := 0
  deadline : Option Nat := none
  digest : Bytes := []
  cert : Bytes := []
  nonce : Bytes := []
  known : Bool := false
  nominal : Nat := 0
  drive : Nat := 0
  tried : List Nat := []
  restr : Bool := false
  released : Bool := false
  loss : Option (Nat × Nat) := none
  lightAt : Nat := 0
  usable : Bool := false
  seq : Nat := 0
  copy : Nat := 0
  litSecs : Nat := 0
  high : Int := 0
  unauth : Bool := false
  recAt : Nat := 0
  recDue : Bool := false
  up : Bool := true
  ext : Option Int := none
  half : Nat := 0
  base : Nat := 0
  factors : List Nat := []
  mon : List (Nat × (Nat × Nat)) := []
  alarms : List Nat := [0, 0, 0, 0]
  rx : List Int := [0, 0, 0, 0]
  tx : List Int := [0, 0, 0, 0]
  deriving DecidableEq, Repr

/-- A partition's rotation (R400 to R402): the Active slot, its partner, the slot that serves, whether engaged, ticks of the next
exchange and of the latest step with a peak above the release bound. -/
structure Rot where
  active : Nat
  partner : Nat
  serving : Nat
  on : Bool
  next : Nat
  hot : Nat
  deriving DecidableEq, Repr

/-- A sensor's watch (R396): latest reading, ticks since which it has not changed and since which the second of restoration runs,
whether it changed in that second, failed stack samples in a row, read at least once. -/
structure Sensor where
  val : Int := 0
  same : Nat := 0
  good : Nat := 0
  moved : Bool := false
  bad : Nat := 0
  read : Bool := false
  deriving DecidableEq, Repr

/-- Cycle count and life report of a die or stack (R408, R409), by the units of therm.cycles. -/
structure TUnit where
  up : Bool := true
  ext : Option Int := none
  half : Nat := 0
  high : Option Int := none
  bands : List Nat := [0, 0, 0, 0, 0, 0]
  deriving DecidableEq, Repr

/-- Heat (spec/15): sensors, failed bits, forecaster's step and outputs, thermal duties by quad, rotations by partition, units. For the
forecaster (R398): the light counters of bundles and frames as the latest step found them, the bytes moved since by stack and by 4 + sound,
and the schedulers' latest report of queued work by quad. -/
structure Heat where
  sensors : List (Nat × Sensor) := []
  failed : Nat := 0
  step : Nat := 0
  fc : List (Nat × Int) := []
  peak : List (Nat × Int) := []
  duty : List (Nat × Nat) := []
  rot : List (Nat × Option Rot) := []
  units : List (Nat × TUnit) := []
  seen : List (Nat × Nat) := []
  moved : List (Nat × Nat) := []
  queued : List (Nat × Nat) := []
  deriving DecidableEq, Repr

/-- The instructions of the TAP (R475): those that IEEE 1149.1 requires, IDCODE, and any other by its code. -/
inductive TapInstr
  | bypass
  | sample
  | preload
  | extest
  | idcode
  | other (code : Nat)
  deriving DecidableEq, Repr
/-- The debug port (R475): the instruction that the TAP holds, and the bytes on UART_TX and, as taken, on UART_RX, oldest first. -/
structure DebugPort where
  ir : TapInstr := .idcode
  tx : Bytes := []
  rx : Bytes := []
  deriving DecidableEq, Repr

/-- The state of the block. -/
structure State where
  pending : List Instr
  out : List Out
  free : Nat
  dev : Dev
  objs : List (Nat × Nat)
  flash : List (Nat × Byte)
  mem : List (Nat × Byte)
  boot : Boot
  meas : Meas
  clk : Clk
  cu : Cuhild
  pwr : Power
  res : Resid
  x : Cross
  queues : List (Nat × Queue)
  flow : Flow
  t1 : Tier1
  m : Models
  st : List (Nat × Strait)
  pool : Pool
  isle : Isles
  carts : List (Nat × Cart)
  heat : Heat
  fault : Faults
  obs : Obs
  dbg : DebugPort
  deriving DecidableEq, Repr

/-- The outcome type of the machine. -/
abbrev Outcome := Host.Outcome State Fault Refusal

/-- A BRL-8512 of stepping B1 with every array enabled and zeros elsewhere (DESIGN CHOICE,
notes/assumptions/3.md). -/
def Dev.bench : Dev :=
  { grade := 1, stepping := 0x11, serial := 0, arrayMap := 2 ^ 512 - 1, productionFused := 0, securityFloor := 0,
    salt := 0, mac := 0, romKey := [], secret := [], keyCert := [], siliconEntries := [], thermModel := 0 }

/-- Cuhild before any agent has registered. -/
def Cuhild.init : Cuhild :=
  { agents := [], lease := none, window := none, bids := [], handles := [], mbox := [], cfgGo := false,
    cfgDone := false, cfgReq := [], cfgRsp := [], can := [], canPrio := [] }

/-- Start-up state before a start. -/
def Boot.init : Boot :=
  { served := false, recovery := false, firstDone := false, passed := [], harbour := [], isle := [],
    cart := [], prog := none, keptPending := false, keptDeadline := 0, keptSeq := 0, keptCopy := 0, restartAt := none, pairs := [] }

/-- The clocks before a start. -/
def Clk.init : Clk := { ticks := 0, dev := 0, acc := 0, freq := 0, ppsGood := 0, ppsTick := none, armed := none }

/-- Power with the device Off: every enable low; PERST_N, an input, not asserted (DESIGN CHOICE, notes/assumptions/47.md). -/
def Power.init : Power :=
  { phase := 0, pllRetry := none, trigger := none, coreClock := false, up := none, en := 0, waits := [], down := [], downAt := 0,
    hbmUsed := false, isleUsed := false, perst := false, pcieUp := true, wakeLanes := [], backoff := [], soundBad := 0, tripCool := none, tripAt := 0 }

/-- Residency with every core in Run. -/
def Resid.init : Resid := { nap := [], doze := [], entering := [], wakes := [], needIsle := 0, off := 0 }

/-- Empty queues, table and trie. -/
def Flow.init : Flow :=
  { entries := [], pend := [], flooded := [], tags := [], rings := [], bring := [], crings := [], statq := [], trie := [],
    unconf := [], shadowLog := [] }

/-- The pool before any peer is known. -/
def Pool.init : Pool :=
  { peers := [], adv := [], seq := 0, reg := [], locks := [], lockEpoch := [], fetch := none, slotLock := [], credits := [],
    granted := [], remap := [], stream := [] }

/-- The machine right after reset: Off, PORST_N asserted (R131, R132), every object at its default, flash
erased (notes/assumptions/4.md), memory with nothing listed. -/
def State.reset : State :=
  { pending := [], out := [], free := 0, dev := Dev.bench, objs := [], flash := [], mem := [], boot := Boot.init,
    meas := { regs := [], log := [] }, clk := Clk.init, cu := Cuhild.init, pwr := Power.init, res := Resid.init,
    x := { ports := [], egress := [], meters := [], holds := [] }, queues := [], flow := Flow.init,
    t1 := { reqs := [], nextReq := 0, recs := [], fetches := [] },
    m := { slots := [], regions := [], out2 := [], nextSeq := 0, parts := [] },
    st := [], pool := Pool.init,
    isle := { cores := [], arrays := [], scheds := [], stats := [], ops := [], log := [], mism := [] },
    carts := [], heat := {},
    fault := { log := [], isleEpoch := [], fencedAt := [], restoring := [], mism := [] },
    obs := {}, dbg := {} }

end Sys2Proof.Machine
end

