-- ==== Sys2Proof/Machine/Base.lean ====
section
/-! DEFINITION. The operations over the state that everything rests on: objects and counters (R44, R431, R432), the grain clock
(R124), what an observer sees, and messages as bytes (R53, R54). -/
namespace Sys2Proof.Machine

/-! ## Objects and counters -/

/-- The value of a dictionary object held in the state (R44: its default until written). -/
def State.obj (s : State) (k : Nat) : Nat := mget objDefault s.objs k
/-- Give an object a value. -/
def State.setObj (s : State) (k v : Nat) : State := { s with objs := mset objDefault s.objs k v }
/-- Add to a counter; counters wrap modulo 2⁶⁴ (R432). -/
def State.addCtr (s : State) (k n : Nat) : State := s.setObj k ((s.obj k + n) % 2 ^ 64)
/-- Add one to a counter. -/
def State.ctr (s : State) (k : Nat) : State := s.addCtr k 1
/-- Set one bit of an object. -/
def State.setObjBit (s : State) (k i : Nat) (b : Bool) : State := s.setObj k (setBit (s.obj k) i b)
/-- Whether a bit of an object is 1. -/
def State.objBit (s : State) (k i : Nat) : Bool := bit (s.obj k) i
/-- A fresh free value: the counter moves on (notes/assumptions/7.md). -/
def State.fresh (s : State) : Nat × State := (Config.freeNat s.free, { s with free := s.free + 1 })
/-- Log what an observer outside sees, newest first. -/
def State.emit (s : State) (o : Out) : State := { s with out := o :: s.out }
/-- Apply an operation to each element of a list in turn. -/
def State.each {α : Type} (s : State) (xs : List α) (f : State → α → State) : State := xs.foldl f s
/-- Apply an operation where a condition holds. -/
def State.when (s : State) (c : Bool) (f : State → State) : State := if c then f s else s

/-- Whether the device has left Off (R131). -/
def State.on (s : State) : Bool := s.pwr.phase == 1
/-- The device is in Ready or Crossing (R131). -/
def State.running (s : State) : Bool := s.on && decide (2 ≤ s.obj Obj.powerState)
/-- The device is in Crossing. -/
def State.crossing (s : State) : Bool := s.on && s.obj Obj.powerState == 3
/-- Domain `d` (0 PD-NET, 1 PD-HBM, 2 + n PD-ISLEn) is powered (R127). -/
def State.domain (s : State) (d : Nat) : Bool := s.objBit Obj.powerDomains d
/-- PD-NET is powered and its clocks run. -/
def State.netOn (s : State) : Bool := s.on && s.domain 0 && s.pwr.coreClock
/-- The registers of the ring engines answer host writes: PD-NET is powered, its clock running or not, and the link up; the PHY lies
in AON (R127; DEDUCED, notes/assumptions/75.md). -/
def State.bar2On (s : State) : Bool := s.on && s.domain 0 && s.boot.served && s.pwr.pcieUp && !s.pwr.perst
/-- The PCIe link serves the functions (R92, R467). -/
def State.pcie (s : State) : Bool := s.netOn && s.pwr.pcieUp && !s.pwr.perst
/-- Isle `n` is powered and its clocks run. -/
def State.isleOn (s : State) (n : Nat) : Bool := s.netOn && s.domain (2 + n)
/-- The stack beneath isle `n` is reachable from the harbour die (R21). -/
def State.stackUp (s : State) (n : Nat) : Bool := s.objBit Obj.machineStacksUp n
/-- The device is Restricted or in ROM recovery (R115). -/
def State.restricted (s : State) : Bool := s.obj Obj.startRestricted == 1

/-! ## The grain clock (R124, R182) -/

/-- Ticks of a number of ns, µs and ms. -/
def usT (n : Nat) : Nat := n * 50
/-- Ticks of a number of ms. -/
def msT (n : Nat) : Nat := n * 50000

/-- Let `n` grain ticks pass: the device time advances by 20 ns each, corrected by the fractional rate
accumulator (R124), and the first of them takes a step that waits for it (R125). -/
def State.elapse (s : State) (n : Nat) : State :=
  let rate := toSigned 32 (s.obj Obj.timeRatePpb)
  let a := s.clk.acc + 20 * (n : Int) * rate
  let d := (s.clk.dev : Int) + (if n = 0 then 0 else s.clk.step) + 20 * n + a / 1000000000
  { s with clk := { s.clk with ticks := s.clk.ticks + n, acc := a % 1000000000, dev := (d % (2 ^ 64 : Int)).toNat,
                               step := if n = 0 then s.clk.step else 0 } }
/-- Let time pass up to a deadline, if it is still to come. -/
def State.elapseTo (s : State) (t : Nat) : State := if s.clk.ticks < t then s.elapse (t - s.clk.ticks) else s
/-- The device time (R12). -/
def State.now (s : State) : Nat := s.clk.dev
/-- The last-seen stamp of the present tick (R182). -/
def State.stamp (s : State) : Nat := s.clk.dev / 20480 % 2 ^ 32

/-! ## Messages and their transports -/

/-- A payload in a byte order: `big` for network order (R54). -/
def encFields (big : Bool) : List (Nat × Nat) → Bytes
  | [] => []
  | (w, v) :: fs => (if big then be w v else le w v) ++ encFields big fs
/-- The width of a payload. -/
def fieldsLen (fs : List (Nat × Nat)) : Nat := fs.foldl (fun n f => n + f.1) 0
/-- A message as bytes (R53). -/
def encMsg (big : Bool) (m : Msg) : Bytes :=
  encFields big ([(1, m.flags), (1, m.op), (1, m.agent), (1, m.scope), (2, m.seq), (2, fieldsLen m.payload), (4, m.epoch),
    (2, m.abort), (2, 0)] ++ m.payload)

/-- A strait is Up (R362). -/
def State.straitUp (s : State) (i : Nat) : Bool := s.objBit Obj.straitUp i

end Sys2Proof.Machine
end

