-- ==== Sys2Proof/Machine/Molur.lean ====
section
/-! DEFINITION. The strait link's sending side: flits, credits, routes and packets (R361 to R367, R372). -/
namespace Sys2Proof.Machine

/-- Strait i. -/
def State.strait (s : State) (i : Nat) : Strait := mget (fun _ => ({} : Strait)) s.st i
/-- Replace strait i. -/
def State.setStrait (s : State) (i : Nat) (v : Strait) : State := { s with st := mset (fun _ => ({} : Strait)) s.st i v }
/-- What is known of device d. -/
def State.peer (s : State) (d : Nat) : Peer := mget (fun _ => ({} : Peer)) s.pool.peers d
/-- Replace what is known of device d. -/
def State.setPeer (s : State) (d : Nat) (v : Peer) : State :=
  { s with pool := { s.pool with peers := mset (fun _ => ({} : Peer)) s.pool.peers d v } }
/-- Device d is an admitted member. -/
def State.member (s : State) (d : Nat) : Bool := decide (d < 64) && s.objBit Obj.poolMembers d

/-- Flits of a packet of n bytes (R363). -/
def flitCount (n : Nat) : Nat := max 1 (ceilDiv n 236)

/-- A flit's 256 bytes (R363). `b0` is the low nibble of byte 0 (channel, first, last), `b3` byte 3. -/
def flitBytes (b0 dst src b3 seq ack credit ty : Nat) (data : Bytes) : Bytes :=
  let h := be 1 (0x10 + b0) ++ be 1 dst ++ be 1 src ++ be 1 b3 ++ be 2 seq ++ be 2 ack ++ be 2 credit ++ be 2 data.length ++ be 1 ty ++
    zeros 3 ++ padTo 236 data
  h ++ be 4 (crc32c h)

/-- The credits that the next flit returns: of the lowest channel with any (R363, R367); the rest stays. -/
def takeCredit (free : List Nat) : Nat × List Nat :=
  match (List.range 3).find? (fun c => decide (0 < free.getD c 0)) with
  | some c => let n := min 1023 (free.getD c 0); (c * 2 ^ 14 + n, setAt free c (free.getD c 0 - n))
  | none => (0, free)

/-- The acknowledge field: the latest flit accepted in order (R363). -/
def Strait.ack (v : Strait) : Nat := (v.rx + 65535) % 65536

/-- Send the flits of a packet (R363, R365): `k` is the flit's number, `fuel` bounds them. -/
def State.sendFlits (s : State) (i : Nat) (p : SPkt) : Nat → Nat → State
  | 0, _ => s
  | fuel + 1, k =>
    let v := s.strait i
    let n := flitCount p.data.length
    if n ≤ k then s
    else
      let c := takeCredit v.free
      let b0 := p.ch * 4 + (if k = 0 then 2 else 0) + (if k + 1 = n then 1 else 0)
      let f := flitBytes b0 p.dst p.src p.hops v.tx v.ack c.1 p.ty ((p.data.drop (236 * k)).take 236)
      let v := { v with tx := (v.tx + 1) % 65536, replay := v.replay ++ [(v.tx, f)], sent := v.sent ++ [s.clk.ticks], free := c.2,
                        lastSent := s.clk.ticks,
                        cred := setAt v.cred p.ch (v.cred.getD p.ch 0 - 1) }
      State.sendFlits ((s.setStrait i v).emit (.flit i f)) i p fuel (k + 1)

/-- A packet can be sent now: credits for all its flits and room in the replay buffer (R365, R367). -/
def Strait.canSend (v : Strait) (p : SPkt) : Bool :=
  let n := flitCount p.data.length
  decide (n ≤ v.cred.getD p.ch 0) && decide (v.replay.length + n ≤ 256)

/-- The packet that goes next (R367): the oldest control packet if it can be sent, else the oldest work packet if it can. Bulk packets leave
by QUEUE_POP of their queue; no work packet that could be sent waits then, so the alternation of R367 finds no two packets to order
(DEDUCED, notes/assumptions/49.md). -/
def Strait.nextOut (v : Strait) : Option SPkt :=
  [v.out.find? (fun p => p.ch == 0), v.out.find? (fun p => p.ch != 0)].findSome? (fun o => o.filter v.canSend)
/-- Send what waits, as far as it can be sent (R367). -/
def State.pumpStrait (s : State) (i : Nat) : Nat → State
  | 0 => s
  | fuel + 1 =>
    let v := s.strait i
    match v.nextOut with
    | none => s
    | some p =>
      if s.straitUp i then
        let s := s.setStrait i { v with out := v.out.erase p }
        State.pumpStrait (s.sendFlits i p 5 0) i fuel
      else s

/-- Send a link flit (R363): kind 0 idle, 1 init, 2 ack, 3 nak. -/
def State.linkFlit (s : State) (i kind dst : Nat) (ack : Nat) (data : Bytes) : State :=
  let v := s.strait i
  let c := takeCredit v.free
  let f := flitBytes 15 dst (s.obj Obj.poolDevice % 64) (kind * 16) 0 ack c.1 0 data
  ((s.setStrait i { v with free := c.2, lastSent := s.clk.ticks }).emit (.flit i f))

/-- Hops that the adjacent member on strait i advertises to device d; none while the strait does not serve. -/
def State.advHops (s : State) (i d : Nat) : Option Nat :=
  if !s.straitUp i then none
  else
    let peer := s.obj (Obj.straitPeer i)
    if peer = d then some 0
    else if !s.member peer then none
    else
      let h := ((mget (fun _ => ([] : List (Nat × Nat))) s.pool.adv i).getD d (0xFF, 0)).1
      if h = 0xFF then none else some h
/-- The route to a device (R372): strait and hops. -/
def State.route (s : State) (d : Nat) : Option (Nat × Nat) :=
  ((List.range 8).foldl (fun (b : Option (Nat × Nat)) i =>
    match s.advHops i d with
    | none => b
    | some h => match b with
      | some (_, h') => if h + 1 < h' then some (i, h + 1) else b
      | none => if h + 1 ≤ 7 then some (i, h + 1) else none) none)
/-- The value of pool.routes. -/
def State.routes (s : State) : Bytes :=
  (List.range 64).map (fun d => match s.route d with | some (i, h) => BitVec.ofNat 8 (i * 16 + h) | none => 0xFF)

/-- Hand a packet to the strait of its route; without one it is lost. -/
def State.forward (s : State) (p : SPkt) : State :=
  match s.route p.dst with
  | none => s
  | some (i, _) => (s.setStrait i { s.strait i with out := (s.strait i).out ++ [p] }).pumpStrait i 64
/-- Originate a packet (R372). -/
def State.sendPacket (s : State) (ch ty dst : Nat) (data : Bytes) : State :=
  s.forward { ch := ch, dst := dst, src := s.obj Obj.poolDevice % 64, hops := 7, ty := ty, data := data }

/-- Send a Cuhild message to or from a peer (R77): the two device numbers come before it. -/
def State.sendCuhild (s : State) (d : Nat) (msg : Bytes) : State :=
  s.sendPacket 0 0x01 d (be 1 (s.obj Obj.poolDevice % 256) ++ be 1 d ++ msg)

end Sys2Proof.Machine
end

