-- ==== Sys2Proof/Machine/Ops.lean ====
section
/-! DEFINITION. The named operations over the state that every chapter shares: notifications (R87 to R89), message delivery by
transport (R68 to R77), fault records (R413), memory and addresses (R38, R40). -/
namespace Sys2Proof

/-- The scope of an endpoint's agent (R68): 0xFF for the device, else the partition. -/
def Endpoint.scope : Endpoint → Nat
  | .vf p => p
  | _ => 0xFF
/-- Two endpoints are the same one (R68): an in-band endpoint is its side, port and source MAC. -/
def Endpoint.same : Endpoint → Endpoint → Bool
  | .inband p m _, .inband p' m' _ => p == p' && m == m'
  | a, b => decide (a = b)
/-- The endpoint's transport code of agent.n.transport. -/
def Endpoint.transport : Endpoint → Nat
  | .cfgWindow => 1 | .pf => 2 | .vf _ => 3 | .can _ => 4
  | .inband p _ _ => if p < 32 then 5 else 6
  | .strait _ => 7
/-- The value of agent.n.endpoint. -/
def Endpoint.code : Endpoint → Nat
  | .vf p => p | .can n => n | .inband p m _ => (p % 32) * 2 ^ 48 + m % 2 ^ 48 | .strait d => d | _ => 0
/-- Whether the endpoint's transport is network order (R54). -/
def Endpoint.big : Endpoint → Bool
  | .cfgWindow => false | .pf => false | .vf _ => false | _ => true
/-- The mailbox number of an endpoint: 0 for the physical function, 1 + p for virtual function p. -/
def Endpoint.box : Endpoint → Option Nat
  | .pf => some 0 | .vf p => some (1 + p) | _ => none

end Sys2Proof

namespace Sys2Proof.Machine

/-- The number of an object of port q = 32 s + k (0x2010 + k and 0x2030 + k). -/
def portObj (q sub : Nat) : Nat := (0x2010 + q) * 256 + sub
/-- A link came up on lanes (host 0 to 31, line 32 to 63, strait i 64 + 8 i on): their detectors' backoff starts afresh, and where one of
them is a lane that woke the device, the wake was not in vain (R134). -/
def State.lanesUp (s : State) (lo n : Nat) : State :=
  let out := fun (l : Nat) => !(decide (lo ≤ l) && decide (l < lo + n))
  { s with pwr := { s.pwr with wakeLanes := if s.pwr.wakeLanes.all out then s.pwr.wakeLanes else [],
                               backoff := s.pwr.backoff.filter (fun b => out b.1) } }
/-- State of port q (R176). -/
def State.portState (s : State) (q : Nat) : Nat := s.obj (portObj q 1)

/-- The endpoint's transport is available (R68); a peer's strait is up when a route of straits that are Up leads to it (R372). -/
def State.served (s : State) : Endpoint → Bool
  | .cfgWindow => s.on && s.boot.served && s.pwr.pcieUp && !s.pwr.perst
  | .can _ => s.on && s.boot.served
  | .pf => s.boot.served && s.running && s.pcie
  | .vf p => decide (p < 16) && s.boot.served && s.running && s.pcie
  | .inband p _ _ => s.boot.served && s.crossing && s.portState p == 2 &&
      (if p < 32 then s.objBit Obj.cuhildInbandHost p else s.objBit Obj.cuhildInbandLine (p - 32))
  | .strait d => s.boot.served && s.running && s.objBit Obj.poolMembers d && (s.route d).isSome

/-- Mailbox number n. -/
def State.box (s : State) (n : Nat) : MBox := mget (fun _ => ({} : MBox)) s.cu.mbox n
/-- Replace mailbox number n. -/
def State.setBox (s : State) (n : Nat) (b : MBox) : State :=
  { s with cu := { s.cu with mbox := mset (fun _ => ({} : MBox)) s.cu.mbox n b } }
/-- A mailbox ring is full: the pointers differ only in bit 4 (R69). -/
def ringFull5 (p c : Nat) : Bool := (p + 16) % 32 == c % 32

/-- Write one response to a response ring (R70). -/
def State.putRsp (s : State) (n : Nat) (bs : Bytes) : State :=
  let b := s.box n
  let s := s.setBox n { b with rsp := mset (fun _ => ([] : Bytes)) b.rsp (b.rspP % 16) bs, rspP := (b.rspP + 1) % 32 }
  s.when (bit b.irq 0) (·.emit (.msix n 0))
/-- Write one notification to a notification ring (R70). -/
def State.putNtf (s : State) (n : Nat) (bs : Bytes) : State :=
  let b := s.box n
  let s := s.setBox n { b with ntf := mset (fun _ => ([] : Bytes)) b.ntf (b.ntfP % 16) bs, ntfP := (b.ntfP + 1) % 32 }
  s.when (bit b.irq 1) (·.emit (.msix n 1))

/-- The next valid CAN FD length (R73). -/
def canLen (n : Nat) : Nat :=
  if n ≤ 8 then n else if n ≤ 12 then 12 else if n ≤ 16 then 16 else if n ≤ 20 then 20 else if n ≤ 24 then 24
  else if n ≤ 32 then 32 else if n ≤ 48 then 48 else 64
/-- A message cut into CAN FD data fields with their segment bytes (R73); `fuel` bounds the segments. -/
def canSegs : Nat → Nat → Bytes → List Bytes
  | 0, _, _ => []
  | fuel + 1, i, bs =>
    let last := decide (bs.length ≤ 63)
    let seg := (if i = 0 then 128 else 0) + (if last then 64 else 0) + i % 64
    padTo (canLen (1 + min 63 bs.length)) (BitVec.ofNat 8 seg :: bs.take 63) ::
      (if last then [] else canSegs fuel (i + 1) (bs.drop 63))
/-- A CAN FD identifier (R72). -/
def canId (prio dst src : Nat) : Nat := prio * 2 ^ 26 + dst * 2 ^ 19 + src * 2 ^ 12 + 0x100

/-- An in-band frame that carries a message (R74, R75), without FCS. -/
def inbandFrame (dst src tag ety : Nat) (m : Bytes) : Bytes :=
  let f := be 6 dst ++ be 6 src ++ (if tag = 0 then [] else be 2 0x8100 ++ be 2 (tag % 65536)) ++ be 2 ety ++ m
  f ++ zeros (60 - f.length)

/-- Send a message to an endpoint: `node` is the CAN node it leaves from, `prio` its CAN priority, `note` true
for a notification. A mailbox response that finds its ring full waits (R70); one that finds a slot free is written at once, even while an
earlier one waits (the spec gives no order between them: DESIGN CHOICE, notes/assumptions/114.md). -/
def State.send (s : State) (node prio : Nat) (note : Bool) (ep : Endpoint) (m : Msg) : State :=
  let bs := encMsg ep.big m
  match ep with
  | .cfgWindow => { s with cu := { s.cu with cfgGo := false, cfgDone := true, cfgRsp := padTo 256 bs } }
  | .pf => if note then s.putNtf 0 bs else if ringFull5 (s.box 0).rspP (s.box 0).rspC || !s.served .pf
      then s.setBox 0 { s.box 0 with waiting := (s.box 0).waiting ++ [bs] } else s.putRsp 0 bs
  | .vf p => if note then s.putNtf (1 + p) bs else if ringFull5 (s.box (1 + p)).rspP (s.box (1 + p)).rspC || !s.served .pf
      then s.setBox (1 + p) { s.box (1 + p) with waiting := (s.box (1 + p)).waiting ++ [bs] } else s.putRsp (1 + p) bs
  | .can n => s.each (canSegs 17 0 bs) (fun s d => s.emit (.can (canId prio n node) d))
  | .inband p mac tag => s.emit (.frame p (inbandFrame mac s.dev.mac tag (s.obj Obj.cuhildInbandEthertype) bs) false)
  | .strait d => s.sendCuhild d bs

/-! ## Agents and notifications -/

/-- Agent number n, if registered. -/
def State.agent (s : State) (n : Nat) : Option Agent := mget (fun _ => none) s.cu.agents n
/-- Replace agent number n. -/
def State.setAgent (s : State) (n : Nat) (a : Option Agent) : State :=
  { s with cu := { s.cu with agents := mset (fun _ => none) s.cu.agents n a } }
/-- Change agent number n. -/
def State.updAgent (s : State) (n : Nat) (f : Agent → Agent) : State := s.setAgent n ((s.agent n).map f)

/-- The notification bit of an index (R45). -/
def notifyBit (idx : Nat) : Nat :=
  if 0x8000 ≤ idx then 19 else match idx / 0x100 with
  | 0x10 => 0 | 0x11 => 1 | 0x12 => 2 | 0x13 => 3 | 0x14 => 4 | 0x15 => 5 | 0x16 => 6 | 0x20 => 7 | 0x21 => 8 | 0x22 => 9
  | 0x23 => 10 | 0x24 => 11 | 0x25 => 12 | 0x30 => 13 | 0x31 => 14 | 0x32 => 15 | 0x33 => 16 | 0x40 => 17 | 0x41 => 18
  | _ => 31

/-- A notification can be handed to the endpoint now: its transport is served and, on a mailbox, the ring has
room (R87: the configuration window has no notification path). -/
def State.canNote (s : State) (ep : Endpoint) : Bool :=
  match ep with
  | .cfgWindow => false
  | .pf => s.served ep && !ringFull5 (s.box 0).ntfP (s.box 0).ntfC
  | .vf p => s.served ep && !ringFull5 (s.box (1 + p)).ntfP (s.box (1 + p)).ntfC
  | _ => s.served ep

/-- Deliver what can be delivered of an agent's undelivered notifications, oldest first; the lost count goes
with the first (R89). `fuel` bounds them. -/
def State.pump : Nat → State → Nat → State
  | 0, s, _ => s
  | fuel + 1, s, n =>
    match s.agent n with
    | none => s
    | some a =>
      match a.notes with
      | [] => s
      | m :: ms =>
        if s.canNote a.ep then
          let m := { m with payload := setAt m.payload 5 (2, a.lost), epoch := s.obj Obj.ownerEpoch }
          let s := s.setAgent n (some { a with notes := ms, lost := 0 })
          State.pump fuel (s.send (s.obj Obj.cuhildCanNode) 6 true a.ep m) n
        else s

/-- Queue one notification for agent n; the 65th undelivered drops the oldest (R89). -/
def State.note (s : State) (n : Nat) (m : Msg) : State :=
  match s.agent n with
  | none => s
  | some a =>
    let full := decide (64 ≤ a.notes.length)
    let notes := (if full then a.notes.drop 1 else a.notes) ++ [m]
    let s := s.setAgent n (some { a with notes := notes, lost := if full then sat 65535 (a.lost + 1) else a.lost })
    State.pump 65 (s.when full (·.ctr Obj.ctrNotifyLost)) n

/-- The notification of R88 for an object, value length `w` bytes. Its sequence is 0, and `State.pump` puts in the owner epoch current at its
delivery: R53 and R58 say both of requests and responses only (DESIGN CHOICE, notes/assumptions/115.md). -/
def noteMsg (agent scope time key ty w v : Nat) : Msg :=
  { flags := 0x12, op := 0x40, agent := agent, scope := scope, seq := 0, epoch := 0, abort := 0,
    payload := [(2, key / 256), (1, key % 256), (1, ty), (1, w), (1, 0), (2, 0), (8, time), (w, v)] }

/-- Agent n is subscribed to an object and its scope includes it (R87, R88). -/
def State.wants (s : State) (n key : Nat) : Bool :=
  match s.agent n with
  | none => false
  | some a => bit a.mask (notifyBit (key / 256)) &&
      (a.ep.scope == 0xFF || (decide (0x8000 ≤ key / 256) && (key / 256 - 0x8000) / 0x400 == a.ep.scope))

/-- Raise an event on an object (R88). A BLOB object's notification carries no value bytes (DEDUCED,
notes/assumptions/16.md). -/
def State.event (s : State) (key : Nat) : State :=
  let row := (keyRow key).getD ⟨0, 0, 0, 0, 0, .ro, 0, .any, false⟩
  (List.range 8).foldl (fun s n => if s.wants n key then
      s.note n (noteMsg n (((s.agent n).map (·.ep.scope)).getD 0xFF) s.now key row.ty (typeWidth row.ty) (s.obj key)) else s) s

/-- Give an object a value; a change of an event object notifies (R88). -/
def State.setEv (s : State) (k v : Nat) : State :=
  if s.obj k = v then s else if (keyRow k).any (·.ev) then (s.setObj k v).event k else s.setObj k v
/-- Set one bit of an event object. -/
def State.setEvBit (s : State) (k i : Nat) (b : Bool) : State := s.setEv k (setBit (s.obj k) i b)

/-! ## Fault records (R413) and light counters (R433) -/

/-- Append a fault record with its time of detection and raise the event of fault.log (R413). -/
def State.faultRecAt (s : State) (time cls action ukind unit part slot code detail epoch : Nat) : State :=
  let n := s.obj Obj.faultCount
  let r := [(1, cls), (1, action), (1, ukind), (1, unit), (1, part), (1, slot), (1, code), (1, 0), (8, detail), (8, time),
    (4, epoch), (4, n)]
  let s := { s with fault := { s.fault with log := keepLast 128 (s.fault.log ++ [encFields false r]) } }
  (s.setObj Obj.faultCount ((n + 1) % 2 ^ 32)).event Obj.faultLog
/-- Record a fault detected now. -/
def State.faultRec (s : State) (cls action ukind unit part slot code detail epoch : Nat) : State :=
  s.faultRecAt s.now cls action ukind unit part slot code detail epoch

/-- A light counter by its offset in the physical function's page (R433). -/
def State.light (s : State) (off : Nat) : Nat := mget (fun _ => 0) s.obs.light off
/-- Add to a light counter. -/
def State.addLight (s : State) (off n : Nat) : State :=
  { s with obs := { s.obs with light := mset (fun _ => 0) s.obs.light off ((s.light off + n) % 2 ^ 64) } }
/-- Add one to light counter i of partition p (R435). -/
def State.partLight (s : State) (p i : Nat) : State := s.addLight (0x0A40 + p * 256 + i * 8) 1
/-- Offset of light counter i of port q (R433). -/
def portLight (q i : Nat) : Nat := 0x0040 + q * 32 + i * 8
/-- Offset of light counter i of pipe n (R433). -/
def pipeLight (n i : Nat) : Nat := 0x0840 + n * 32 + i * 8

/-! ## Addresses and memory (R38 to R40) -/

/-- Region of an internal address: 1 stacks, 2 isle shared SRAM, 3 core stores, 4 flow table, 5 node cache,
6 trace buffer, 7 egress buffer; with the unit and its first address and size (R38). -/
def addrRegion (a : Nat) : Option (Nat × Nat × Nat × Nat) :=
  if a < 0x1800000000 then some (1, a / 0x600000000, a / 0x600000000 * 0x600000000, 0x600000000)
  else if 0x4000000000 ≤ a ∧ a < 0x4004000000 then some (2, (a - 0x4000000000) / 0x1000000, a / 0x1000000 * 0x1000000, 0x1000000)
  else if 0x5000000000 ≤ a ∧ a < 0x5020000000 then some (3, (a - 0x5000000000) / 0x400000, a / 0x400000 * 0x400000, 0x400000)
  else if 0x6000000000 ≤ a ∧ a < 0x6010000000 then some (4, 0, 0x6000000000, 0x10000000)
  else if 0x6100000000 ≤ a ∧ a < 0x6100400000 then some (5, 0, 0x6100000000, 0x400000)
  else if 0x6200000000 ≤ a ∧ a < 0x6200100000 then some (6, 0, 0x6200000000, 0x100000)
  else if 0x6300000000 ≤ a ∧ a < 0x6304000000 then some (7, 0, 0x6300000000, 0x4000000)
  else none
/-- Offset of the harbour reserve in a stack (R39). -/
def reserveOff : Nat := 0x5C0000000

/-- Whether an access is allowed (R40): within one region, not a write into the harbour reserve, not a stack
whose sound is down, and not a host write to the structures of R41. -/
def State.addrOk (s : State) (a len : Nat) (write : Bool) : Bool :=
  match addrRegion a with
  | none => false
  | some (k, u, base, size) =>
    decide (a + len ≤ base + size) &&
    (if k = 1 then s.stackUp u && !(write && decide (base + reserveOff < a + len)) else !(write && decide (4 ≤ k)))

/-- What a stack reports of a read's bursts is counted (R348). -/
def State.stackCount (s : State) (e : Bursts) : State :=
  ((s.addCtr Obj.ctrHbmEccCorrected e.fixed).addCtr Obj.ctrHbmEccUncorrectable e.bad).addCtr Obj.ctrHbmE2eFail e.e2e
/-- What stack n reports of a read's bursts is counted, and a failed one is reported as the uncorrectable-ECC class (R348, R412). -/
def State.stackErrs (s : State) (n part addr : Nat) (e : Bursts) : State :=
  (s.stackCount e).when e.failed (·.faultRec 1 0 4 n part 0xFF 0 addr 0)

/-- Bytes moved, for the forecaster (R398): stack n from 0, sound n from 4. -/
def State.moved (s : State) (k n : Nat) : State :=
  { s with heat := { s.heat with moved := mupd (fun _ => 0) s.heat.moved k (· + n) } }
/-- Bytes that the harbour die reads or writes in stack k, through its sound (R21). -/
def State.movedStack (s : State) (k n : Nat) : State := (s.moved k n).moved (4 + k) n

/-- Read bytes of the stacks, shared SRAM and core stores. -/
def State.memRead (s : State) (a n : Nat) : Bytes := Memory.readAll s.mem a n
/-- The end-to-end check that the 32-byte burst at an address carries in its metadata bits (R348). -/
def State.burstMeta (s : State) (a : Nat) : Nat := burstCheck (s.memRead (a / 32 * 32) 32) (a / 32 * 32)
/-- Write bytes of the stacks, shared SRAM and core stores. -/
def State.memWrite (s : State) (a : Nat) (bs : Bytes) : State := { s with mem := Memory.writeAll s.mem a bs }
/-- Drop the bytes of an address range: its contents are lost (R129). -/
def State.memLose (s : State) (a n : Nat) : State :=
  { s with mem := mdrop (fun k => decide (a ≤ k) && decide (k < a + n)) s.mem }
/-- Read a little-endian number. -/
def State.memLE (s : State) (a n : Nat) : Nat := unle (s.memRead a n)

/-- First address of a core's store, core numbered 32 n + c (R38). -/
def coreStore (c : Nat) : Nat := 0x5000000000 + c * 0x400000
/-- First address of isle n's shared SRAM (R38). -/
def isleSram (n : Nat) : Nat := 0x4000000000 + n * 0x1000000

/-- A flash byte; erased bytes read 0xFF (notes/assumptions/4.md). -/
def State.flashRead (s : State) (a n : Nat) : Bytes := (List.range n).map (fun i => mget (fun _ => (0xFF : Byte)) s.flash (a + i))
/-- Program or erase flash bytes. -/
def State.flashWrite (s : State) (a : Nat) (bs : Bytes) : State :=
  { s with flash := (bs.zipIdx).foldl (fun m e => mset (fun _ => (0xFF : Byte)) m (a + e.2) e.1) s.flash }
/-- Erase a range of flash. -/
def State.flashErase (s : State) (a n : Nat) : State :=
  { s with flash := mdrop (fun k => decide (a ≤ k) && decide (k < a + n)) s.flash }

end Sys2Proof.Machine
end

