-- ==== Sys2Proof/Machine/Sha.lean ====
section
/-! DEFINITION. SHA-384 (FIPS 180-4), which R99, R102, R103, R113 and R336 name. The constants of the
named standard are PRESUMED, taken from outside the spec (notes/assumptions/12.md). -/
namespace Sys2Proof.Machine

/-- Round constants 0 to 9. -/
def shaK0 : List W64 := [0x428a2f98d728ae22, 0x7137449123ef65cd, 0xb5c0fbcfec4d3b2f, 0xe9b5dba58189dbbc, 0x3956c25bf348b538, 0x59f111f1b605d019, 0x923f82a4af194f9b, 0xab1c5ed5da6d8118, 0xd807aa98a3030242, 0x12835b0145706fbe]
/-- Round constants 10 to 19. -/
def shaK1 : List W64 := [0x243185be4ee4b28c, 0x550c7dc3d5ffb4e2, 0x72be5d74f27b896f, 0x80deb1fe3b1696b1, 0x9bdc06a725c71235, 0xc19bf174cf692694, 0xe49b69c19ef14ad2, 0xefbe4786384f25e3, 0x0fc19dc68b8cd5b5, 0x240ca1cc77ac9c65]
/-- Round constants 20 to 29. -/
def shaK2 : List W64 := [0x2de92c6f592b0275, 0x4a7484aa6ea6e483, 0x5cb0a9dcbd41fbd4, 0x76f988da831153b5, 0x983e5152ee66dfab, 0xa831c66d2db43210, 0xb00327c898fb213f, 0xbf597fc7beef0ee4, 0xc6e00bf33da88fc2, 0xd5a79147930aa725]
/-- Round constants 30 to 39. -/
def shaK3 : List W64 := [0x06ca6351e003826f, 0x142929670a0e6e70, 0x27b70a8546d22ffc, 0x2e1b21385c26c926, 0x4d2c6dfc5ac42aed, 0x53380d139d95b3df, 0x650a73548baf63de, 0x766a0abb3c77b2a8, 0x81c2c92e47edaee6, 0x92722c851482353b]
/-- Round constants 40 to 49. -/
def shaK4 : List W64 := [0xa2bfe8a14cf10364, 0xa81a664bbc423001, 0xc24b8b70d0f89791, 0xc76c51a30654be30, 0xd192e819d6ef5218, 0xd69906245565a910, 0xf40e35855771202a, 0x106aa07032bbd1b8, 0x19a4c116b8d2d0c8, 0x1e376c085141ab53]
/-- Round constants 50 to 59. -/
def shaK5 : List W64 := [0x2748774cdf8eeb99, 0x34b0bcb5e19b48a8, 0x391c0cb3c5c95a63, 0x4ed8aa4ae3418acb, 0x5b9cca4f7763e373, 0x682e6ff3d6b2b8a3, 0x748f82ee5defb2fc, 0x78a5636f43172f60, 0x84c87814a1f0ab72, 0x8cc702081a6439ec]
/-- Round constants 60 to 69. -/
def shaK6 : List W64 := [0x90befffa23631e28, 0xa4506cebde82bde9, 0xbef9a3f7b2c67915, 0xc67178f2e372532b, 0xca273eceea26619c, 0xd186b8c721c0c207, 0xeada7dd6cde0eb1e, 0xf57d4f7fee6ed178, 0x06f067aa72176fba, 0x0a637dc5a2c898a6]
/-- Round constants 70 to 79. -/
def shaK7 : List W64 := [0x113f9804bef90dae, 0x1b710b35131c471b, 0x28db77f523047d84, 0x32caab7b40c72493, 0x3c9ebe0a15c9bebc, 0x431d67c49c100d4c, 0x4cc5d4becb3e42b6, 0x597f299cfc657e2a, 0x5fcb6fab3ad6faec, 0x6c44198c4a475817]
/-- The 80 round constants. -/
def shaK : List W64 := shaK0 ++ shaK1 ++ shaK2 ++ shaK3 ++ shaK4 ++ shaK5 ++ shaK6 ++ shaK7
/-- The initial hash value of SHA-384. -/
def shaInit : List W64 := [0xcbbb9d5dc1059ed8, 0x629a292a367cd507, 0x9159015a3070dd17, 0x152fecd8f70e5939, 0x67332667ffc00b31, 0x8eb44a8768581511, 0xdb0c2e0d64f98fa7, 0x47b5481dbefa4fa4]

/-- Rotate right. -/
def shaRotr (x : W64) (n : Nat) : W64 := x.rotateRight n

/-- Extend the message schedule by `n` words; the latest 16 words stand newest first. -/
def shaExtend : Nat → List W64 → List W64
  | 0, w => w
  | n + 1, w =>
    let w2 := w.getD 1 0; let w7 := w.getD 6 0; let w15 := w.getD 14 0; let w16 := w.getD 15 0
    let s0 := shaRotr w15 1 ^^^ shaRotr w15 8 ^^^ (w15 >>> 7)
    let s1 := shaRotr w2 19 ^^^ shaRotr w2 61 ^^^ (w2 >>> 6)
    shaExtend n ((w16 + s0 + w7 + s1) :: w)

/-- The working variables of one block. -/
structure ShaVars where
  a : W64
  b : W64
  c : W64
  d : W64
  e : W64
  f : W64
  g : W64
  h : W64
  deriving DecidableEq, Repr

/-- One round. -/
def shaRound (v : ShaVars) (kw : W64 × W64) : ShaVars :=
  let s1 := shaRotr v.e 14 ^^^ shaRotr v.e 18 ^^^ shaRotr v.e 41
  let ch := (v.e &&& v.f) ^^^ (~~~v.e &&& v.g)
  let t1 := v.h + s1 + ch + kw.1 + kw.2
  let s0 := shaRotr v.a 28 ^^^ shaRotr v.a 34 ^^^ shaRotr v.a 39
  let mj := (v.a &&& v.b) ^^^ (v.a &&& v.c) ^^^ (v.b &&& v.c)
  { a := t1 + s0 + mj, b := v.a, c := v.b, d := v.c, e := v.d + t1, f := v.e, g := v.f, h := v.g }

/-- Hash one block of 16 words into the running value of eight. -/
def shaBlock (hv : List W64) (blk : List W64) : List W64 :=
  let w := (shaExtend 64 blk.reverse).reverse
  let h (i : Nat) : W64 := hv.getD i 0
  let v := (shaK.zip w).foldl shaRound { a := h 0, b := h 1, c := h 2, d := h 3, e := h 4, f := h 5, g := h 6, h := h 7 }
  [h 0 + v.a, h 1 + v.b, h 2 + v.c, h 3 + v.d, h 4 + v.e, h 5 + v.f, h 6 + v.g, h 7 + v.h]

/-- The words of a byte string whose length is a multiple of 8; `n` words. -/
def shaWords : Nat → Bytes → List W64
  | 0, _ => []
  | n + 1, bs => BitVec.ofNat 64 (unbe (bs.take 8)) :: shaWords n (bs.drop 8)

/-- Hash `n` blocks. -/
def shaBlocks : Nat → List W64 → Bytes → List W64
  | 0, hv, _ => hv
  | n + 1, hv, bs => shaBlocks n (shaBlock hv (shaWords 16 (bs.take 128))) (bs.drop 128)

/-- The padded message. -/
def shaPad (bs : Bytes) : Bytes :=
  bs ++ [0x80] ++ zeros ((239 - bs.length % 128) % 128) ++ be 16 (8 * bs.length)

/-- The 48-byte digest. -/
def sha384 (bs : Bytes) : Bytes :=
  let p := shaPad bs
  ((shaBlocks (p.length / 128) shaInit p).take 6).flatMap (fun w => be 8 w.toNat)

end Sys2Proof.Machine
end

