-- ==== Sys2Proof/Machine/Measure.lean ====
section
/-! DEFINITION. Measurement registers and their log (R102 to R105) and compatibility decisions (R110 to R115). -/
namespace Sys2Proof.Machine

/-- Measurement register i. -/
def State.mreg (s : State) (i : Nat) : Bytes := mget (fun _ => zeros 48) s.meas.regs i
/-- A log entry (R104). -/
def measEntry (i count time subject : Nat) (d : Bytes) : Bytes :=
  encFields false [(1, i), (1, i), (2, 0), (4, count), (8, time), (8, subject % 2 ^ 64)] ++ padTo 48 d
/-- Extend register i with a digest (R103 to R105). -/
def State.extend (s : State) (i subject : Nat) (d : Bytes) : State :=
  let s := { s with meas := { s.meas with regs := mset (fun _ => zeros 48) s.meas.regs i (sha384 (s.mreg i ++ d)) } }
  let n := (s.obj Obj.measCount + 1) % 2 ^ 32
  let s := s.setObj Obj.measCount n
  if s.meas.log.length < 1024 then { s with meas := { s.meas with log := s.meas.log ++ [measEntry i n s.now subject d] } }
  else s.setEv Obj.measLogOverflow 1

/-- The version of a compatibility record: major, minor, patch (R110). -/
def recVersion (r : Bytes) : Nat := byteAt r 4 * 65536 + byteAt r 5 * 256 + byteAt r 6
/-- A record is well formed and of a kind (R110). -/
def recOk (kind : Nat) (r : Bytes) : Bool :=
  byteAt r 0 == kind && byteAt r 1 == 1 && decide (leAt r 2 2 ≤ 64) && decide (16 + 8 * leAt r 2 2 ≤ r.length) && decide (r.length ≤ 528)
/-- A record without its padding. -/
def recTrim (r : Bytes) : Bytes := r.take (16 + 8 * leAt r 2 2)
/-- A record lists an image of a kind and version under a flag [0] (R110, R112). -/
def recLists (r : Bytes) (kind ver : Nat) (bad : Bool) : Bool :=
  (List.range (leAt r 2 2)).any (fun i =>
    let e := slice r (16 + 8 * i) 8
    byteAt e 0 == kind && bit (byteAt e 1) 0 == bad && byteAt e 2 == ver / 65536 && byteAt e 3 == ver / 256 % 256 &&
    decide (byteAt e 4 ≤ ver % 256) && decide (ver % 256 ≤ byteAt e 5))
/-- The outcome of a pair (R112): 0 tested, 1 provisional, 2 Restricted. -/
def pairOutcome (x y : Bytes) : Nat :=
  let kx := byteAt x 0; let ky := byteAt y 0; let vx := recVersion x; let vy := recVersion y
  if recLists x ky vy true || recLists y kx vx true then 2
  else if recLists x ky vy false || recLists y kx vx false then 0
  else if vx / 65536 ≠ vy / 65536 then 2
  else 1
/-- A decision record (R113); its versions take the byte order of R110's record: major, minor, patch (DESIGN CHOICE,
notes/assumptions/123.md). -/
def decisionRecord (x y : Bytes) (out : Nat) : Bytes :=
  le 1 (byteAt x 0) ++ slice x 4 3 ++ le 1 (byteAt y 0) ++ slice y 4 3 ++ le 1 out ++ zeros 7
/-- Kind and version of an image as compat.deciding holds it. -/
def imageCode (r : Bytes) : Nat := byteAt r 0 * 2 ^ 24 + recVersion r

/-- compat.state and its deciding pair follow the decisions that count (R113). -/
def State.compatUpdate (s : State) : State :=
  let ps := s.boot.pairs
  let st := ps.foldl (fun m p => max m p.2.1) 0
  let d := (ps.find? (fun p => p.2.1 == st)).getD (0, 0, 0, 0)
  ((s.setEv Obj.compatState st).setObj Obj.compatDecidingA d.2.2.1).setObj Obj.compatDecidingB d.2.2.2
/-- Record the counted outcome of a pair under its number: 0 fuses, 1 stepping, 2 isle firmware, 16 + engine for cartridges,
64 + 4 p + S for bundles. -/
def State.setPair (s : State) (n out a b : Nat) : State :=
  let ps := s.boot.pairs.filter (fun p => p.1 != n)
  { s with boot := { s.boot with pairs := ps ++ [(n, out, a, b)] } }.compatUpdate
/-- A pair counts no longer. -/
def State.dropPair (s : State) (n : Nat) : State :=
  let ps := s.boot.pairs.filter (fun p => p.1 != n)
  { s with boot := { s.boot with pairs := ps } }.compatUpdate
/-- Decide a pair and measure the decision (R112, R113). -/
def State.measurePair (s : State) (x y : Bytes) : State × Nat :=
  let out := pairOutcome x y
  (s.extend 6 (byteAt x 0 * 256 + byteAt y 0) (sha384 (decisionRecord x y out)), out)
/-- Decide, measure and count a pair (R113); a Restricted outcome of local scope counts as provisional. -/
def State.decidePair (s : State) (n : Nat) (x y : Bytes) (local_ : Bool) : State × Nat :=
  let r := s.measurePair x y
  (r.1.setPair n (if local_ then min r.2 1 else r.2) (imageCode x) (imageCode y), r.2)

/-- The device's attestation key, an uncompressed point of 97 bytes (R106). -/
def Dev.publicKey (d : Dev) : Bytes := 0x04 :: padTo 96 (Config.attestPoint d.secret)

/-- The running isle firmware's record; none while none runs. -/
def State.isleRecord (s : State) : Option Bytes := if s.boot.isle.isEmpty then none else some (recTrim (slice s.boot.isle 16 528))
/-- The running harbour firmware's record. -/
def State.harbourRecord (s : State) : Bytes := recTrim (slice s.boot.harbour 16 528)
/-- The image digest (R99). -/
def imageDigest (img : Bytes) : Bytes := sha384 (slice img 0 544 ++ slice img 640 (leAt img 12 4))

end Sys2Proof.Machine
end

