-- ==== Sys2Proof/Machine/Trace.lean ====
section
/-! DEFINITION. The trace (R438 to R443): packets, frames, the ring and its extension. What firmware executes is not modelled, so
branches, targets and exceptions of the sources do not occur (notes/assumptions/68.md). -/
namespace Sys2Proof.Machine

/-- Trace source n: control cores 0 to 3, schedulers 4 to 7 (R438). -/
def State.src (s : State) (n : Nat) : TSrc := mget (fun _ => ({} : TSrc)) s.obs.srcs n
/-- Replace trace source n. -/
def State.setSrc (s : State) (n : Nat) (v : TSrc) : State :=
  { s with obs := { s.obs with srcs := mset (fun _ => ({} : TSrc)) s.obs.srcs n v } }
/-- The source traces: its bit is 1 and its core runs (R438). -/
def State.tracing (s : State) (n : Nat) : Bool :=
  decide (n < 8) && s.objBit Obj.traceEnable n && s.netOn && (decide (n < 4) || (s.isleOn (n - 4) && !bit s.obs.halted (n - 4)))
/-- A read of the trace is open (R443). -/
def State.traceRead (s : State) : Bool :=
  s.cu.handles.any (fun h => !h.write && h.dead.isNone && h.idx == 0x1620 && (h.sub == 7 || h.sub == 8))
/-- The extension ring's room in frames; 0 where there is none in use (R442). -/
def State.extRoom (s : State) : Nat :=
  let n := s.obj Obj.traceExtStack
  if n < 4 ∧ s.stackUp n then s.obj Obj.traceExtSize * 16384 else 0

/-- Write a frame (R439, R442): the oldest goes with trace.mode 0, tracing stops with trace.mode 1. -/
def State.putFrame (s : State) (f : Bytes) : State :=
  let room := s.extRoom
  let ext := decide (0 < room)
  let r := if ext then s.obs.ext else s.obs.ring
  let cap := if ext then room else 16384
  if cap ≤ r.length ∧ s.obj Obj.traceMode = 1 then s.setEv Obj.traceState 2
  else
    let r := keepLast cap (r ++ [f])
    let s := { s with obs := if ext then { s.obs with ext := r } else { s.obs with ring := r } }
    let s := s.addCtr Obj.traceBytes 64
    if cap ≤ r.length ∧ s.obj Obj.traceMode = 1 then s.setEv Obj.traceState 2 else s
/-- Close a source's frame (R439). -/
def State.closeFrame (s : State) (n : Nat) : State :=
  let v := s.src n
  if v.buf.isEmpty then s
  else
    let f := le 1 (n + (if v.sync then 16 else 0) + (if v.pkt then 32 else 0)) ++ le 1 v.buf.length ++ padTo 62 v.buf
    (s.setSrc n { v with buf := [], pkt := false, sync := false }).putFrame f
/-- Append stream bytes to a source's frames; `fuel` bounds the frames. -/
def State.traceBytes (s : State) (n : Nat) : Nat → Bytes → State
  | 0, _ => s
  | fuel + 1, bs =>
    let v := s.src n
    let room := 62 - v.buf.length
    let t := bs.take room
    let s := s.setSrc n { v with buf := v.buf ++ t, first := if v.buf.isEmpty then s.clk.ticks else v.first, count := v.count + t.length }
    let s := if v.buf.length + t.length = 62 then s.closeFrame n else s
    if bs.length ≤ room then s else State.traceBytes s n fuel (bs.drop room)
/-- A packet goes into the stream; it marks the frame that it begins. -/
def State.tracePut (s : State) (n : Nat) (sync : Bool) (bs : Bytes) : State :=
  let s := if sync then s.closeFrame n else s
  let v := s.src n
  let s := if v.buf.isEmpty then s.setSrc n { v with pkt := true, sync := sync } else s
  s.traceBytes n 2 bs
/-- A SYNC (R440, R441); the program counter of a source's core is a free value, its firmware not being modelled. -/
def State.putSync (s : State) (n reason : Nat) : State :=
  let r := s.fresh
  let s := r.2.tracePut n true (le 1 0x10 ++ le 8 s.now ++ le 4 (r.1 % 2 ^ 32) ++ le 1 reason)
  s.setSrc n { s.src n with count := 0 }
/-- A packet arises (R438, R441, R443): dropped while a read is open or tracing has stopped; after a drop an Overflow and a SYNC come
first; a SYNC follows each 4,096 bytes. -/
def State.tracePacket (s : State) (n : Nat) (bs : Bytes) : State :=
  if !s.tracing n then s
  else if s.traceRead || s.obj Obj.traceState == 2 then (s.setSrc n { s.src n with lost := (s.src n).lost + 1 }).ctr Obj.ctrTraceOverflow
  else
    let l := (s.src n).lost
    let s := if l = 0 then s
      else ((s.setSrc n { s.src n with lost := 0 }).tracePut n false (le 1 0x60 ++ le 2 (sat 65535 l))).putSync n 2
    let s := s.tracePut n false bs
    if 4096 ≤ (s.src n).count then s.putSync n 1 else s
/-- A SYNC for a reason of R440. -/
def State.traceSync (s : State) (n reason : Nat) : State :=
  if s.tracing n && !s.traceRead && s.obj Obj.traceState != 2 then s.putSync n reason else s
/-- A read of the trace has closed (R443): each source resumes, after an Overflow where packets were dropped. -/
def State.traceResume (s : State) : State :=
  if s.traceRead then s
  else s.each (List.range 8) (fun s n =>
    if !s.tracing n || s.obj Obj.traceState == 2 then s
    else
      let l := (s.src n).lost
      let s := if l = 0 then s else (s.setSrc n { s.src n with lost := 0 }).tracePut n false (le 1 0x60 ++ le 2 (sat 65535 l))
      s.putSync n 5)
/-- A write of trace.enable (R438, R441): the state, and an abort code or 0. At an enable from 0 the ring starts empty (DESIGN
CHOICE, notes/assumptions/66.md). -/
def State.traceEnableWrite (s : State) (v : Nat) : State × Nat :=
  let old := s.obj Obj.traceEnable
  let s := s.each (List.range 8) (fun s n => if bit old n && !bit v n then s.closeFrame n else s)
  let s := s.setObj Obj.traceEnable v
  let s := if old = 0 ∧ v ≠ 0 then ({ s with obs := { s.obs with ring := [], ext := [], srcs := [] } } : State).setObj Obj.traceBytes 0 else s
  let s := s.setEv Obj.traceState (if v = 0 then 0 else if old = 0 then 1 else s.obj Obj.traceState)
  (s.each ((List.range 8).filter (fun n => bit v n && !bit old n)) (·.traceSync · 0), 0)
/-- A write of trace.ext_stack or trace.ext_size (R442). -/
def State.traceExtWrite (s : State) (k v : Nat) : State × Nat := if s.obj Obj.traceEnable ≠ 0 then (s, 0xC162) else (s.setObj k v, 0)

/-- TRACE_FRAME_CLOSE (R439): 1 µs after the frame's first byte. -/
def execTraceFrameClose (src : Nat) (s : State) : Outcome :=
  .next (if (s.src src).buf.isEmpty then s else (s.elapseTo ((s.src src).first + usT 1)).closeFrame src)
/-- TRACE_TIME_PERIOD (R441). -/
def execTraceTimePeriod (src : Nat) (s : State) : Outcome := .next (s.tracePacket src (le 1 0x50 ++ le 4 (s.now % 2 ^ 32)))

end Sys2Proof.Machine
end

