-- ==== Sys2Proof/Machine/Owner.lean ====
section
/-! DEFINITION. Ownership, delegation and deregistration (R66, R67, R79 to R86). -/
namespace Sys2Proof.Machine

/-- Discard the live handles that satisfy `p`; their next use is aborted with `code` (R66, R67). -/
def State.killHandles (s : State) (p : Handle → Bool) (code : Nat) : State :=
  { s with cu := { s.cu with handles := s.cu.handles.map (fun h => if h.dead.isNone && p h then { h with dead := some code, data := [] } else h) } }

/-- End the delegation of partition p: its delegate's open write transactions in the block are discarded (R86). -/
def State.endDeleg (s : State) (p : Nat) : State :=
  let s := s.setEv (Obj.delegP p) 0xFF
  s.killHandles (fun h => h.write && h.basis == p) 0xC01D

/-- End every delegation (R82, R84). -/
def State.endDelegs (s : State) : State := s.each (List.range 16) State.endDeleg

/-- A change of owner (R58, R67, R84): `n` 0xFF makes the device ownerless. The epoch moves on, delegations and
open write transactions end, the new owner's lease of 500 ms starts (R81). -/
def State.changeOwner (s : State) (n prio : Nat) : State :=
  let s := s.endDelegs
  let s := s.killHandles (·.write) 0xC01D
  let s := s.setObj Obj.ownerEpoch ((s.obj Obj.ownerEpoch + 1) % 2 ^ 32)
  let s := s.setObj Obj.ownerPriority prio
  let s := { s with cu := { s.cu with lease := if n = 0xFF then none else some (s.clk.ticks + msT 500) } }
  s.setEv Obj.ownerAgent n

/-- The owner's lease reaches its deadline (R81): the device becomes ownerless, counted and recorded as a lease
expiry (R421, R413). -/
def State.leaseExpiry (s : State) : State :=
  let old := s.obj Obj.ownerEpoch
  let n := s.obj Obj.ownerAgent
  let s := s.changeOwner 0xFF 0
  let s := s.ctr Obj.ctrLeasesFenced
  s.faultRec 9 7 8 n 0xFF 0xFF 0 old (s.obj Obj.ownerEpoch)

/-- The number of the agent registered at an endpoint (R78). -/
def State.agentAt (s : State) (ep : Endpoint) : Option Nat :=
  (List.range 8).find? (fun n => match s.agent n with | some a => a.ep.same ep | none => false)

/-- Deregister agent n (R79): its delegations, subscriptions and transactions end; an owner's going makes the
device ownerless in the same grain tick. -/
def State.deregister (s : State) (n : Nat) : State :=
  let s := s.each (List.range 16) (fun s p => if s.obj (Obj.delegP p) = n then s.endDeleg p else s)
  let s := if s.obj Obj.ownerAgent = n then s.changeOwner 0xFF 0 else s
  let was := s.traceRead
  let s := { s with cu := { s.cu with handles := s.cu.handles.filter (fun h => h.agent != n), bids := s.cu.bids.filter (fun b => b.agent != n) } }
  (s.when was State.traceResume).setAgent n none

/-- Deregister the agents whose endpoint satisfies `p` (R79). -/
def State.deregisterIf (s : State) (p : Endpoint → Bool) : State :=
  s.each (List.range 8) (fun s n => match s.agent n with | some a => if p a.ep then s.deregister n else s | none => s)

end Sys2Proof.Machine
end

