-- ==== Sys2Proof/Machine/Queues.lean ====
section
/-! DEFINITION. Queues (spec/07): pointers, commit, rewind, spill, watermarks, collector packets, and the egress
crossing queues. Queues are numbered in the order of queue.depths (R212): egress 0 to 63, work 64 to 127,
result 128 to 191, collector 192 to 255, strait bulk 256 to 263. -/
namespace Sys2Proof.Machine

/-- Queue number q (64 to 263). -/
def State.queue (s : State) (q : Nat) : Queue := mget (fun _ => ({} : Queue)) s.queues q
/-- Replace queue number q. -/
def State.setQueue (s : State) (q : Nat) (v : Queue) : State := { s with queues := mset (fun _ => ({} : Queue)) s.queues q v }
/-- Egress queue of port q. -/
def State.eq (s : State) (q : Nat) : EQueue := mget (fun _ => ({} : EQueue)) s.x.egress q
/-- Replace an egress queue. -/
def State.setEq (s : State) (q : Nat) (v : EQueue) : State :=
  { s with x := { s.x with egress := mset (fun _ => ({} : EQueue)) s.x.egress q v } }

/-- A work queue. -/
def isWork (q : Nat) : Bool := decide (64 ≤ q) && decide (q < 128)
/-- A result queue. -/
def isResult (q : Nat) : Bool := decide (128 ≤ q) && decide (q < 192)
/-- A collector queue. -/
def isCollector (q : Nat) : Bool := decide (192 ≤ q) && decide (q < 256)
/-- A strait bulk queue. -/
def isBulk (q : Nat) : Bool := decide (256 ≤ q) && decide (q < 264)
/-- A spill queue (R216). -/
def isSpill (q : Nat) : Bool := isCollector q || isBulk q
/-- The stack that holds a spill queue's middle (R218). -/
def midStack (q : Nat) : Nat := if isCollector q then (q - 192) % 4 else (q - 256) % 4
/-- Words of a spill queue's middle (R218). -/
def midWords (q : Nat) : Nat := if isCollector q then 131072 else 524288
/-- Pointer modulus of a circular queue (R213): 2ⁿ⁺¹. -/
def ptrMod (q : Nat) : Nat := if isWork q then 4096 else if isResult q then 1024 else 2 ^ 32
/-- Words a queue can hold at present (R212, R219). -/
def State.qCap (s : State) (q : Nat) : Nat :=
  if isWork q then 2048 else if isResult q then 512 else 32 + (if s.stackUp (midStack q) then midWords q else 0)
/-- Words a queue holds, committed or not (R213). -/
def Queue.depth (u : Queue) : Nat := u.head.length + u.mid.length + u.words.length

/-- Offset of a spill queue's middle in its stack (R218). -/
def midOff (q : Nat) : Nat :=
  if isCollector q then 0x5F0000000 + (q - 192) / 4 * 0x800000 else 0x5F8000000 + (q - 256) / 4 * 0x2000000
/-- A byte of a middle, by its offset from the middle's start (R218): the words stand in a ring from the place of the oldest (DEDUCED,
notes/assumptions/125.md); none where no word stands. -/
def Queue.midByte (u : Queue) (q o : Nat) : Option Byte :=
  ((u.mid[(o / 64 + midWords q - u.midRd) % midWords q]?).bind (fun w => w.bytes[o % 64]?))

/-- A queue's high state begins or ends (R224). -/
def State.watermark (s : State) (q : Nat) (was now : Bool) : State := s.when (was != now) (·.emit (.watermark q now))
/-- Watermarks of a work queue in words (R226). -/
def State.workMarks (s : State) (q : Nat) : Nat × Nat :=
  let p := (q - 64) % 16
  (4 * s.obj (Obj.partWorkHigh p), 4 * s.obj (Obj.partWorkLow p))
/-- Judge a work queue's watermarks (R224): the high state begins at or above high and ends at or below low. -/
def State.markWork (s : State) (q : Nat) : State :=
  if isWork q then
    let u := s.queue q
    let m := s.workMarks q
    let h := if m.1 ≤ u.depth then true else if u.depth ≤ m.2 then false else u.high
    ((s.setQueue q { u with high := h }).setObjBit Obj.queueWorkHighState (q - 64) h).watermark q u.high h
  else s

/-- Move committed tail words of a spill queue (R216): to the head while the middle is empty and the head has
room, otherwise to the middle. `fuel` bounds the words moved. -/
def spillMove (midRoom : Nat) : Nat → Queue → Queue
  | 0, u => u
  | fuel + 1, u =>
    if u.words.length ≤ u.unc then u
    else match u.words with
      | [] => u
      | w :: ws =>
        if u.mid.isEmpty && decide (u.head.length < 16) then spillMove midRoom fuel { u with head := u.head ++ [w], words := ws }
        else if u.mid.length < midRoom then spillMove midRoom fuel { u with mid := u.mid ++ [w], words := ws }
        else u
/-- Start a refill when the head runs low and the middle holds data (R217). -/
def refillStart (u : Queue) : Queue := if u.head.length ≤ 8 && !u.mid.isEmpty then { u with refill := true } else u
/-- Bring a spill queue up to date after a commit or a pop. -/
def State.settle (s : State) (q : Nat) (u : Queue) : Queue :=
  if isSpill q then refillStart (spillMove (if s.stackUp (midStack q) then midWords q else 0) (u.words.length + 1) u) else u

/-- Replace a queue, its words moved on (R216, R217); words that go to the middle go to its stack. -/
def State.putSettled (s : State) (q : Nat) (u : Queue) : State :=
  let v := s.settle q u
  (s.setQueue q v).when (decide (u.mid.length < v.mid.length)) (·.movedStack (midStack q) (64 * (v.mid.length - u.mid.length)))

/-- A record dropped from a collector queue (R227). -/
def State.collDrop (s : State) (q : Nat) : State :=
  let u := s.queue q
  let s := s.setQueue q { u with lost := sat 65535 (u.lost + 1) }
  (s.ctr Obj.ctrCollectorDrop).partLight ((q - 192) / 4) 16

/-- Write one word (R214): refused to a fenced producer (R221), not taken while the tail is full, so that the producer waits (R216), dropped with
the rest of its packet where a collector queue has no room for the whole packet (R227). -/
def State.pushWord (s : State) (q epoch : Nat) (w : Bytes) (poison : Bool) : State :=
  let u := s.queue q
  let n := max 1 (byteAt w 1)
  if epoch ≠ u.epoch then s.ctr Obj.ctrQueueFencedWrites
  else if 0 < u.skip then s.setQueue q { u with skip := u.skip - 1 }
  else if isCollector q && u.unc == 0 && decide (s.qCap q < u.depth + n) then
    let s := s.collDrop q
    s.setQueue q { s.queue q with skip := n - 1 }
  else if s.qCap q ≤ u.depth || (isSpill q && decide (16 ≤ u.words.length)) then s
  else s.setQueue q { u with words := u.words ++ [⟨padTo 64 w, poison⟩], unc := u.unc + 1, wr := (u.wr + 1) % ptrMod q }
/-- Write one word; a work queue's watermarks are judged (R224). -/
def State.push (s : State) (q epoch : Nat) (w : Bytes) (poison : Bool) : State := (s.pushWord q epoch w poison).markWork q

/-- Commit the words written since the last commit as one packet, with its notice (R214, R220, R223). -/
def State.commit (s : State) (q : Nat) : State :=
  let u := { s.queue q with skip := 0 }
  if u.unc = 0 then s.setQueue q u
  else (s.putSettled q { u with pkts := u.pkts ++ [u.unc], unc := 0, cm := u.wr }).when (!isBulk q) (·.emit (.notice q))

/-- Rewind the uncommitted packet (R220). -/
def State.rewind (s : State) (q : Nat) : State :=
  let u := { s.queue q with skip := 0 }
  if u.unc = 0 then s.setQueue q u
  else
    let s := s.setQueue q { u with words := u.words.take (u.words.length - u.unc), unc := 0, wr := u.cm }
    (s.ctr Obj.ctrQueueRewinds).markWork q

/-- Fence a queue's producer (R221): the epoch moves on and the uncommitted packet is rewound. -/
def State.fenceProducer (s : State) (q : Nat) : State :=
  let u := s.queue q
  (s.setQueue q { u with epoch := (u.epoch + 1) % 2 ^ 32 }).rewind q

/-- The oldest packet's words if the consumer can pop it now: committed, and for a spill queue in the head. -/
def Queue.front (spill : Bool) (u : Queue) : Option (List QWord) :=
  match u.pkts with
  | [] => none
  | k :: _ => if spill then (if k ≤ u.head.length then some (u.head.take k) else none) else some (u.words.take k)

/-- The first word of each committed packet of a queue without a middle, oldest first. -/
def Queue.heads (u : Queue) : List Bytes :=
  (u.pkts.foldl (fun (a : List Bytes × List QWord) k => (a.1 ++ [((a.2.headD ⟨[], false⟩).bytes)], a.2.drop k)) ([], u.words)).1

/-- Remove the oldest packet (R214). -/
def State.dropFront (s : State) (q : Nat) : State :=
  let u := s.queue q
  match u.pkts with
  | [] => s
  | k :: ks =>
    let u := if isSpill q then { u with head := u.head.drop k, pkts := ks, rd := (u.rd + k) % ptrMod q, last := s.now }
      else { u with words := u.words.drop k, pkts := ks, rd := (u.rd + k) % ptrMod q, last := s.now }
    (s.putSettled q u).markWork q

/-- A pop that finds its packet not in the head while the middle holds data stalls, counted once (R217). -/
def State.stallPop (s : State) (q : Nat) : State :=
  let u := s.queue q
  if isSpill q && !u.pkts.isEmpty && !u.mid.isEmpty && !u.stall then
    (s.setQueue q { u with stall := true, refill := true }).ctr Obj.ctrHeadRefillStalls
  else s

/-- Fill the lost count and the sequence into a collector packet's envelope as it is popped (R228). -/
def envelope (u : Queue) (ws : List QWord) : List Bytes :=
  match ws with
  | [] => []
  | w :: rest => patch (patch w.bytes 2 (le 2 u.lost)) 4 (le 4 u.seq) :: rest.map (·.bytes)

/-- Pop the oldest packet for its consumer; `bad` and `fixed` of its words are found uncorrectable and corrected. An uncorrectable word poisons a
work or result packet, each poisoned word counted as it is delivered, and discards a collector or bulk packet; a corrected one is counted
(R222). Answers the packet, if any was delivered. -/
def State.pop (s : State) (q bad fixed : Nat) : Option (List Bytes × Bool) × State :=
  let u := s.queue q
  match u.front (isSpill q) with
  | none => (none, s.stallPop q)
  | some ws =>
    let s := s.when (isSpill q) (·.addCtr Obj.ctrQueueEccCorrected fixed)
    -- a word of the middle that failed came into the head marked (R222)
    let bad := if isSpill q then bad + ws.countP (·.poison) else bad
    if isSpill q && bad != 0 then
      let s := s.addCtr Obj.ctrQueueEccUncorrectable bad
      -- a word of the SRAM has no internal address that the spec states (R38, R413); one of the middle was recorded as it failed (R348)
      let s := s.when (decide (ws.countP (·.poison) < bad)) (fun s =>
        let x := s.fresh
        x.2.faultRec 1 0 1 0 (if isCollector q then (q - 192) / 4 else 0xFF) 0xFF 0 (x.1 % 2 ^ 64) 0)
      let s := s.dropFront q
      let u := s.queue q
      (none, s.when (isCollector q) (·.setQueue q { u with lost := sat 65535 (u.lost + 1) }))
    else if isCollector q then
      let s := s.dropFront q
      let v := s.queue q
      (some (envelope u ws, false), s.setQueue q { v with lost := 0, seq := (v.seq + 1) % 2 ^ 32 })
    else
      let n := min ws.length (bad + ws.countP (·.poison))
      (some (ws.map (·.bytes), n != 0), (s.dropFront q).addCtr Obj.ctrPoisonDelivered n)

/-- The head takes the oldest words of the middle (R217). -/
def Queue.refilled (u : Queue) (q : Nat) : Queue :=
  let n := min (16 - u.head.length) u.mid.length
  { u with head := u.head ++ u.mid.take n, mid := u.mid.drop n, midRd := (u.midRd + n) % midWords q, refill := false, stall := false }
/-- A refill lands in the head (R217). The stack's errors are counted, and a word that fails is marked, so that its packet is discarded at its pop
(R222, R348). -/
def State.refillLand (s : State) (q : Nat) (err : Bursts) : State :=
  let u := s.queue q
  if u.refill then
    let a := midStack q * 0x600000000 + midOff q + 64 * u.midRd
    let u := if err.failed then { u with mid := match u.mid with | w :: ws => { w with poison := true } :: ws | [] => [] } else u
    ((s.putSettled q (u.refilled q)).movedStack (midStack q) (64 * (u.mid.length - (u.refilled q).mid.length))).stackErrs (midStack q) 0xFF a err
  else s

/-- Cut bytes into words of 64. -/
def toWords : Nat → Bytes → List Bytes
  | 0, _ => []
  | fuel + 1, bs => if bs.isEmpty then [] else padTo 64 (bs.take 64) :: toWords fuel (bs.drop 64)

/-- A packet of `n` words that the queue has room for finds room in the tail: its producer waits while the words ahead move up (R216; that wait is
one step here: DEDUCED, notes/assumptions/125.md). -/
def State.tailRoom (s : State) (q n : Nat) : State :=
  let u := s.queue q
  if isSpill q && decide (16 < u.words.length + n) && !u.mid.isEmpty then
    (s.putSettled q (u.refilled q)).movedStack (midStack q) (64 * (u.mid.length - (u.refilled q).mid.length))
  else s
/-- Push a whole packet and commit it; its notice comes before a watermark event (R224, R232). -/
def State.pushPacket (s : State) (q : Nat) (ws : List Bytes) : State :=
  let e := (s.queue q).epoch
  (((s.tailRoom q ws.length).each ws (fun s w => s.pushWord q e w false)).commit q).markWork q

/-- Write a collector record of a kind (R227, R228) to queue 4 p + c. -/
def State.collect (s : State) (p c kind : Nat) (body : Bytes) : State :=
  let q := 192 + 4 * p + c
  let m := ceilDiv (16 + body.length) 64
  if s.qCap q < (s.queue q).depth + m then s.collDrop q
  else s.pushPacket q (toWords 17 ([BitVec.ofNat 8 kind, BitVec.ofNat 8 m] ++ zeros 6 ++ le 8 s.now ++ body))

/-- The middles of a stack that has become unreachable are lost, with the headers of a bulk queue's lost packets (R219). -/
def State.loseMiddles (s : State) (n : Nat) : State :=
  s.each ((List.range 72).map (· + 192)) (fun s q =>
    if midStack q = n then
      let u := s.queue q
      if u.mid.isEmpty then s
      else
        -- packets with a word in the middle: those after the packets wholly in the head, before those in the tail
        let f := u.pkts.foldl (fun (a : Nat × Nat × List Nat × List Nat) k =>
          (a.1 + k, if a.1 + k ≤ u.head.length ∨ u.head.length + u.mid.length ≤ a.1 then a.2.1 else a.2.1 + 1,
           if a.1 + k ≤ u.head.length then a.2.2.1 ++ [k] else a.2.2.1,
           if u.head.length + u.mid.length ≤ a.1 then a.2.2.2 ++ [k] else a.2.2.2)) (0, 0, [], [])
        let keepHead := f.2.2.1.foldl (· + ·) 0
        let keepTail := f.2.2.2.foldl (· + ·) 0
        let s := s.when (isBulk q) (fun s =>
          let v := s.strait (q - 256)
          s.setStrait (q - 256) { v with bulk := v.bulk.take f.2.2.1.length ++ v.bulk.drop (v.bulk.length - f.2.2.2.length) })
        let u := { u with head := u.head.take keepHead, mid := [], midRd := 0, refill := false, stall := false,
                          words := u.words.drop (u.words.length - u.unc - keepTail), pkts := f.2.2.1 ++ f.2.2.2,
                          lost := if isCollector q then sat 65535 (u.lost + f.2.1) else u.lost }
        (s.putSettled q u).addCtr Obj.ctrSpillLost f.2.1
    else s)

/-! ## Egress queues (R172, R213, R215, R224, R225) -/

/-- Words of a frame with its FCS (R215). -/
def EFrame.words (f : EFrame) : Nat := ceilDiv (f.bytes.length + 4) 64
/-- Depth in words (R213). -/
def EQueue.depth (e : EQueue) : Nat := (e.wr + 32768 - e.rd) % 32768
/-- Judge an egress queue's watermarks and drive XOFF_OUT (R224, R225; one KiB is 16 words). -/
def State.markEq (s : State) (q : Nat) : State :=
  let e := s.eq q
  let hi := 16 * s.obj (if q < 32 then Obj.eqHostHigh else Obj.eqLineHigh)
  let lo := 16 * s.obj (if q < 32 then Obj.eqHostLow else Obj.eqLineLow)
  let h := if hi ≤ e.depth then true else if e.depth ≤ lo then false else e.high
  let s := (s.setEq q { e with high := h }).watermark q e.high h
  if q < 32 then s
  else
    let g := (q - 32) / 8
    s.setEvBit Obj.queueXoffOut g ((List.range 8).any (fun i => (s.eq (32 + 8 * g + i)).high))
/-- The egress queue has room for a frame (R172, R215): free space at least port.max_frame and a free side-list
place. -/
def State.eqRoom (s : State) (q : Nat) : Bool :=
  let e := s.eq q
  decide (s.obj Obj.portMaxFrame ≤ (16384 - e.depth) * 64) && decide (e.frames.length < 8192)
/-- Append a frame. -/
def State.eqPut (s : State) (q : Nat) (f : EFrame) : State :=
  let e := s.eq q
  (s.setEq q { e with wr := (e.wr + f.words) % 32768, frames := e.frames ++ [f] }).markEq q
/-- Remove the oldest frame. -/
def State.eqPop (s : State) (q : Nat) : State :=
  let e := s.eq q
  match e.frames with
  | [] => s
  | f :: fs => (s.setEq q { e with rd := (e.rd + f.words) % 32768, frames := fs, last := s.now }).markEq q
/-- Empty an egress queue. -/
def State.eqClear (s : State) (q : Nat) : State := (s.setEq q { s.eq q with rd := (s.eq q).wr, frames := [] }).markEq q

/-- The value of queue.depths (R212). -/
def State.queueDepths (s : State) : Bytes :=
  ((List.range 64).map (fun q => le 4 ((s.eq q).depth + (if (s.eq q).high then 2 ^ 31 else 0)))).flatten ++
  ((List.range 200).map (fun i => le 4 ((s.queue (64 + i)).depth + (if (s.queue (64 + i)).high then 2 ^ 31 else 0)))).flatten

end Sys2Proof.Machine
end

