-- ==== Sys2Proof/Machine/Ports.lean ====
section
/-! DEFINITION. Ports: modes, link states, holding, damping and following (R146 to R149, R176 to R179). -/
namespace Sys2Proof.Machine

/-- Port number q = 32 s + k. -/
def State.port (s : State) (q : Nat) : Port := mget (fun _ => ({} : Port)) s.x.ports q
/-- Replace a port. -/
def State.setPort (s : State) (q : Nat) (p : Port) : State :=
  { s with x := { s.x with ports := mset (fun _ => ({} : Port)) s.x.ports q p } }
/-- The mode of a port's group (R146). -/
def State.groupMode (s : State) (q : Nat) : Nat :=
  if q < 32 then s.obj (Obj.portHostMode (q / 8)) else s.obj (Obj.portLineMode ((q - 32) / 8))
/-- Whether the lane number is a port number in a mode (R146). -/
def presentIn (mode q : Nat) : Bool := if mode = 1 then true else if mode = 2 then q % 4 == 0 else q % 8 == 0
/-- Whether port q exists in its group's current mode. -/
def State.present (s : State) (q : Nat) : Bool := presentIn (s.groupMode q) q
/-- The port that a lane belongs to in the current mode (R146). -/
def State.portOfLane (s : State) (l : Nat) : Nat :=
  let m := s.groupMode l
  if m = 1 then l else if m = 2 then l / 4 * 4 else l / 8 * 8
/-- Lanes of a port. -/
def State.portLanes (s : State) (q : Nat) : Nat := let m := s.groupMode q; if m = 1 then 1 else if m = 2 then 4 else 8
/-- The port's enable bit. -/
def State.enabled (s : State) (q : Nat) : Bool :=
  if q < 32 then s.objBit Obj.portHostEnable q else s.objBit Obj.portLineEnable (q - 32)
/-- The modes of the two sides differ in a port's group (R147). -/
def State.mismatched (s : State) (q : Nat) : Bool :=
  let g := q % 32 / 8
  s.obj (Obj.portHostMode g) != s.obj (Obj.portLineMode g)
/-- The paired port (R25). -/
def paired (q : Nat) : Nat := if q < 32 then q + 32 else q - 32

/-- Any host or line port is Up. -/
def State.anyUp (s : State) : Bool := s.obj Obj.portUpHost != 0 || s.obj Obj.portUpLine != 0
/-- Ready and Crossing follow the ports (R132). -/
def State.recheck (s : State) : State :=
  if s.running then s.setEv Obj.powerState (if s.anyUp then 3 else 2) else s

/-- Put a port into a state of R176. -/
def State.setPortState (s : State) (q v : Nat) : State :=
  let s := s.setEv (portObj q 1) v
  if q < 32 then s.setObjBit Obj.portUpHost q (v == 2) else s.setObjBit Obj.portUpLine (q - 32) (v == 2)

/-- Empty a port's egress queue, counted as flushed by whole frames (R177). -/
def State.flush (s : State) (q : Nat) : State :=
  let n := (s.eq q).frames.length
  if n = 0 then s else (s.eqClear q).addCtr (portObj q 8) n
/-- While port.follow is 1, a host port whose paired line port is in any state but Up has its transmitter off (R179). -/
def State.follows (s : State) (q : Nat) : Bool :=
  decide (q < 32) && s.obj Obj.portFollow == 1 && s.present q && s.present (32 + q) && s.portState (32 + q) != 2
/-- Begin training: on the host side within port.train_timeout (R148), unless port.follow keeps the transmitter off (R179). -/
def State.beginTrain (s : State) (q : Nat) : State :=
  let f := s.follows q
  s.setPort q { s.port q with link := false, followed := f,
                              train := if q < 32 && !f then some (s.clk.ticks + msT (s.obj Obj.portTrainTimeout)) else none }
/-- Count a link epoch (R177). -/
def State.bumpEpoch (s : State) (q : Nat) : State := s.setObj (portObj q 2) ((s.obj (portObj q 2) + 1) % 2 ^ 32)

/-- The frame in transmission at a link loss, the oldest of the queue, is cut off and counted as a link-down drop (R177). -/
def State.cutOff (s : State) (q : Nat) (cut : Bool) : State :=
  match (s.eq q).frames with
  | [] => s
  | f :: _ => if cut || f.bad then (s.eqPop q).ctr (portObj q 6) else s
/-- A port leaves Up by a lost link (R177, R178); `join` false for a down forced by port.follow; `cut` when a frame is in transmission. -/
def State.portDown (s : State) (q : Nat) (join cut : Bool) : State :=
  if s.portState q ≠ 2 then s.setPort q { s.port q with link := false }
  else
    let s := s.cutOff q cut
    let p := s.port q
    let t := s.clk.ticks
    let opened := decide (0 < p.series) && decide (t - p.lastDown ≤ msT 1)
    let series := if join then (if opened then p.series + 1 else 1) else p.series
    let first := if join && opened then p.firstDown else t
    let hold := first + usT (s.obj Obj.portHoldTime)
    let damp := join && series == 8
    let s := s.bumpEpoch q
    let s := s.setObj (portObj q 10) ((s.obj (portObj q 10) + 1) % 2 ^ 32)
    let s := s.when damp (fun s => s.setObj (portObj q 11) ((s.obj (portObj q 11) + 1) % 2 ^ 32))
    let late := decide (hold ≤ t)
    let s := s.setPort q { p with link := false, series := series, firstDown := if join then first else p.firstDown,
                                  lastDown := if join then t else p.lastDown,
                                  hold := if late then none else some hold,
                                  damp := if damp then some (t + msT 50) else none, followed := !join,
                                  train := if q < 32 && !damp && join then some (t + msT (s.obj Obj.portTrainTimeout)) else none }
    let s := s.when late (·.flush q)
    let s := s.setPortState q (if damp then 5 else if late then 4 else 3)
    (s.deregisterIf (fun ep => match ep with | .inband p _ _ => p == q | _ => false)).recheck

/-- A line port in any state but Up turns off the paired host port's transmitter while port.follow is 1 (R179). -/
def State.follow (s : State) (k : Nat) : State :=
  if s.follows k && decide (2 ≤ s.portState k) then
    let c := s.fresh
    let s := c.2.portDown k false (c.1 % 2 == 1)
    s.setPort k { s.port k with followed := true, train := none }
  else s

/-- A port loses its link (R149, R177, R179). -/
def State.linkLoss (s : State) (q : Nat) (cut : Bool) : State :=
  let s := s.portDown q true cut
  if 32 ≤ q then s.follow (q - 32) else s
/-- A port loses its link by what the device does; whether a frame is in transmission then is a free value (notes/assumptions/7.md). -/
def State.linkDrop (s : State) (q : Nat) : State := let c := s.fresh; c.2.linkLoss q (c.1 % 2 == 1)

/-- A port regains its link: from Held its queue resumes and the frames present are judged by their age at
dequeue, from Down it resumes empty (R177). -/
def State.linkUp (s : State) (q : Nat) : State :=
  let st := s.portState q
  if s.netOn && s.present q && !s.mismatched q && (st == 3 || st == 4) && !(s.port q).followed then
    let e := s.eq q
    let s := s.setEq q { e with frames := e.frames.map (fun f => { f with judge := true }) }
    let s := s.setPort q { s.port q with link := true, train := none, hold := none }
    let s := s.setPortState q 2
    let s := s.recheck
    if 32 ≤ q && s.obj Obj.portFollow == 1 && (s.port (q - 32)).followed then
      let s := s.setPort (q - 32) { s.port (q - 32) with followed := false }
      s.beginTrain (q - 32)
    else s
  else s

/-- The hold deadline is reached (R177): a Held port goes Down and its queue is flushed; a Damped port's queue
empties. -/
def State.holdExpire (s : State) (q : Nat) : State :=
  let s := s.setPort q { s.port q with hold := none }
  let s := s.flush q
  if s.portState q = 3 then s.setPortState q 4 else s

/-- Damping ends (R177, R178): training resumes and the series ends. -/
def State.dampEnd (s : State) (q : Nat) : State :=
  let p := s.port q
  let s := s.setPort q { p with damp := none, series := 0 }
  let s := s.beginTrain q
  s.setPortState q (if p.hold.isSome then 3 else 4)

/-- A port goes to Disabled (R177): its queue is flushed at once. An open series stays open: only 1 ms without a down or the end of damping closes
it (R178). -/
def State.disablePort (s : State) (q : Nat) : State :=
  if s.portState q = 1 || s.portState q = 0 then s
  else
    let s := s.when (s.portState q == 2) (·.bumpEpoch q)
    let s := s.flush q
    let p := s.port q
    let s := s.setPort q { series := p.series, firstDown := p.firstDown, lastDown := p.lastDown }
    let s := s.setPortState q 1
    let s := s.deregisterIf (fun ep => match ep with | .inband p _ _ => p == q | _ => false)
    let s := s.recheck
    if 32 ≤ q then s.follow (q - 32) else s
/-- A Disabled port whose enable bit is 1 goes to Down and trains in its group's mode (R147, R177). -/
def State.enablePort (s : State) (q : Nat) : State :=
  if s.portState q = 1 && s.enabled q && s.present q then (s.beginTrain q).setPortState q 4 else s

/-- Bring every port in line with the enables and modes as PD-NET's clocks start (R52, R90 step 7). -/
def State.syncPort (s : State) (q : Nat) : State :=
  if !s.present q then (s.disablePort q).setPortState q 0
  else
    let s := s.when (s.portState q == 0) (·.setPortState q 1)
    if s.enabled q then s.enablePort q else s.disablePort q
/-- The mismatch bit of a group (R147), which raises an event. -/
def State.markMismatch (s : State) (g : Nat) : State :=
  s.setEvBit Obj.portMismatch g (s.obj (Obj.portHostMode g) != s.obj (Obj.portLineMode g))
/-- All ports. -/
def State.syncPorts (s : State) : State :=
  let s := s.each (List.range 4) State.markMismatch
  s.each (List.range 64) State.syncPort

/-- A group's mode is written (R147, R177): its ports on that side go to Disabled, then the enabled ones to Down
in the new mode; while the modes differ the other side's ports are kept down. -/
def State.modeWrite (s : State) (line : Bool) (g v : Nat) : State :=
  let base := (if line then 32 else 0) + 8 * g
  let qs := (List.range 8).map (base + ·)
  let s := s.when s.netOn (fun s => s.each qs State.disablePort)
  let s := s.setObj (if line then Obj.portLineMode g else Obj.portHostMode g) v
  if s.netOn then
    let s := s.markMismatch g
    let s := s.each qs State.syncPort
    if s.mismatched base then s.each (qs.map paired) (fun s q => if s.portState q = 2 then s.linkDrop q else s) else s
  else s

/-- Training over time restarts and counts the attempt (R148). -/
def State.trainTimeout (s : State) (q : Nat) : State :=
  match (s.port q).train with
  | none => s
  | some d =>
    let s := s.elapseTo d
    let s := s.setPort q { s.port q with train := some (s.clk.ticks + msT (s.obj Obj.portTrainTimeout)) }
    s.setObj (portObj q 12) ((s.obj (portObj q 12) + 1) % 2 ^ 32)

/-! ## Admission and transmission (R162, R172 to R174) -/

/-- What becomes of a frame offered to a port. -/
inductive Admit
  | in_
  | noRoom
  | linkDown
  | absent
  deriving DecidableEq, Repr

/-- Where a frame offered to port q goes (R172, R176): a Damped port behaves as Held or Down by its hold deadline. -/
def State.admits (s : State) (q : Nat) : Admit :=
  if !s.present q then .absent
  else
    let st := s.portState q
    if st = 2 || st = 3 || (st = 5 && (s.port q).hold.isSome) then (if s.eqRoom q then .in_ else .noRoom) else .linkDown

/-- XOFF_IN holds a host port of its group (R174). -/
def State.xoffed (s : State) (q : Nat) : Bool := decide (q < 32) && s.objBit Obj.elecXoffIn (q / 8)
/-- How a frame that is offered stands under R173: good, or bad and found so before or after its transmission begins. -/
inductive Check
  | good
  | badEarly
  | badLate
  deriving DecidableEq, Repr
/-- A frame is admitted to its egress queue. One found bad before its transmission begins is discarded whole and counted (R173); one found bad
later stays, to be stomped: its transmission has begun, so it is not shorter than 256 bytes, its port is Up and nothing stands before it. -/
def State.enqueue (s : State) (q : Nat) (bytes : Bytes) (c : Check) : State :=
  let begun := c == .badLate && decide (256 ≤ bytes.length + 4) && s.portState q == 2 && (s.eq q).frames.isEmpty && !s.xoffed q
  if c != .good && !begun then s.ctr Obj.ctrIngressBad
  else s.eqPut q { bytes := bytes, bad := c != .good, since := s.clk.ticks, judge := false }
/-- Offer a frame to its egress queue, counting a refusal at the port (R172, R176). -/
def State.egress (s : State) (q : Nat) (bytes : Bytes) (c : Check) : State :=
  match s.admits q with
  | .in_ => s.enqueue q bytes c
  | .noRoom => s.ctr (portObj q (if s.portState q = 2 then 9 else 6))
  | .linkDown => s.ctr (portObj q 6)
  | .absent => s
/-- Offer a copy; `full` is the counter of a copy that finds no room (R164, R171). -/
def State.egressCopy (s : State) (full q : Nat) (bytes : Bytes) (c : Check) : State :=
  match s.admits q with
  | .in_ => s.enqueue q bytes c
  | .noRoom => s.ctr full
  | .linkDown => s.ctr (portObj q 6)
  | .absent => s

/-- The frame at the head of an egress queue leaves (R173, R177): discarded as stale, discarded where `bad` words of its storage are uncorrectable
before its transmission begins, stomped when found bad after it and not shorter than 256 bytes, else sent. A frame whose transmission has begun
completes under XOFF_IN (R174). A frame lost to an uncorrectable word counts in ctr.fault_frames_lost and in no other drop counter (R420; R173
says ctr.ingress_bad of every bad frame: DEDUCED, notes/assumptions/126.md). -/
def State.transmit (s : State) (q bad fixed : Nat) (late : Bool) : State :=
  match (s.eq q).frames with
  | [] => s
  | f :: _ =>
    if !s.netOn || s.portState q ≠ 2 || (s.xoffed q && !f.bad) then s
    else
      let s := s.eqPop q
      if f.judge && decide (usT (s.obj Obj.portStaleAge) < s.clk.ticks - f.since) then s.ctr (portObj q 7)
      else
        let len := f.bytes.length + 4
        let s := s.addCtr Obj.ctrQueueEccCorrected fixed
        let s := s.when (bad != 0) (fun s => ((s.addCtr Obj.ctrQueueEccUncorrectable bad).ctr Obj.ctrFaultFramesLost).faultRec 1 0 1 0 0xFF 0xFF 0
          (0x6300000000 + q * 0x100000) 0)
        let sent := fun (s : State) (b : Bool) =>
          ((s.emit (.frame q f.bytes b)).addLight (portLight q 2) 1).addLight (portLight q 3) len
        if f.bad || (bad != 0 && late && decide (256 ≤ len)) then sent (s.ctr (portObj q 5)) true
        else if bad != 0 then s
        else sent s false

end Sys2Proof.Machine
end

