-- ==== Sys2Proof/Machine/Flow.lean ====
section
/-! DEFINITION. The flow table, its learning engine and the prefix trie (R180 to R206). A slot is numbered
t × 2²¹ + n × 4 + s, so that its address is 0x60_0000_0000 + 64 × its number (R185). -/
namespace Sys2Proof.Machine

/-- The key of an empty slot. -/
def FlowKey.zero : FlowKey := ⟨0, 0, 0, false, 0, 0, 0, 0, 0, 0⟩
/-- An empty slot: every bit 0. -/
def FEntry.empty : FEntry := ⟨false, FlowKey.zero, false, 0, false, 0, false, 0, 0, 0, 0, 0, 0⟩

/-- Word 4 of an entry (R180). -/
def keyWord4 (k : FlowKey) : Nat := k.hip % 65536 * 2 ^ 48 + k.lop % 65536 * 2 ^ 32 + k.vni % 2 ^ 24 * 256 + k.proto % 256
/-- The eight words of an entry (R180). -/
def entryWords (e : FEntry) : List Nat :=
  let k := e.key
  [k.lo % 2 ^ 64, k.lo / 2 ^ 64 % 2 ^ 64, k.hi % 2 ^ 64, k.hi / 2 ^ 64 % 2 ^ 64, keyWord4 k,
   b2n e.valid * 2 ^ 63 + b2n e.lock * 2 ^ 62 + e.owner % 64 * 2 ^ 56 + b2n e.pinned * 2 ^ 55 + b2n k.frag * 2 ^ 54 +
     k.tunnel % 4 * 2 ^ 52 + k.family % 4 * 2 ^ 50 + k.part % 16 * 2 ^ 46 + e.tier % 4 * 2 ^ 44 + b2n e.t2req * 2 ^ 43 +
     e.score % 256 * 2 ^ 32 + e.verdict % 2 ^ 32,
   e.epoch % 2 ^ 32 * 2 ^ 32 + e.stamp % 2 ^ 32, e.total % 2 ^ 32 * 2 ^ 32 + e.under % 2 ^ 24 * 256]
/-- An entry as the 64 bytes it is read as. -/
def entryBytes (e : FEntry) : Bytes := ((entryWords e).map (le 8)).flatten
/-- The entry that eight words spell; reserved bits are dropped (R13). -/
def entryOfWords (ws : List Nat) : FEntry :=
  let w := fun i => ws.getD i 0
  { valid := bit (w 5) 63, lock := bit (w 5) 62, owner := bits (w 5) 61 56, pinned := bit (w 5) 55, tier := bits (w 5) 45 44,
    t2req := bit (w 5) 43, score := bits (w 5) 39 32, verdict := bits (w 5) 31 0, epoch := bits (w 6) 63 32, stamp := bits (w 6) 31 0,
    total := bits (w 7) 63 32, under := bits (w 7) 31 8,
    key := { part := bits (w 5) 49 46, family := bits (w 5) 51 50, tunnel := bits (w 5) 53 52, frag := bit (w 5) 54,
             proto := bits (w 4) 7 0, vni := bits (w 4) 31 8, lo := w 0 % 2 ^ 64 + w 1 % 2 ^ 64 * 2 ^ 64,
             hi := w 2 % 2 ^ 64 + w 3 % 2 ^ 64 * 2 ^ 64, lop := bits (w 4) 47 32, hip := bits (w 4) 63 48 } }

/-- The 44 bytes a key hashes from (R183). -/
def hashInput (k : FlowKey) : Bytes :=
  le 8 (k.lo % 2 ^ 64) ++ le 8 (k.lo / 2 ^ 64) ++ le 8 (k.hi % 2 ^ 64) ++ le 8 (k.hi / 2 ^ 64) ++ le 8 (keyWord4 k) ++
  le 4 (k.part % 16 * 32 + k.family % 4 * 8 + k.tunnel % 4 * 2 + b2n k.frag)
/-- Bucket a in table A (t = 0) or bucket b in table B (t = 1) of a key (R183). -/
def bucket (salt t : Nat) (k : FlowKey) : Nat := (if t = 0 then hashA salt (hashInput k) else hashB salt (hashInput k)) % 2 ^ 19
/-- Slot s of bucket n in table t. -/
def slotNo (t n s : Nat) : Nat := t * 2 ^ 21 + n * 4 + s
/-- The address of a slot (R185). -/
def slotAddr (i : Nat) : Nat := 0x6000000000 + i * 0x40
/-- The four slots of a key's bucket in table t. -/
def State.slotsOf (s : State) (t : Nat) (k : FlowKey) : List Nat := (List.range 4).map (slotNo t (bucket s.dev.salt t k))
/-- The eight candidate slots of a key, table A first. -/
def State.candidates (s : State) (k : FlowKey) : List Nat := s.slotsOf 0 k ++ s.slotsOf 1 k

/-- The entry in slot i. -/
def State.entry (s : State) (i : Nat) : FEntry := mget (fun _ => FEntry.empty) s.flow.entries i
/-- Write the entry in slot i. -/
def State.setEntry (s : State) (i : Nat) (e : FEntry) : State :=
  { s with flow := { s.flow with entries := mset (fun _ => FEntry.empty) s.flow.entries i e } }
/-- The flow record of slot i, if its record-valid bit is set (R236). -/
def State.recOf (s : State) (i : Nat) : Option Rec := mget (fun _ => none) s.t1.recs i
/-- Slot i's record becomes the latest used of its set in the flow-record cache: 4,096 sets of 16 ways, the least recently used of a full set is
written back (R238; the set and that a write allocates: notes/assumptions/128.md). -/
def cacheUse (c : List Nat) (i : Nat) : List Nat :=
  let c := c.filter (· != i)
  let set := fun j => Config.recordSet j % 4096
  if c.length < 16 then i :: c
  else if c.countP (fun j => set j == set i) < 16 then i :: c
  else
    let old := c.reverse.find? (fun j => set j == set i)
    i :: c.filter (fun j => some j != old)
/-- Write the flow record of slot i through the flow-record cache, or invalidate it (R236, R238). -/
def State.setRec (s : State) (i : Nat) (r : Option Rec) : State :=
  let c := if r.isSome then cacheUse s.t1.cache i else s.t1.cache.filter (· != i)
  { s with t1 := { s.t1 with recs := mset (fun _ => none) s.t1.recs i r, cache := c } }
/-- The stack that holds a slot's record (R233). -/
def recStack (slot : Nat) : Nat := slot / 4 % 2 ^ 19 % 4
/-- A record goes to a slot: in a stack that cannot be reached it is dropped and counted, and the slot's record-valid bit stays clear
(R236, R239). -/
def State.placeRec (s : State) (i : Nat) (r : Option Rec) : State :=
  if r.isSome && !s.stackUp (recStack i) then (s.setRec i none).ctr Obj.ctrRecordUnreachable else s.setRec i r
/-- Clear slot i and its record-valid bit (R196, R237); a pending update to the record is discarded. -/
def State.clearSlot (s : State) (i : Nat) : State :=
  let s := (s.setEntry i FEntry.empty).setRec i none
  { s with t1 := { s.t1 with fetches := s.t1.fetches.filter (fun (f : Nat × List FetchUpd) => f.1 != i) } }

/-- Tag t is live: held by a ring and not being swept (R199, R200). -/
def State.tag (s : State) (t : Nat) : LTag := mget (fun _ => ({} : LTag)) s.flow.tags t
/-- Replace tag t. -/
def State.setTag (s : State) (t : Nat) (v : LTag) : State :=
  { s with flow := { s.flow with tags := mset (fun _ => ({} : LTag)) s.flow.tags t v } }
/-- A tag is live. -/
def LTag.live (t : LTag) : Bool := t.ring.isSome && !t.sweep
/-- An entry's lock is in effect (R199). -/
def State.locked (s : State) (e : FEntry) : Bool := e.lock && (s.tag e.owner).live

/-- Where a key stands, if present in one of its two buckets. -/
def State.findKey (s : State) (k : FlowKey) : Option Nat :=
  (s.candidates k).find? (fun i => (s.entry i).valid && decide ((s.entry i).key = k))

/-- An uncorrectable word in slot i (R181): the slot is invalidated, counted and reported. -/
def State.eccSlot (s : State) (i : Nat) : State :=
  ((s.clearSlot i).ctr Obj.ctrFlowEccUncorrectable).faultRec 1 0 1 0 0xFF 0xFF 0 (slotAddr i) 0

/-- Valid entries of the table (flow.count). -/
def State.flowCount (s : State) : Nat := s.flow.entries.countP (fun e => e.2.valid)
/-- Software-pinned entries (flow.pinned_count). -/
def State.pinnedCount (s : State) : Nat := s.flow.entries.countP (fun e => e.2.valid && e.2.pinned)
/-- Valid entries of partition p (part.flow_count). -/
def State.partCount (s : State) (p : Nat) : Nat := s.flow.entries.countP (fun e => e.2.valid && e.2.key.part == p)

/-! ## The learning engine (R190 to R193) -/

/-- An occupant may be moved (R190). -/
def State.movable (s : State) (i : Nat) : Bool := let e := s.entry i; !s.locked e && !e.pinned
/-- The table a slot lies in. -/
def slotTable (i : Nat) : Nat := i / 2 ^ 21
/-- The slots of an occupant's alternate bucket. -/
def State.altSlots (s : State) (i : Nat) : List Nat := s.slotsOf (1 - slotTable i) (s.entry i).key

/-- The breadth-first search of R190: the frontier holds chains of occupied slots, the last first; `seen` the
buckets examined (by their first slot), `left` how many more may be; the answer is a chain whose head is free. -/
def State.bfs (s : State) (limit : Nat) : Nat → Nat → List Nat → List (List Nat) → Option (List Nat)
  | 0, _, _, _ => none
  | _, _, _, [] => none
  | fuel + 1, left, seen, [] :: rest => State.bfs s limit fuel left seen rest
  | fuel + 1, left, seen, (i :: chain) :: rest =>
    if !s.movable i || decide (limit < chain.length + 1) then State.bfs s limit fuel left seen rest
    else
      let alt := s.altSlots i
      let b := alt.headD 0
      if seen.contains b then State.bfs s limit fuel left seen rest
      else match left with
        | 0 => none
        | l + 1 =>
          match alt.find? (fun j => !(s.entry j).valid) with
          | some j => some (j :: i :: chain)
          | none => State.bfs s limit fuel l (b :: seen) (rest ++ alt.map (fun j => j :: i :: chain))

/-- Move the entry of slot `src`, its record and an update in flight, to the free slot `dst` (R191, R237). -/
def State.moveSlot (s : State) (dst src : Nat) : State :=
  let e := s.entry src
  let r := s.recOf src
  let s := (s.setEntry dst e).setEntry src FEntry.empty
  let s := (s.setRec src none).placeRec dst r
  let s := { s with t1 := { s.t1 with fetches := s.t1.fetches.map (fun (f : Nat × List FetchUpd) => if f.1 = src then (dst, f.2) else f) } }
  s.ctr Obj.ctrFlowMoves
/-- Make the moves of a chain whose head is free; answers the slot left free. -/
def State.moveChain : State → List Nat → State × Nat
  | s, [] => (s, 0)
  | s, [i] => (s, i)
  | s, j :: i :: rest => State.moveChain (s.moveSlot j i) (i :: rest)

/-- How the learning engine's insertion of a key ends (R190). -/
inductive Ins
  | quota
  | present (slot : Nat)
  | kicks
  | free (slot : Nat)
  deriving DecidableEq, Repr

/-- Find a slot for a key, making the moves it takes (R190). -/
def State.seek (s : State) (k : FlowKey) : State × Ins :=
  if s.obj (Obj.partFlowQuota k.part) ≤ s.partCount k.part then (s, .quota)
  else match s.findKey k with
    | some i => (s, .present i)
    | none =>
      match (s.candidates k).find? (fun i => !(s.entry i).valid) with
      | some i => (s, .free i)
      | none =>
        let lim := s.obj Obj.flowKickLimit
        let c := s.candidates k
        match s.bfs lim (16 * lim + 16) (4 * lim) [c.headD 0, (c.drop 4).headD 0] (c.map (fun i => [i])) with
        | none => (s, .kicks)
        | some chain => let r := s.moveChain chain; (r.1, .free r.2)

/-- The entry that learning places (R192). -/
def learned (p : Pend) : FEntry :=
  { FEntry.empty with valid := true, key := p.key, stamp := p.stamp, total := sat 0xFFFFFFFF p.merged, under := sat 0xFFFFFF p.crossed }

/-- The learning engine handles its first pending key (R190 to R193). The second part is the key when its
insertion failed. -/
def State.learn (s : State) : State × Option FlowKey :=
  match s.flow.pend with
  | [] => (s, none)
  | p :: rest =>
    let s := { s with flow := { s.flow with pend := rest } }
    match s.seek p.key with
    | (s, .quota) => (s.ctr Obj.ctrFlowFailQuota, some p.key)
    | (s, .kicks) => (s.ctr Obj.ctrFlowFailKicks, some p.key)
    | (s, .present _) => (s, none)
    | (s, .free i) =>
      let fl := s.flow.flooded.filter (fun k => k != p.key)
      let s := { s with flow := { s.flow with flooded := fl } }
      (((s.setEntry i (learned p)).placeRec i (some p.record)).ctr Obj.ctrFlowInserts, none)

/-- Remember that a key's insertion failed: its later misses flood (R171, R193). -/
def State.markFlooded (s : State) (k : FlowKey) : State :=
  if s.flow.flooded.contains k then s else { s with flow := { s.flow with flooded := s.flow.flooded ++ [k] } }

/-- Apply the first queued statistics update (R187): it follows its entry by key, or is discarded. -/
def State.applyStat (s : State) : State :=
  match s.flow.statq with
  | [] => s
  | u :: rest =>
    let s := { s with flow := { s.flow with statq := rest } }
    match s.findKey u.key with
    | none => s
    | some i =>
      let e := s.entry i
      s.setEntry i { e with total := sat 0xFFFFFFFF (e.total + 1), under := if u.under then sat 0xFFFFFF (e.under + 1) else e.under, stamp := u.stamp }

/-! ## The prefix trie (R202 to R206) -/

/-- Trie entry `i` of a target of R206. -/
def State.trieAt (s : State) (target i : Nat) : Nat := mget (fun _ => 0) s.flow.trie (target * 2 ^ 32 + i)
/-- Write a trie entry; result 0 is fixed (R202). -/
def State.setTrie (s : State) (target i v : Nat) : State :=
  if target = 9 ∧ i = 0 then s else { s with flow := { s.flow with trie := mset (fun _ => 0) s.flow.trie (target * 2 ^ 32 + i) v } }
/-- Entries of a target (R203, R206). -/
def trieSize (target : Nat) : Nat :=
  if target ≤ 1 then 65536 else if target ≤ 3 then 32768 * 256 else if target ≤ 8 then 4096 * 256 else if target = 9 then 1310721 else 0
/-- Blocks of stage `st` (R203). -/
def stageBlocks (st : Nat) : Nat := if st ≤ 2 then 32768 else 4096

/-- Continue an IPv4 lookup from a trie entry at stage `st` (R203, R204); none is a bad entry. -/
def State.trie4 (s : State) (a : Nat) : Nat → Nat → Nat → Option Nat
  | 0, _, _ => none
  | fuel + 1, st, e =>
    let v := e % 2 ^ 30
    if e / 2 ^ 30 = 0 then some v
    else if e / 2 ^ 30 = 2 ∧ st < 2 ∧ v < stageBlocks (st + 1) then
      State.trie4 s a fuel (st + 1) (s.trieAt (st + 2) (v * 256 + (if st = 0 then a / 256 % 256 else a % 256)))
    else none
/-- Continue an IPv6 lookup (R203, R204); `lower` in a lower block. -/
def State.trie6 (s : State) (a : Nat) : Nat → Nat → Bool → Nat → Option Nat
  | 0, _, _, _ => none
  | fuel + 1, st, lower, e =>
    let v := e % 2 ^ 30
    let stride := fun t : Nat => a / 2 ^ (112 - 16 * t) % 65536
    if e / 2 ^ 30 = 0 then some v
    else if e / 2 ^ 30 = 1 ∧ 0 < st ∧ lower = false ∧ v < stageBlocks st then
      State.trie6 s a fuel st true (s.trieAt (st + 1) (v * 256 + stride st % 256))
    else if e / 2 ^ 30 = 2 ∧ st < 7 ∧ v < stageBlocks (st + 1) then
      State.trie6 s a fuel (st + 1) false (s.trieAt (st + 2) (v * 256 + stride (st + 1) / 256))
    else none
/-- Resolve an address to class and tag (R202 to R205): index 0 while the trie is off, for no match and for a bad
entry, which is counted. A result index beyond the table is a bad entry (DEDUCED, notes/assumptions/17.md). -/
def State.trieLookup (s : State) (family a : Nat) : State × Nat × Nat :=
  if s.obj Obj.trieEnable = 0 then (s, 0, 0)
  else
    let r := if family = 1 then s.trie4 (a % 2 ^ 32) 4 0 (s.trieAt 0 (a / 65536 % 65536))
      else s.trie6 a 20 0 false (s.trieAt 1 (a / 2 ^ 112 % 65536))
    match r with
    | some i => if i < 1310721 then let w := if i = 0 then 0 else s.trieAt 9 i; (s, w / 65536 % 65536, w % 65536)
        else (s.ctr Obj.ctrTrieBadEntry, 0, 0)
    | none => (s.ctr Obj.ctrTrieBadEntry, 0, 0)

end Sys2Proof.Machine
end

