-- ==== Sys2Proof/Machine/Features.lean ====
section
/-! DEFINITION. Flow records, the feature catalogue, user expressions and the vectors formed from them (R233 to
R243, R351). Features are 32-bit patterns whose type their number gives (R240). -/
namespace Sys2Proof.Machine

/-- Prefix classes and tags of a key's two addresses: low class, low tag, high class, high tag (R205). -/
abbrev Prefixes := Nat × Nat × Nat × Nat

/-- The square of a length or gap as FP32 (R234; rounded before it is added: DEDUCED, notes/assumptions/18.md). -/
def fSquare (n : Nat) : Nat := fOfInt ((n * n : Nat) : Int)
/-- Add the TCP flags of a frame to eight saturating counts: FIN, SYN, RST, PSH, ACK, URG, ECE, CWR (R234). -/
def addFlags (cs : List Nat) (flags : Nat) : List Nat := cs.zipIdx.map (fun e => if bit flags e.2 then sat 255 (e.1 + 1) else e.1)
/-- Eight zero counts. -/
def zero8 : List Nat := [0, 0, 0, 0, 0, 0, 0, 0]

/-- A record initialised from a first frame (R234, R236). -/
def Rec.init (m : Meta) (c : Prefixes) : Rec :=
  { first := m.time, latest := m.time, fwd := 1, rev := 0, bfwd := m.len, brev := 0, minLen := m.len, maxLen := m.len,
    lastLen := m.len, zeroPay := b2n (m.payload == 0), changes := 0, longRun := 1, run := 1,
    bits46 := b2n m.dir * 3 + b2n m.line * 4 + b2n (m.tcp && bit m.flags 1 && !bit m.flags 4) * 8 + b2n m.outerKey * 64 +
      b2n m.tagged * 128,
    zeroWin := b2n (m.tcp && m.window == 0 && !bit m.flags 2), sqLen := fSquare m.len, sqGap := 0, minGap := 0, maxGap := 0,
    lastGap := 0, gap2 := 0, gapRev := 0, hist := [0, 0, 0, 0],
    fflags := if m.tcp then addFlags zero8 m.flags else zero8, rflags := zero8,
    winMin := if m.tcp then m.window else 0, winMax := if m.tcp then m.window else 0, winLast := if m.tcp then m.window else 0,
    loClass := c.1, loTag := c.2.1, hiClass := c.2.2.1, hiTag := c.2.2.2, snap := m.snap }

/-- The gap histogram bucket of a gap in ns (R234). -/
def gapBucket (g : Nat) : Nat := if g < 10000 then 0 else if g < 1000000 then 1 else if g < 100000000 then 2 else 3

/-- The handshake bits [5:3] after a TCP frame (R234). -/
def shake (b : Nat) (fwd : Bool) (flags : Nat) : Nat :=
  let syn := bit flags 1; let ack := bit flags 4
  let b3 := if fwd && syn && !ack then setBit b 3 true else b
  let b4 := if !fwd && syn && ack && bit b 3 then setBit b3 4 true else b3
  if fwd && ack && !syn && bit b 4 then setBit b4 5 true else b4

/-- A TCP header has been seen: each leaves a window that is not 0, a zero window counted, or a count of RST. -/
def Rec.tcpSeen (r : Rec) : Bool := r.winMax != 0 || r.zeroWin != 0 || r.fflags.getD 2 0 != 0 || r.rflags.getD 2 0 != 0
/-- A record updated for a later frame (R234). -/
def Rec.update (r : Rec) (m : Meta) : Rec :=
  let n := r.fwd + r.rev
  let fwd := m.dir == bit r.bits46 0
  let gap := sat 0xFFFFFFFF (m.time - r.latest)
  let change := m.dir != bit r.bits46 1
  let run := if change then 1 else sat 0xFFFF (r.run + 1)
  let b := setBit r.bits46 1 m.dir
  let u32 := sat 0xFFFFFFFF
  { r with
    latest := m.time, fwd := if fwd then u32 (r.fwd + 1) else r.fwd, rev := if fwd then r.rev else u32 (r.rev + 1),
    bfwd := if fwd then u32 (r.bfwd + m.len) else r.bfwd, brev := if fwd then r.brev else u32 (r.brev + m.len),
    minLen := min r.minLen m.len, maxLen := max r.maxLen m.len, lastLen := m.len,
    zeroPay := if m.payload = 0 then sat 0xFFFF (r.zeroPay + 1) else r.zeroPay,
    changes := if change then sat 0xFFFF (r.changes + 1) else r.changes, run := run, longRun := max r.longRun run,
    bits46 := if m.tcp then shake b fwd m.flags else b,
    zeroWin := if m.tcp && m.window == 0 && !bit m.flags 2 then sat 255 (r.zeroWin + 1) else r.zeroWin,
    sqLen := fAdd r.sqLen (fSquare m.len), sqGap := fAdd r.sqGap (fSquare gap),
    minGap := if n = 1 then gap else min r.minGap gap, maxGap := max r.maxGap gap, lastGap := gap,
    gap2 := if n = 1 then gap else r.gap2, gapRev := if !fwd && r.rev == 0 then sat 0xFFFFFFFF (m.time - r.first) else r.gapRev,
    hist := setAt r.hist (gapBucket gap) (sat 255 (r.hist.getD (gapBucket gap) 0 + 1)),
    fflags := if m.tcp && fwd then addFlags r.fflags m.flags else r.fflags,
    rflags := if m.tcp && !fwd then addFlags r.rflags m.flags else r.rflags,
    winMin := if m.tcp then (if r.tcpSeen then min r.winMin m.window else m.window) else r.winMin, winMax := if m.tcp then max r.winMax m.window else r.winMax,
    winLast := if m.tcp then m.window else r.winLast }

/-- The address of a slot's record (R233). -/
def recAddr (slot : Nat) : Nat :=
  recStack slot * 0x600000000 + reserveOff + (slot / 2 ^ 21 * 524288 + slot / 4 % 2 ^ 19) / 4 * 0x200 + slot % 4 * 0x80
/-- The slot whose record holds an offset of stack n, and the byte's place in the record. -/
def recAt (n o : Nat) : Nat × Nat :=
  let k := (o - reserveOff) / 0x200 * 4 + n
  (k / 524288 * 2 ^ 21 + k % 524288 * 4 + (o - reserveOff) % 0x200 / 0x80, (o - reserveOff) % 0x80)
/-- The 128 bytes of a record (R234). -/
def Rec.bytes (r : Rec) : Bytes :=
  encFields false ([(8, r.first), (8, r.latest), (4, r.fwd), (4, r.rev), (4, r.bfwd), (4, r.brev), (2, r.minLen), (2, r.maxLen), (2, r.lastLen),
    (2, r.zeroPay), (2, r.changes), (2, r.longRun), (2, r.run), (1, r.bits46), (1, r.zeroWin), (4, r.sqLen), (4, r.sqGap), (4, r.minGap),
    (4, r.maxGap), (4, r.lastGap), (4, r.gap2), (4, r.gapRev)] ++ (r.hist ++ r.fflags ++ r.rflags).map (fun x => (1, x)) ++
    [(2, r.winMin), (2, r.winMax), (2, r.winLast), (2, r.loClass), (2, r.loTag), (2, r.hiClass), (2, r.hiTag), (18, r.snap)])

/-! ## The catalogue (R241) -/

/-- The type of a feature (R240, R241): 0 U, 1 I, 2 F. -/
def featType (n : Nat) : Nat :=
  if 192 ≤ n then 2 else if [35, 36, 48, 49, 50, 60, 61, 97, 98, 169].contains n then 2 else if n = 99 ∨ n = 100 then 1 else 0
/-- A quotient of naturals as FP32; 0 when the divisor is 0 (R240). -/
def fQuot (a b : Nat) : Nat := if b = 0 then 0 else fOfRat a b false
/-- The standard deviation √max(0, sum ÷ n − mean²), each operation rounded (notes/assumptions/18.md). -/
def fStd (sum n mean : Nat) : Nat := if n = 0 then 0 else fSqrt (fMax 0 (fSub (fDiv sum (fOfInt n)) (fMul mean mean)))
/-- A difference saturated at the I32 limits, as its pattern. -/
def iDiff (a b : Nat) : Nat := ofSigned 32 (max (-2147483648) (min 2147483647 ((a : Int) - b)))
/-- The 32 bits that represent an address (features 21 and 22). -/
def addrFeature (family a : Nat) : Nat := if family = 1 then a % 2 ^ 32 else a / 2 ^ 96 % 2 ^ 32

/-- Features 0 to 47. -/
def featsA (k : FlowKey) (r : Rec) : List Nat :=
  let sn := r.snap
  let src := bit r.bits46 0
  let tcp := k.proto == 6
  let icmp := k.proto == 1 || k.proto == 58
  let n := r.fwd + r.rev
  let mean := fQuot (r.bfwd + r.brev) n
  let u32 := sat 0xFFFFFFFF
  [k.family, k.proto, if src then k.hip else k.lop, if src then k.lop else k.hip, k.part, k.tunnel, k.vni, b2n k.frag,
   bits sn 143 139, b2n (bit r.bits46 2), bits sn 138 127, bits sn 126 119, bits sn 118 113, bits sn 112 111, bits sn 110 110,
   bits sn 109 104,
   if tcp then bits sn 75 68 else 0, if tcp then bits sn 67 52 else 0, if tcp then 4 * bits sn 51 48 else 0,
   if icmp then bits sn 75 68 else 0, if icmp then bits sn 67 60 else 0,
   addrFeature k.family (if src then k.hi else k.lo), addrFeature k.family (if src then k.lo else k.hi), b2n (bit r.bits46 7),
   u32 n, r.fwd, r.rev, u32 (r.bfwd + r.brev), r.bfwd, r.brev, bits sn 103 90, bits sn 89 76,
   r.minLen, r.maxLen, r.lastLen, mean, fStd r.sqLen n mean, r.zeroPay] ++ List.replicate 10 0
/-- Features 48 to 95. -/
def featsB (r : Rec) : List Nat :=
  let n := r.fwd + r.rev
  let d := r.latest - r.first
  let mg := if n < 2 then 0 else fQuot d (n - 1)
  [fOfInt d, mg, if n < 2 then 0 else fStd r.sqGap (n - 1) mg, r.minGap, r.maxGap, r.lastGap, r.gap2, r.gapRev] ++ r.hist ++
  [if n < 2 then 0 else fQuot ((n - 1) * 10 ^ 9) d, fQuot ((r.bfwd + r.brev) * 10 ^ 9) d] ++ List.replicate 10 0 ++
  r.fflags ++ r.rflags ++ [r.winMin, r.winMax, r.winLast, r.zeroWin,
    if bit r.bits46 5 then 3 else if bit r.bits46 4 then 2 else if bit r.bits46 3 then 1 else 0, 0, 0, 0]
/-- Features 96 to 143. -/
def featsC (r : Rec) : List Nat :=
  let src := bit r.bits46 0
  let lo := [r.loClass, r.loTag]
  let hi := [r.hiClass, r.hiTag]
  [b2n src, fQuot r.fwd (r.fwd + r.rev), fQuot r.bfwd (r.bfwd + r.brev), iDiff r.fwd r.rev, iDiff r.bfwd r.brev,
   r.changes, r.longRun, r.run, b2n (r.rev != 0)] ++ List.replicate 15 0 ++
  lo ++ hi ++ (if src then hi ++ lo else lo ++ hi) ++ [b2n (r.loClass == r.hiClass)] ++ List.replicate 15 0
/-- Features 144 to 191; `e` is the entry once placed, with the verdict applied. -/
def featsD (k : FlowKey) (r : Rec) (now : Nat) (e : Option FEntry) : List Nat :=
  let sn := r.snap
  [b2n (k.tunnel != 0 || bit r.bits46 6), b2n (bit r.bits46 6), bits sn 47 46, bits sn 45 43, bits sn 42 41, bits sn 40 34,
   bits sn 33 26, bits sn 25 20, bits sn 19 4] ++ List.replicate 15 0 ++
  [r.first / 10 ^ 9 % 86400, fOfInt ((now - r.first : Nat) : Int)] ++
  (match e with | some e => [e.tier, bits e.verdict 27 20, e.score, e.under] | none => [0, 0, 0, 0]) ++ List.replicate 18 0
/-- Features 0 to 191 (R241). -/
def catalogue (k : FlowKey) (r : Rec) (now : Nat) (e : Option FEntry) : List Nat := featsA k r ++ featsB r ++ featsC r ++ featsD k r now e

/-! ## User features (R242, R243) -/

/-- A feature converted to FP32 (R243). -/
def featF (n v : Nat) : Nat := match featType n with | 0 => fOfInt v | 1 => fOfInt (toSigned 32 v) | _ => v
/-- One expression on the features below it: its result and whether it saturated. -/
def evalExpr (e : Bytes) (fs : List Nat) : Nat × Bool :=
  let fl := byteAt e 1
  let op (c : Bool) (o k : Nat) := if c then leAt e k 4 else featF (leAt e o 2) (fs.getD (leAt e o 2) 0)
  let a := op (bit fl 0) 2 8
  let b := op (bit fl 1) 4 12
  let r := match byteAt e 0 with
    | 1 => fAdd a b
    | 2 => fSub a b
    | 3 => fMul a b
    | 4 => fMin a b
    | 5 => fMax a b
    | 6 => fMin (fMax a (leAt e 8 4)) (leAt e 12 4)
    | 7 => if fLt 0 a then fLog2 a else 0
    | 8 => if fEq b 0 then 0 else fDiv a b
    | _ => 0
  if fFinite r then (r, false) else (0x7F7FFFFF + (if fNeg r then 2 ^ 31 else 0), true)
/-- Evaluate `n` expressions in ascending number; answers the features and how many saturated. -/
def evalExprs : Nat → Bytes → List Nat → Nat → List Nat × Nat
  | 0, _, fs, k => (fs, k)
  | n + 1, es, fs, k => let r := evalExpr (es.take 16) fs; evalExprs n (es.drop 16) (fs ++ [r.1]) (k + b2n r.2)
/-- All 256 features with a bundle's expression table (R242). -/
def features (base : List Nat) (exprs : Bytes) : List Nat × Nat :=
  let n := min 64 (exprs.length / 16)
  let r := evalExprs n exprs base 0
  (r.1 ++ List.replicate (64 - n) 0, r.2)

/-- An expression table is accepted (R243): every operand names a lower feature, c0 does not exceed c1 for clamp,
constants are finite, and operations are those of R242 (notes/assumptions/19.md). `n` is the number of the first. -/
def exprsOk : Nat → Nat → Bytes → Bool
  | 0, _, _ => true
  | fuel + 1, n, es =>
    let e := es.take 16
    let op := byteAt e 0
    let ua := decide (1 ≤ op)
    let ub := decide (1 ≤ op ∧ op ≤ 5) || op == 8
    decide (op ≤ 8) && (!ua || bit (byteAt e 1) 0 || decide (leAt e 2 2 < n)) && (!ub || bit (byteAt e 1) 1 || decide (leAt e 4 2 < n)) &&
    fFinite (leAt e 8 4) && fFinite (leAt e 12 4) && !(op == 6 && fLt (leAt e 12 4) (leAt e 8 4)) && exprsOk fuel (n + 1) (es.drop 16)

/-- A feature as a BF16 element (R351): rounded once, to nearest with ties to even. -/
def featBf (n v : Nat) : Nat :=
  match featType n with
  | 0 => roundMag 7 v 1
  | 1 => let i := toSigned 32 v; roundMag 7 i.natAbs 1 + (if i < 0 then 2 ^ 15 else 0)
  | _ => bfRound v

end Sys2Proof.Machine
end

