-- ==== Sys2Proof/Machine/Tier1.lean ====
section
/-! DEFINITION. Tier results and verdict amendments (R28 to R30, R188, R189, R360), tree ensembles and their
walks (R244 to R254). -/
namespace Sys2Proof.Machine

/-- Slot s of partition p. -/
def State.slot (s : State) (p n : Nat) : Slot := mget (fun _ => ({} : Slot)) s.m.slots (4 * p + n)
/-- Replace slot s of partition p. -/
def State.setSlot (s : State) (p n : Nat) (v : Slot) : State :=
  { s with m := { s.m with slots := mset (fun _ => ({} : Slot)) s.m.slots (4 * p + n) v } }

/-! ## Results and amendments -/

/-- The body of a verdict amendment (R360). -/
def amendBody (k : FlowKey) (index : Nat) (e : FEntry) (old verdict epoch under tier score time : Nat) : Bytes :=
  hashInput k ++ le 4 index ++ le 4 old ++ le 4 verdict ++ le 4 e.epoch ++ le 4 epoch ++ le 4 under ++
  le 1 e.tier ++ le 1 tier ++ le 1 e.score ++ le 1 score ++ le 8 time ++ zeros 32

/-- Every frame crosses by R94: no lookup, no learning, no tier, no default verdict, no amendment. -/
def State.plain (s : State) : Bool := s.obj Obj.startPlainCrossing == 1
/-- The verdict applied to an entry: its partition's default while its tier is 0 (R161, R188). -/
def State.applied (s : State) (e : FEntry) : Nat := if e.tier = 0 then s.obj (Obj.partDefaultVerdict e.key.part) else e.verdict
/-- Write a verdict, tier, epoch and score to the entry in slot i (R188): the amendment of R30 is emitted when the
verdict differs and frames crossed under the applied one, outside plain crossing (R94). -/
def State.applyVerdict (s : State) (i tier verdict score epoch time : Nat) : State :=
  let e := s.entry i
  let p := e.key.part
  let old := s.applied e
  let differ := old != verdict
  let s := if differ && decide (1 ≤ e.under) && !s.plain then
      ((s.collect p 0 1 (amendBody e.key i e old verdict epoch e.under tier score time)).ctr Obj.ctrAmendments).partLight p 15
    else s
  s.setEntry i { e with tier := tier, verdict := verdict, score := score, epoch := epoch, under := if differ then 0 else e.under }

/-- How a tier result ends under R29. -/
inductive Judged
  | written (slot : Nat)
  | stale
  | locked
  | pinned
  | superseded
  deriving DecidableEq, Repr

/-- The conditions of R29 in their order. -/
def State.judge (s : State) (k : FlowKey) (tier epoch : Nat) : Judged :=
  match s.findKey k with
  | none => .stale
  | some i =>
    let e := s.entry i
    if s.locked e then .locked else if e.pinned then .pinned
    else if tier < e.tier && decide (epoch ≤ e.epoch) then .superseded else .written i

/-- Apply a tier result by key (R29, R188): the state and whether it was written. In plain crossing nothing is looked up: a result that arrives is
discarded (R94; DEDUCED, notes/assumptions/124.md). -/
def State.tierResult (s : State) (k : FlowKey) (tier verdict score epoch time : Nat) : State × Bool :=
  if s.plain then (s, false)
  else match s.judge k tier epoch with
  | .written i => (s.applyVerdict i tier verdict score epoch time, true)
  | .stale => (s.ctr Obj.ctrResultStale, false)
  | .locked => (s.ctr Obj.ctrResultLocked, false)
  | .pinned => (s.ctr Obj.ctrResultPinned, false)
  | .superseded => (s.ctr Obj.ctrResultSuperseded, false)

/-! ## Verdict maps (R249) -/

/-- The entry a score selects: the lowest whose bound exceeds it, else 15. -/
def mapByScore (vmap : Bytes) (score : Nat) : Nat :=
  ((List.range 15).find? (fun i => fLt score (leAt vmap (12 * i) 4))).getD 15
/-- Verdict word and anomaly score of a map entry. -/
def mapEntry (vmap : Bytes) (i : Nat) : Nat × Nat := (leAt vmap (12 * i + 4) 4, byteAt vmap (12 * i + 8))
/-- A map is accepted (R249): no verdict word of action 6 or 7 and, by score, bounds that ascend (equal ones and infinities
allowed, a NaN refused, class maps unchecked: DEDUCED, notes/assumptions/20.md). -/
def mapOk (vmap : Bytes) (byScore : Bool) : Bool :=
  vmap.length == 192 && (List.range 16).all (fun i => decide (bits (mapEntry vmap i).1 31 29 < 6)) &&
  (!byScore || ((List.range 15).all (fun i => !fNaN (leAt vmap (12 * i) 4)) &&
    (List.range 14).all (fun i => fLe (leAt vmap (12 * i) 4) (leAt vmap (12 * i + 12) 4))))

/-! ## Ensembles (R244, R245; the header's field widths are a DESIGN CHOICE, notes/assumptions/21.md) -/

/-- A node (R244). -/
structure TNode where
  feature : Nat
  compare : Nat
  leaf : Bool
  yes : Nat
  no : Nat
  threshold : Nat
  deriving DecidableEq, Repr

/-- A node from its 128 bits. -/
def nodeOf (n : Nat) : TNode :=
  { feature := bits n 127 118, compare := bits n 117 116, leaf := bit n 115, yes := bits n 103 78, no := bits n 77 52,
    threshold := bits n 31 0 }
/-- A compare of R244 on a feature of a type. -/
def nodeTest (ty cmp v t : Nat) : Bool :=
  match cmp with
  | 0 => if ty = 0 then decide (v < t) else if ty = 1 then decide (toSigned 32 v < toSigned 32 t) else fLt v t
  | 1 => if ty = 0 then decide (v ≤ t) else if ty = 1 then decide (toSigned 32 v ≤ toSigned 32 t) else fLe v t
  | 2 => if ty = 2 then fEq v t else v == t
  | _ => v &&& t != 0

/-- Bytes of an ensemble before its nodes, by tree count. -/
def ensHead (t : Nat) : Nat := 16 + 8 * t + 192
/-- The ensemble held under a digest. -/
def State.ensOf (s : State) (d : Bytes) : Option Ens := s.t1.ens.find? (fun e => e.digest == d)
/-- The address in its stack of node i of a request's ensemble. -/
def State.nodeAddr (s : State) (q : T1Req) (i : Nat) : Nat :=
  q.ens + ensHead (match s.ensOf q.digest with | some e => leAt e.head 0 4 | none => s.memLE q.ens 4) + 16 * i
/-- Node i of a request's ensemble, read from its stack. -/
def State.treeNode (s : State) (q : T1Req) (i : Nat) : TNode := nodeOf (s.memLE (s.nodeAddr q i) 16)

/-- A tree's shape is accepted (R245): its nodes contiguous and in level order, in any order within a level, children after
their parent and within the tree, every path of at most `depth` levels below the root. `lv` is the node indices of one level;
`fuel` bounds the levels. -/
def treeOk (node : Nat → TNode) (vote : Bool) (stop : Nat) : Nat → Nat → List Nat → Bool
  | 0, _, _ => false
  | fuel + 1, next, lv =>
    let ns := lv.map node
    let kids := ns.flatMap (fun (n : TNode) => if n.leaf then [] else [n.yes, n.no])
    ns.all (fun n => if n.leaf then (!vote || decide (n.threshold ≤ 15))
      else decide (n.feature ≤ 255) && !(n.compare == 3 && featType n.feature == 2)) &&
    (List.range kids.length).all (fun j => kids.contains (next + j)) &&
    (if kids.isEmpty then next == stop else decide (next + kids.length ≤ stop) && treeOk node vote stop fuel (next + kids.length) ((List.range kids.length).map (next + ·)))

/-- An ensemble section is accepted (R245, R249). -/
def ensembleOk (b : Bytes) : Bool :=
  let t := leAt b 0 4
  let agg := byteAt b 4
  let n := leAt b 12 4
  let hd := ensHead t
  decide (t ≤ 4096) && decide (n ≤ 2 ^ 26) && decide (agg ≤ 1) && decide (b.length = hd + 16 * n) &&
  mapOk (slice b (16 + 8 * t) 192) (agg == 0) &&
  (List.range t).all (fun i =>
    let root := leAt b (16 + 8 * i) 4; let cnt := leAt b (20 + 8 * i) 2; let dep := leAt b (22 + 8 * i) 2
    decide (dep ≤ 20) && decide (1 ≤ cnt) && decide (root + cnt ≤ n) &&
    treeOk (fun j => nodeOf (leAt b (hd + 16 * j) 16)) (agg == 1) (root + cnt) (dep + 1) (root + 1) [root])

/-- The nodes of a tree's levels 0 to l − 1. -/
def levelNodes (node : Nat → TNode) : Nat → List Nat → List Nat
  | 0, _ => []
  | l + 1, lv => lv ++ levelNodes node l ((lv.map node).flatMap (fun (n : TNode) => if n.leaf then [] else [n.yes, n.no]))
/-- The nodes of the levels 0 to l − 1 of every tree of a section, tree by tree. -/
def sectionNodes (b : Bytes) (l : Nat) : List Nat :=
  let t := leAt b 0 4
  (List.range t).flatMap (fun i => levelNodes (fun j => nodeOf (leAt b (ensHead t + 16 * j) 16)) l [leAt b (16 + 8 * i) 4])
/-- Bytes of the levels 0 to l − 1 of every tree of a section. -/
def levelBytes (b : Bytes) (l : Nat) : Nat := 16 * (sectionNodes b l).length
/-- The levels pinned within a share of bytes: the largest from 0 to 6 that fits (R246). -/
def pinLevels (b : Bytes) (share : Nat) : Nat :=
  ((List.range 7).reverse.find? (fun l => decide (levelBytes b l ≤ share))).getD 0
/-- The partitions that hold a section of a digest in one of their slots. -/
def State.sharers (s : State) (d : Bytes) : List Nat :=
  (List.range 16).filter (fun p => (List.range 4).any (fun n => (s.slot p n).ens != 0 && (s.slot p n).ensDigest == d))
/-- Hold an ensemble section: whole upper levels within the sum of its partitions' shares are copied into the node cache; one held under
the digest already is pinned anew (R246). -/
def State.pinEns (s : State) (b d : Bytes) : State :=
  let share := ((s.sharers d).map (fun p => s.obj (Obj.partT1CacheKib p) * 1024)).foldl (· + ·) 0
  let l := pinLevels b share
  let h := ensHead (leAt b 0 4)
  let e : Ens := { digest := d, head := b.take h, levels := l, nodes := (sectionNodes b l).map (fun i => (i, leAt b (h + 16 * i) 16)) }
  let es := if (s.ensOf d).isSome then s.t1.ens.map (fun x => if x.digest = d then e else x) else s.t1.ens ++ [e]
  { s with t1 := { s.t1 with ens := es } }
/-- Let ensembles go that no slot holds and under which no walk runs (R250). -/
def State.pruneEns (s : State) : State :=
  let es := s.t1.ens.filter (fun e => !(s.sharers e.digest).isEmpty || s.t1.reqs.any (fun q => q.digest == e.digest))
  { s with t1 := { s.t1 with ens := es } }
/-- Byte o of the node cache: the pinned nodes of the ensembles in load order (the place of each is a DESIGN CHOICE, notes/assumptions/129.md). -/
def State.nodeCacheByte (s : State) (o : Nat) : Option Byte :=
  ((s.t1.ens.flatMap (·.nodes))[o / 16]?).map (fun e => (le 16 e.2).getD (o % 16) 0)

/-! ## Walks (R247 to R253) -/

/-- The slot that supplies partition p's ensemble, with what is held of it (R242, R246). -/
def State.tier1Named (s : State) (p : Nat) : Option (Slot × Ens) :=
  let n := s.obj (Obj.partT1Slot p)
  let u := s.slot p n
  if n < 4 ∧ u.ens ≠ 0 then (s.ensOf u.ensDigest).map (fun e => (u, e)) else none
/-- The stack of an ensemble's section. -/
def ensStack (addr : Nat) : Nat := addr / 0x600000000
/-- Every node of an ensemble is pinned. -/
def Ens.whole (e : Ens) : Bool := e.nodes.length == leAt e.head 12 4
/-- The partition's tier-1 slot and ensemble, if a walk can start (R252, R343): the tier needs PD-NET, PD-HBM and the stack that holds nodes
beyond the pinned levels (R33). -/
def State.tier1Slot (s : State) (p : Nat) : Option (Slot × Ens) :=
  if s.obj (Obj.partT1Enable p) = 1 ∧ s.netOn ∧ s.domain 1 then
    (s.tier1Named p).filter (fun x => x.2.whole || s.stackUp (ensStack x.1.ens))
  else none

/-- The child that a node's compare takes (R244). -/
def TNode.next (n : TNode) (fs : List Nat) : Nat :=
  if nodeTest (featType n.feature) n.compare (fs.getD n.feature 0) n.threshold then n.yes else n.no
/-- Walk a tree while its nodes are pinned; a node beyond them is to be fetched (R247). -/
def walkPinned (nodes : List (Nat × Nat)) (fs : List Nat) : Nat → TreePos → TreePos
  | 0, t => { t with fetch := true }
  | fuel + 1, t =>
    match nodes.lookup t.node with
    | none => { t with fetch := true }
    | some v =>
      let n := nodeOf v
      if n.leaf then { t with leaf := some n.threshold, fetch := false }
      else walkPinned nodes fs fuel { t with node := n.next fs, depth := t.depth + 1 }

/-- Replace a tier-1 request. -/
def State.setT1 (s : State) (q : T1Req) : State :=
  { s with t1 := { s.t1 with reqs := s.t1.reqs.map (fun r => if r.id = q.id then q else r) } }
/-- Remove a tier-1 request; an ensemble that it alone kept goes (R250). -/
def State.dropT1 (s : State) (id : Nat) : State :=
  ({ s with t1 := { s.t1 with reqs := s.t1.reqs.filter (·.id != id) } } : State).pruneEns
/-- Abandon a walk (R253). -/
def State.abandonT1 (s : State) (id : Nat) : State := (s.dropT1 id).ctr Obj.ctrT1Abandoned
/-- A tree that its walker has not taken yet. -/
def TreePos.waits (t : TreePos) : Bool := t.leaf.isNone && !t.fetch
/-- The tier-1 queue: requests leave it in arrival order, each once every tree of it has been taken (R247). -/
def State.t1Queue (s : State) : List T1Req := s.t1.reqs.dropWhile (fun q => !q.trees.any TreePos.waits)
/-- Trees that walker w has in flight: tree t is walker t mod 16's (R247). -/
def State.inFlight (s : State) (w : Nat) : Nat :=
  (s.t1.reqs.map (fun q => q.trees.zipIdx.countP (fun (x : TreePos × Nat) => x.2 % 16 == w && x.1.fetch))).foldl (· + ·) 0
/-- Tree i of a request is taken by its walker, unless that has 64 in flight (R247): pinned nodes are visited at once; a node beyond them is fetched
from its stack, and without that stack the walk is abandoned (R253). -/
def State.takeTree (s : State) (id i : Nat) : State :=
  match s.t1.reqs.find? (·.id == id) with
  | none => s
  | some q =>
    match q.trees[i]? with
    | none => s
    | some t =>
      if !t.waits || decide (64 ≤ s.inFlight (i % 16)) then s
      else
        let t := walkPinned (match s.ensOf q.digest with | some e => e.nodes | none => []) q.feats 8 t
        if !t.fetch then s.setT1 { q with trees := setAt q.trees i t }
        else if s.stackUp (ensStack q.ens) then (s.setT1 { q with trees := setAt q.trees i t }).ctr Obj.ctrT1NodeFetches
        else s.abandonT1 id
/-- The walkers take what they have room for, in queue order (R247). -/
def State.feed (s : State) : State :=
  s.each s.t1.reqs (fun s q => s.each (List.range q.trees.length) (fun s i => s.takeTree q.id i))

/-- Start the tree tier for a frame of a key that missed (R169, R205, R247): a request in the tier-1 queue if the partition has an ensemble.
`r` is the record with this frame; where `bad`, a word read from the node cache is uncorrectable, and the walk is abandoned (R253, R416). -/
def State.startWalk (s : State) (k : FlowKey) (r : Rec) (bad : Bool) : State :=
  match s.tier1Slot k.part with
  | none => s
  | some (u, e) =>
    if 4096 ≤ s.t1Queue.length then s.ctr Obj.ctrT1Skipped
    else
      let f := features (catalogue k r s.now none) u.exprs
      let s := (s.addCtr Obj.ctrExprSaturated f.2).ctr Obj.ctrT1Requests
      let trees := (List.range (leAt e.head 0 4)).map (fun i =>
        ({ node := leAt e.head (16 + 8 * i) 4, depth := 0, leaf := none, fetch := false } : TreePos))
      let q : T1Req := { id := s.t1.nextReq, key := k, time := s.now, epoch := s.obj (Obj.partEpoch k.part), ens := u.ens, digest := e.digest,
                         feats := f.1, trees := trees, dead := false }
      if bad ∧ e.nodes ≠ [] then
        -- which of the cache's words it is the command does not say
        let x := s.fresh
        ((x.2.ctr Obj.ctrT1Abandoned).ctr Obj.ctrEccUncorrectableOther).faultRec 1 0 1 0 k.part 0xFF 0 (0x6100000000 + x.1 % 0x40000 * 16) 0
      else ({ s with t1 := { s.t1 with reqs := s.t1.reqs ++ [q], nextReq := s.t1.nextReq + 1 } } : State).feed

/-- A stack becomes unreachable: walks that wait for a node of it are abandoned (R253). -/
def State.abandonStack (s : State) (n : Nat) : State :=
  s.each (s.t1.reqs.filter (fun q => ensStack q.ens == n && q.trees.any (·.fetch))) (fun s q => s.abandonT1 q.id)

/-- A node fetched from a stack arrives (R247, R253): `check` 0 good, 1 end-to-end check failed, 2 stack ECC
uncorrectable, 3 corrected by the stack. -/
def State.nodeFetched (s : State) (id tree check : Nat) : State :=
  match s.t1.reqs.find? (·.id == id) with
  | none => s
  | some q =>
    match q.trees[tree]? with
    | none => s
    | some t =>
      if !t.fetch then s
      else
      let s := s.movedStack (ensStack q.ens) 32
      if check = 1 ∨ check = 2 then
        let a := s.nodeAddr q t.node
        (((s.abandonT1 id).ctr (if check = 1 then Obj.ctrHbmE2eFail else Obj.ctrHbmEccUncorrectable)).faultRec 1 0 4 (ensStack q.ens) q.key.part 0xFF 0
          a 0).feed
      else
        let s := s.when (check == 3) (·.ctr Obj.ctrHbmEccCorrected)
        let n := s.treeNode q t.node
        if n.leaf then (s.setT1 { q with trees := setAt q.trees tree { t with leaf := some n.threshold, fetch := false } }).feed
        else (s.setT1 { q with trees := setAt q.trees tree { t with node := n.next q.feats, depth := t.depth + 1 } }).ctr Obj.ctrT1NodeFetches

/-- The class with most leaves, ties to the lower (R248). -/
def voteClass (ls : List Nat) : Nat :=
  ((List.range 16).foldl (fun (b : Nat × Nat) c => let n := ls.countP (· == c); if b.2 < n then (c, n) else b) (0, 0)).1

/-- The verdict word and score a finished walk gives (R248, R249), by the header and map of the ensemble under which it started; none while a
tree is not at a leaf. -/
def State.walkResult (s : State) (q : T1Req) : Option (Nat × Nat) :=
  if q.trees.all (·.leaf.isSome) then
    (s.ensOf q.digest).map (fun e =>
      let ls := q.trees.map (fun t => t.leaf.getD 0)
      let vmap := slice e.head (16 + 8 * leAt e.head 0 4) 192
      mapEntry vmap (if byteAt e.head 4 = 0 then mapByScore vmap (ls.foldl fAdd (leAt e.head 8 4)) else voteClass ls))
  else none

/-- A record's update from a frame (R236 to R239): in the cache at once, else after its fetch. Answers whether the
update has been applied. `req` is the tier-2 request that waits for it. -/
def State.recordUpdate (s : State) (slot : Nat) (m : Meta) (req : Option Nat) : State × Bool :=
  if !s.stackUp (recStack slot) then (s.ctr Obj.ctrRecordUnreachable, false)
  else
    let u : FetchUpd := { fact := m, req := req }
    match s.t1.fetches.find? (fun (f : Nat × List FetchUpd) => f.1 == slot) with
    | some f =>
      ({ s with t1 := { s.t1 with fetches := s.t1.fetches.map (fun (g : Nat × List FetchUpd) =>
          if g.1 = slot then (slot, f.2 ++ [u]) else g) } }, false)
    | none =>
      match s.recOf slot with
      | none => ((s.setRec slot (some (Rec.init m (0, 0, 0, 0)))).ctr Obj.ctrRecordReinit, true)
      | some r =>
        if s.t1.cache.contains slot then (s.setRec slot (some (r.update m)), true)
        else if 1024 ≤ s.t1.fetches.length then (s.ctr Obj.ctrFeatureUpdateLost, false)
        else (({ s with t1 := { s.t1 with fetches := s.t1.fetches ++ [(slot, [u])] } }).ctr Obj.ctrRecordCacheMiss, false)

end Sys2Proof.Machine
end

