-- ==== Sys2Proof/Machine/Bundle.lean ====
section
/-! DEFINITION. Zasko bundles (R336 to R339) and the checks that a load makes on their bytes (R341 steps 1 and 3). -/
namespace Sys2Proof.Machine

/-- A section entry (R336). -/
structure BSec where
  kind : Nat
  off : Nat
  len : Nat
  digest : Bytes
  deriving DecidableEq, Repr

/-- The section entries. -/
def bundleSecs (b : Bytes) : List BSec :=
  (List.range (leAt b 16 2)).map (fun i =>
    let e := slice b (64 + 64 * i) 64
    { kind := leAt e 0 2, len := leAt e 4 4, off := leAt e 8 8, digest := slice e 16 48 })
/-- Length of the bundle. -/
def bundleLen (b : Bytes) : Nat := leAt b 8 8
/-- The header can be read and its sections lie within the bundle (R336); `room` is how many bytes its holder has. -/
def bundleHeadOk (b : Bytes) (room : Nat) : Bool :=
  let l := bundleLen b
  let c := leAt b 16 2
  leAt b 0 4 == 0x5A424E44 && decide (l ≤ 2 ^ 30) && decide (l ≤ room) && decide (1 ≤ c) && decide (c ≤ 32) && decide (112 + 64 * c ≤ l) &&
  (bundleSecs b).all (fun s => s.off % 64 == 0 && decide (64 + 64 * c ≤ s.off) && decide (s.off + s.len + 48 ≤ l))
/-- The bundle digest (R336). -/
def bundleDigest (b : Bytes) : Bytes := slice b (bundleLen b - 48) 48
/-- Every digest checks (R341 step 1). -/
def bundleDigestsOk (b : Bytes) : Bool :=
  decide (bundleDigest b = sha384 (b.take (bundleLen b - 48))) &&
  (bundleSecs b).all (fun s => decide (s.digest = sha384 (slice b s.off s.len)))
/-- The section of a kind. -/
def bundleSec (b : Bytes) (k : Nat) : Option BSec := (bundleSecs b).find? (fun s => s.kind == k)
/-- The bytes of a section of a kind; empty where the bundle has none. -/
def secBytes (b : Bytes) (k : Nat) : Bytes := match bundleSec b k with | some s => slice b s.off s.len | none => []
/-- The bundle holds a kind. -/
def hasSec (b : Bytes) (k : Nat) : Bool := (bundleSec b k).isSome
/-- The kinds are those of R337, none repeated, and form an allowed set. -/
def bundleKindsOk (b : Bytes) : Bool :=
  let ks := (bundleSecs b).map (·.kind)
  let t2 := (List.range 8).map (· + 4)
  ks.all (fun k => decide (1 ≤ k ∧ k ≤ 11) && ks.countP (· == k) == 1) && ks.contains 1 && (ks.contains 2 || ks.contains 4) &&
  (t2.all ks.contains || !t2.any ks.contains)

/-- A block record (R339) without its weights; `at_` is the offset of the weights in the section. -/
structure WBlock where
  num : Nat
  layer : Nat
  oper : Nat
  ty : Nat
  axis : Nat
  codes : List Nat
  at_ : Nat
  deriving DecidableEq, Repr

/-- Bytes of a block's weights (R339). -/
def weightBytes (ty : Nat) : Nat := if ty = 2 then 4096 else 2048
/-- Read the block records from offset `o` of the section; none when they are malformed. `fuel` bounds them. -/
def blocksOf : Nat → Nat → Bytes → Option (List WBlock)
  | 0, _, _ => none
  | fuel + 1, o, b =>
    if b.isEmpty then some []
    else
      let ty := byteAt b 6
      let n := 80 + weightBytes ty
      if b.length < n ∨ 2 < ty ∨ 1 < byteAt b 7 then none
      else
        let codes := (List.range 64).map (fun j => byteAt b (16 + j))
        (blocksOf fuel (o + n) (b.drop n)).map (fun bs => ⟨leAt b 0 2, leAt b 2 2, leAt b 4 2, ty, byteAt b 7, codes, o + 80⟩ :: bs)

/-! ## Programs, placement and the operator graph (R337 kinds 9 and 10, R338; their layouts are a DESIGN CHOICE, notes/assumptions/130.md) -/

/-- The core programs of the positions from k on: entry offset (4), length (4), instruction words. -/
def progsOf : Nat → Nat → Bytes → Option (List (Nat × Nat × Bytes))
  | 0, _, b => if b.isEmpty then some [] else none
  | n + 1, k, b =>
    let len := leAt b 4 4
    if b.length < 8 + len ∨ len % 4 ≠ 0 ∨ leAt b 0 4 % 4 ≠ 0 then none
    else (progsOf n (k + 1) (b.drop (8 + len))).map (fun ps => (k, leAt b 0 4, slice b 8 len) :: ps)
/-- What the bundle places: array mode and mask per core position, each block's core position, array and whether it is pinned, and the programs;
none when the sections are malformed, or do not name each block record once. -/
def placingOf (b : Bytes) : Option Placing :=
  let g := secBytes b 4
  let p := secBytes b 10
  let q := byteAt g 1
  let n := leAt p 2 2
  let base := match bundleSec b 6 with | some x => x.off | none => 0
  match blocksOf 65537 0 (secBytes b 6), progsOf (4 * q) 0 (secBytes b 9) with
  | some ws, some ps =>
    let bs := (List.range n).filterMap (fun i =>
      let e := slice p (4 + 8 * q + 6 * i) 6
      (ws.find? (fun w => w.num == leAt e 0 2)).map (fun w =>
        ({ block := w.num, core := byteAt e 2, arr := byteAt e 3, pinned := bit (byteAt e 4) 0, size := weightBytes w.ty, off := base + w.at_ } : BlockPlace)))
    if byteAt p 0 = q ∧ p.length = 4 + 8 * q + 6 * n ∧ bs.length = n ∧ n = ws.length ∧ ws.all (fun w => bs.countP (fun m => m.block == w.num) == 1) then
      some { positions := (List.range (4 * q)).map (fun k => (byteAt p (4 + 2 * k), byteAt p (5 + 2 * k))), blocks := bs, progs := ps, table := leAt g 4 4 }
    else none
  | _, _ => none
/-- The graph's commands with their core positions (R338): core position (1), reserved (3), layer (2), operator (2), entry (4), argument (8),
reserved (4). -/
def graphCmds (b : Bytes) : List (Nat × CoreCmd) :=
  let g := secBytes b 4
  (List.range (leAt g 2 2)).map (fun i =>
    let e := slice g (16 + 24 * i) 24
    (byteAt e 0, { layer := leAt e 4 2, oper := leAt e 6 2, entry := leAt e 8 4, arg := leAt e 12 8, tag := 0 }))

/-- Feature numbers that R241 reserves. -/
def featReserved (n : Nat) : Bool :=
  decide (38 ≤ n ∧ n ≤ 47) || decide (62 ≤ n ∧ n ≤ 71) || decide (93 ≤ n ∧ n ≤ 95) || decide (105 ≤ n ∧ n ≤ 119) ||
  decide (129 ≤ n ∧ n ≤ 143) || decide (153 ≤ n ∧ n ≤ 167) || decide (174 ≤ n ∧ n ≤ 191) || decide (256 ≤ n)
/-- The input map's features (R337). -/
def inputMap (b : Bytes) : List Nat := let m := secBytes b 5; (List.range (leAt m 0 2)).map (fun i => leAt m (2 + 2 * i) 2)

/-- The arrays that a pinned block of array k is loaded into under a core's mode and mask (R300). -/
def arrGroup (mode mask k : Nat) : Nat := if mode = 1 then mask else if mode = 3 then (if k < 2 then 3 else 12) else 2 ^ k
/-- The array groups that feed each accumulated sum of a core program: its ASTR and ASTR.T words in order, those with accumulate 1 joining the
sum that stands in their destination tile (R298). -/
def sumGroups (ws : List Nat) : List (List Nat) :=
  let r := ws.foldl (fun (a : List (Nat × List Nat) × List (List Nat)) w =>
    if bits w 30 28 = 4 ∧ (bits w 27 22 = 2 ∨ bits w 27 22 = 3) then
      let t := bits w 21 19
      let m := bits w 12 9
      let old := (a.1.lookup t).getD []
      let rest := a.1.filter (fun e => e.1 != t)
      if bit w 8 then ((t, old ++ [m]) :: rest, a.2) else ((t, [m]) :: rest, a.2 ++ [old])
    else a) ([], [])
  r.2 ++ r.1.map (·.2)
/-- The blocks that feed one accumulated sum carry equal codes, column by column or, read by ASTR.T, all of them, and so do the columns of a
block read by ASTR.T (R327, R328). Blocks of one layer, operator and array of a core feed one sum, and pinned blocks of one core whose array
groups the core's program adds into one destination tile, but for fan mode, whose arrays have outputs of their own (DEDUCED,
notes/assumptions/34.md). -/
def codesOk (bs : List WBlock) (pl : Placing) : Bool :=
  let blk (n : Nat) := bs.find? (fun w => w.num == n)
  let equal (w v : WBlock) : Bool := w.axis != v.axis || v.codes == w.codes
  let words (k : Nat) := (pl.progs.filter (fun x => x.1 == k)).flatMap (fun x => (List.range (x.2.2.length / 4)).map (fun i => leAt x.2.2 (4 * i) 4))
  bs.all (fun w => w.axis != 1 || w.codes.all (· == w.codes.headD 0)) &&
  pl.blocks.all (fun a => pl.blocks.all (fun c =>
    a.core != c.core || (match blk a.block, blk c.block with
      | some w, some v => equal w v || !(w.layer == v.layer && w.oper == v.oper && a.arr == c.arr)
      | _, _ => true))) &&
  pl.positions.zipIdx.all (fun (e : (Nat × Nat) × Nat) =>
    e.1.1 == 2 || (sumGroups (words e.2)).all (fun ms =>
      let mine := pl.blocks.filter (fun a => a.core == e.2 && a.pinned && ms.any (fun m => m &&& arrGroup e.1.1 e.1.2 a.arr != 0))
      mine.all (fun a => mine.all (fun c => match blk a.block, blk c.block with | some w, some v => equal w v | _, _ => true))))

/-- The status of the section checks (R341 step 3): 0 when all are accepted. -/
def sectionStatus (b : Bytes) : Nat :=
  let g := secBytes b 4
  let m := secBytes b 5
  let kind := byteAt g 0
  if !bundleKindsOk b || !recOk 4 (recTrim (secBytes b 1)) then 2
  else if hasSec b 3 && !(secBytes b 3).length % 16 == 0 then 2
  else if (hasSec b 3 && (decide (1024 < (secBytes b 3).length) || !exprsOk 65 192 (secBytes b 3))) || (hasSec b 2 && !ensembleOk (secBytes b 2)) then 7
  else if !hasSec b 4 then 0
  else if g.length < 16 + 24 * leAt g 2 2 ∨ 1 < kind ∨ byteAt g 1 = 0 ∨ 8 < byteAt g 1 ∨ (secBytes b 8).length % 8 ≠ 0 then 2
  else if !mapOk (secBytes b 11) (kind == 0) then 7
  else if leAt m 0 2 = 0 ∨ 112 < leAt m 0 2 then 9
  else if m.length < 2 + 2 * leAt m 0 2 then 2
  else if (inputMap b).any featReserved then 9
  else match blocksOf 65537 0 (secBytes b 6), placingOf b with
    | some bs, some pl => if (secBytes b 7).length ≠ 256 * bs.length then 2 else if !codesOk bs pl then 5 else 0
    | _, _ => 2

end Sys2Proof.Machine
end

