-- ==== Sys2Proof/Machine/Straits.lean ====
section
/-! DEFINITION. The strait link: bulk data, states and the receiving side (R361 to R367). -/
namespace Sys2Proof.Machine

/-- The bulk packets whose producer waits go into strait i's bulk queue, oldest first, as far as it has room (R231). `fuel` bounds them. -/
def State.bulkPut (i : Nat) : Nat → State → State
  | 0, s => s
  | fuel + 1, s =>
    let v := s.strait i
    let q := 256 + i
    match v.wait with
    | [] => s
    | p :: rest =>
      let ws := toWords 16 p.data
      if s.qCap q < (s.queue q).depth + ws.length then s
      else State.bulkPut i fuel ((s.pushPacket q ws).setStrait i { v with wait := rest, bulk := v.bulk ++ [p] })
/-- Put bulk data on the bulk queue of its route; where it is full the producer waits (R212, R231). -/
def State.sendBulk (s : State) (ty dst : Nat) (data : Bytes) : State :=
  match s.route dst with
  | none => s
  | some (i, _) =>
    let v := s.strait i
    let p : SPkt := { ch := 2, dst := dst, src := s.obj Obj.poolDevice % 64, hops := 7, ty := ty, data := data }
    State.bulkPut i (v.wait.length + 1) (s.setStrait i { v with wait := v.wait ++ [p] })

/-- The bulk channel of strait i takes the packet at its queue's head when it holds credits and no control packet
waits (R231, R367); an uncorrectable word discards it (R222). The room goes to a producer that waits. -/
def State.bulkPop (s : State) (i bad fixed : Nat) : State :=
  let v := s.strait i
  let q := 256 + i
  let waiting := v.out.any (fun p => p.ch == 0 && v.canSend p)
  match v.bulk with
  | [] => s
  | p :: rest =>
    if s.straitUp i && v.canSend p && !waiting then
      let popped := ((s.queue q).front true).isSome
      let r := s.pop q bad fixed
      let s := if popped then State.bulkPut i (v.wait.length + 1) (r.2.setStrait i { r.2.strait i with bulk := rest }) else r.2
      match r.1 with
      | some (ws, _) => s.sendFlits i { p with data := ws.flatten.take p.data.length } 5 0
      | none => s
    else s

/-- A strait's state object (R362), which raises an event. -/
def State.setStraitState (s : State) (i v : Nat) : State :=
  (s.setEv (Obj.straitState i) v).setEvBit Obj.straitUp i (v == 3)

/-- A strait enters Training (R362). -/
def State.straitTrain (s : State) (i : Nat) : State :=
  (s.setStrait i { s.strait i with deadline := some (s.clk.ticks + msT (s.obj Obj.straitTrainTimeout)) }).setStraitState i 1

/-- The agents that strait i carries, by the route to their device, are deregistered as it is lost (R79). -/
def State.straitAgents (s : State) (i : Nat) : State :=
  let ds := (List.range 64).filter (fun d => match s.route d with | some (j, _) => j == i | none => false)
  s.deregisterIf (fun ep => match ep with | .strait d => ds.contains d | _ => false)

/-- The packets that wait for a strait go by another route where there is one (R372); a heartbeat is for this strait alone (R371). -/
def State.reroute (s : State) (out : List SPkt) : State := s.each (out.filter (fun p => p.ty != 0x02)) (fun s p => s.forward p)

/-- A strait enters Down (R362): epoch, replay buffer and credits go, the packets in them are lost; the bulk queue's producer is fenced (R421). -/
def State.straitDown (s : State) (i : Nat) : State :=
  let s := (s.straitAgents i).fenceProducer (256 + i)
  let out := (s.strait i).out
  let s := s.setStrait i { ({} : Strait) with deadline := some (s.clk.ticks + msT 1), bulk := (s.strait i).bulk, wait := (s.strait i).wait }
  let s := { s with pool := { s.pool with adv := mdrop (· == i) s.pool.adv } }
  let s := s.setObj (Obj.straitLinkEpoch i) ((s.obj (Obj.straitLinkEpoch i) + 1) % 2 ^ 32)
  let s := (s.setStraitState i 4).reroute out
  s.faultRec 6 0 6 i 0xFF 0xFF 0 (s.obj (Obj.straitLinkEpoch i)) 0

/-- Resend the unacknowledged flits from a sequence, in order (R366). -/
def State.resend (s : State) (i seq : Nat) : State :=
  let v := s.strait i
  let fs := v.replay.dropWhile (fun (f : Nat × Bytes) => f.1 != seq)
  let n := fs.length
  if n = 0 then s
  else if 16 ≤ v.resends then s.straitDown i
  else
    let s := s.each fs (fun s f => s.emit (.flit i f.2))
    let t := s.clk.ticks
    let s := s.setStrait i { v with resends := v.resends + 1, sent := v.sent.take (v.replay.length - n) ++ List.replicate n t, lastSent := t }
    (s.addCtr Obj.ctrMolurReplays n).setObj (Obj.straitReplays i) ((s.obj (Obj.straitReplays i) + n) % 2 ^ 64)

/-- An acknowledgement reaches or passes flits of the replay buffer (R365), and credits come back (R367). -/
def State.acked (s : State) (i ack credit : Nat) : State :=
  let v := s.strait i
  let keep := if v.replay.any (fun f => f.1 == ack) then (v.replay.dropWhile (fun (f : Nat × Bytes) => f.1 != ack)).drop 1 else v.replay
  let moved := decide (keep.length < v.replay.length)
  let c := credit / 2 ^ 14
  let cred := if c < 3 then setAt v.cred c (v.cred.getD c 0 + credit % 1024) else v.cred
  let s := s.setStrait i { v with replay := keep, cred := cred, resends := if moved then 0 else v.resends,
                                  sent := v.sent.drop (v.replay.length - keep.length) }
  s.pumpStrait i 64

/-- A flit discarded (R364, R365): counted. -/
def State.flitBad (s : State) (i : Nat) : State :=
  (s.ctr Obj.ctrMolurCrcErrors).setObj (Obj.straitCrcErrors i) ((s.obj (Obj.straitCrcErrors i) + 1) % 2 ^ 64)
/-- A flit discarded out of order or by its CRC: one nak (R365), whose payload is the sequence expected (DESIGN CHOICE,
notes/assumptions/49.md). -/
def State.flitNak (s : State) (i : Nat) : State :=
  let s := s.flitBad i
  let v := s.strait i
  if v.nak then s else (s.setStrait i { v with nak := true }).linkFlit i 3 0 v.ack (be 2 v.rx)

/-- The init payload (R364). -/
def State.initPayload (s : State) : Bytes :=
  be 8 s.dev.serial ++ be 4 (s.obj Obj.poolId) ++ be 1 (s.obj Obj.poolDevice) ++ zeros 1 ++ be 2 64 ++ be 2 512 ++ be 2 256 ++
  be 3 (s.obj Obj.imgHarbourVersion) ++ zeros 1

/-- Alignment complete: the strait enters Init and sends its Init flit (R362). -/
def State.straitInit (s : State) (i : Nat) : State :=
  let s := s.setStrait i { s.strait i with deadline := some (s.clk.ticks + msT 10) }
  (s.setStraitState i 2).linkFlit i 1 0 0xFFFF s.initPayload

/-- Init flits exchanged and acknowledged: the strait is Up with the peer's buffers as credits (R362, R367). -/
def State.straitUpNow (s : State) (i peer : Nat) (credits : List Nat) : State :=
  let v := s.strait i
  let s := s.setStrait i { v with deadline := none, tx := 0, rx := 0, cred := (List.range 3).map (credits.getD · 0), free := [0, 0, 0],
                                  replay := [], sent := [], nak := false, initGot := true, initAck := true }
  let s := s.setObj (Obj.straitPeer i) peer
  ((s.setStraitState i 3).lanesUp (64 + 8 * i) 8).pumpStrait i 64

/-- A strait is disabled (R362): what it holds is lost. -/
def State.straitDisable (s : State) (i : Nat) : State :=
  if s.obj (Obj.straitState i) = 0 then s
  else
    let s := s.straitAgents i
    let out := (s.strait i).out
    ((s.setStrait i { ({} : Strait) with bulk := (s.strait i).bulk, wait := (s.strait i).wait }).setStraitState i 0).reroute out

end Sys2Proof.Machine
end

