-- ==== Sys2Proof/Machine/Registry.lean ====
section
/-! DEFINITION. Slot states and the replica registry they feed (R340, R342, R344, R349, R373). -/
namespace Sys2Proof.Machine

/-! ## Registry (R373) -/

/-- Registry entry e. -/
def State.reg (s : State) (e : Nat) : RegEntry := mget (fun _ => ({} : RegEntry)) s.pool.reg e
/-- Replace registry entry e. -/
def State.setReg (s : State) (e : Nat) (v : RegEntry) : State :=
  { s with pool := { s.pool with reg := mset (fun _ => ({} : RegEntry)) s.pool.reg e v } }
/-- This device's pool number. -/
def State.self (s : State) : Nat := s.obj Obj.poolDevice
/-- A registry entry's 64 bytes as pool.registry holds them. -/
def regBytes (e : RegEntry) : Bytes :=
  encFields false [(1, e.kind), (1, e.holder), (1, e.part), (1, e.slot), (1, e.region), (3, 0), (8, e.len)] ++ padTo 48 e.digest
/-- A registry entry's 64 bytes on a strait, network order (R363). -/
def regWire (e : RegEntry) : Bytes :=
  encFields true [(1, e.kind), (1, e.holder), (1, e.part), (1, e.slot), (1, e.region), (3, 0), (8, e.len)] ++ padTo 48 e.digest
/-- The entry that 64 bytes of a registry update spell. -/
def regOfWire (b : Bytes) : RegEntry :=
  { kind := byteAt b 0, holder := byteAt b 1, part := byteAt b 2, slot := byteAt b 3, region := byteAt b 4, len := beAt b 8 8, digest := slice b 16 48 }
/-- The lowest free entry. -/
def State.freeReg (s : State) : Option Nat := (List.range 256).find? (fun e => (s.reg e).kind == 0)
/-- The admitted members. -/
def State.members (s : State) : List Nat := bitsOf 64 (s.obj Obj.poolMembers)
/-- A member whose compat.state is 2: a management member (R370). -/
def State.isMgmt (s : State) (d : Nat) : Bool := (s.peer d).compat == 2
/-- Cut entries into registry updates of up to 15 (R363, R364); `fuel` bounds them. -/
def regPackets : Nat → List RegEntry → List Bytes
  | 0, _ => []
  | n + 1, es => if es.isEmpty then [] else
      (be 1 (es.take 15).length ++ zeros 3 ++ (es.take 15).flatMap regWire) :: regPackets n (es.drop 15)
/-- Send entries to a member; a management member is admitted for heartbeats, forwarding and Cuhild only (R370), so it neither sends nor
gets any. -/
def State.sendReg (s : State) (d : Nat) (es : List RegEntry) : State := if s.obj Obj.compatState == 2 || s.isMgmt d then s else s.each (regPackets 20 es) (fun s b => s.sendPacket 0 0x05 d b)
/-- Send changed entries to every admitted member (R373); a removed entry goes with kind 0 (DESIGN CHOICE,
notes/assumptions/30.md). -/
def State.announce (s : State) (es : List RegEntry) : State := if es.isEmpty then s else s.each s.members (fun s d => s.sendReg d es)
/-- This device's own entries. -/
def State.ownEntries (s : State) : List (Nat × RegEntry) := s.pool.reg.filter (fun e => e.2.kind != 0 && e.2.holder == s.self)
/-- Make an own entry in the lowest free place. -/
def State.addOwn (s : State) (e : RegEntry) : State := match s.freeReg with | some i => (s.setReg i e).announce [e] | none => s
/-- Remove an entry; an own one is announced. -/
def State.dropReg (s : State) (i : Nat) : State :=
  let e := s.reg i
  let s := s.setReg i {}
  if e.kind != 0 && e.holder == s.self then s.announce [{ e with kind := 0 }] else s

/-- The rotation of partition p (R400). -/
def State.rotOf (s : State) (p : Nat) : Option Rot := mget (fun _ => (none : Option Rot)) s.heat.rot p
/-- Replace the rotation of partition p. -/
def State.setRot (s : State) (p : Nat) (r : Option Rot) : State :=
  { s with heat := { s.heat with rot := mset (fun _ => (none : Option Rot)) s.heat.rot p r } }
/-- A rotation ends (R402): new records go to the Active slot; counted as an exchange when the partner served (DEDUCED,
notes/assumptions/55.md). -/
def State.endRotation (s : State) (p : Nat) : State :=
  match s.rotOf p with
  | none => s
  | some r => ((s.setRot p none).when (r.on && r.serving != r.active) (·.ctr Obj.ctrThermRotations)).setEvBit Obj.thermRotating p false
/-- Code of a slot's state (R340). -/
def State.slotState (s : State) (p n : Nat) : Nat := s.obj (Obj.partSlotState p n)
/-- The served-slot entry of a slot, if it is to be listed (R373). -/
def State.servedEntry (s : State) (p n : Nat) : Option RegEntry :=
  if s.objBit Obj.poolServeMask p ∧ s.self ≠ 0xFF ∧ 3 ≤ s.slotState p n ∧ s.slotState p n ≤ 5 then
    some { kind := 2, holder := s.self, part := p, slot := n, region := 0, len := (s.slot p n).len, digest := (s.slot p n).digest }
  else none
/-- Keep the registry's served-slot entry of a slot in step with the slot (R373). -/
def State.relist (s : State) (p n : Nat) : State :=
  let want := s.servedEntry p n
  let have_ := s.ownEntries.filter (fun e => e.2.kind == 2 && e.2.part == p && e.2.slot == n)
  let s := s.each (have_.filter (fun e => want != some e.2)) (fun s e => s.dropReg e.1)
  match want with
  | some w => if have_.any (fun e => e.2 == w) then s else s.addOwn w
  | none => s
/-- Put a slot into a state (R340), which raises an event. -/
def State.setSlotState (s : State) (p n v : Nat) : State :=
  let ends := match s.rotOf p with | some r => (r.active == n || r.partner == n) && s.obj (Obj.partSlotState p n) != v | none => false
  ((s.setEv (Obj.partSlotState p n) v).relist p n).when ends (·.endRotation p)

/-! ## Regions (R342, R349) -/

/-- Region r. -/
def State.region (s : State) (r : Nat) : Region := mget (fun _ => ({} : Region)) s.m.regions r
/-- Replace region r. -/
def State.setRegion (s : State) (r : Nat) (v : Region) : State :=
  { s with m := { s.m with regions := mset (fun _ => ({} : Region)) s.m.regions r v } }
/-- Bytes of a MiB. -/
def mib : Nat := 1048576
/-- A region counts as held by a slot: by a load or a slot (R342), a walk that runs on an ensemble in it (R250), an offer (R373), a fetch (R374)
or a replica lock (R375). -/
def State.heldBySlot (s : State) (r : Nat) : Bool :=
  s.m.slots.any (fun e => e.2.region == some r || e.2.load == some r) ||
  s.t1.reqs.any (fun q => decide ((s.region r).base ≤ q.ens) && decide (q.ens < (s.region r).base + (s.region r).size * mib)) || s.ownEntries.any (fun e => e.2.kind == 1 && e.2.region == r) ||
  (match s.pool.fetch with | some f => f.region == r | none => false) || s.pool.locks.any (fun l => l.region == r)
/-- The value of hbm.regions. -/
def State.regionTable (s : State) : Bytes :=
  (List.range 64).flatMap (fun r => let g := s.region r
    encFields false [(8, g.base), (2, g.size), (1, g.holder), (1, b2n (s.heldBySlot r)), (4, g.epoch)])

/-! ## Quarantine (R344) -/

/-- Ticks of one second. -/
def secT (n : Nat) : Nat := n * 50000000
/-- Operator faults of a slot within the last second. -/
def State.opFaults (s : State) (p n : Nat) : List Nat := (s.slot p n).opFaults.filter (fun t => decide (s.clk.ticks < t + secT 1))
/-- An operator fault of a slot; the third within a second makes it Quarantined, its lease fenced (R344, R421). -/
def State.opFault (s : State) (p n : Nat) : State :=
  let u := s.slot p n
  let fs := s.opFaults p n ++ [s.clk.ticks]
  let s := s.setSlot p n { u with opFaults := fs }
  if fs.length < 3 ∨ s.slotState p n = 0 ∨ s.slotState p n = 6 then s
  else
    let s := s.setSlot p n { s.slot p n with fence := u.fence + 1 }
    let s := s.setObj Obj.modelQuarantines ((s.obj Obj.modelQuarantines + 1) % 2 ^ 64)
    s.setSlotState p n 6

/-- The outstanding request of a number. -/
def State.t2req (s : State) (seq : Nat) : Option T2Req := s.m.out2.find? (fun r => r.seq == seq)
/-- The request that a core works on: its command's request tag is the request identifier (DEDUCED,
notes/assumptions/31.md). -/
def State.reqOfTag (s : State) (tag : Nat) : Option T2Req := if tag / 2 ^ 56 % 256 = 0xFF then s.t2req (tag % 2 ^ 48) else none

end Sys2Proof.Machine
end

