-- ==== Sys2Proof/Machine/Isle.lean ====
section
/-! DEFINITION. A compute core's registers, tiles and issue (R255 to R273, R287 to R289), its faults, statistics and
operator counters (R333, R334, R436). Cores are numbered 32 n + c. -/
namespace Sys2Proof.Machine

/-- Core number c. -/
def State.core (s : State) (c : Nat) : Core := mget (fun _ => ({} : Core)) s.isle.cores c
/-- Replace core number c. -/
def State.setCore (s : State) (c : Nat) (k : Core) : State :=
  { s with isle := { s.isle with cores := mset (fun _ => ({} : Core)) s.isle.cores c k } }
/-- Array number i (R6). -/
def State.marr (s : State) (i : Nat) : MArr := mget (fun _ => ({} : MArr)) s.isle.arrays i
/-- Replace array number i. -/
def State.setMarr (s : State) (i : Nat) (a : MArr) : State :=
  { s with isle := { s.isle with arrays := mset (fun _ => ({} : MArr)) s.isle.arrays i a } }
/-- Scheduler of isle n. -/
def State.sched (s : State) (n : Nat) : Sched := mget (fun _ => ({} : Sched)) s.isle.scheds n
/-- Replace the scheduler of isle n. -/
def State.setSched (s : State) (n : Nat) (v : Sched) : State :=
  { s with isle := { s.isle with scheds := mset (fun _ => ({} : Sched)) s.isle.scheds n v } }

/-- A core fault with the parts of its detail field (R288, R289). -/
structure CFault where
  code : Nat
  tile : Nat := 0
  row : Nat := 0
  arr : Nat := 0
  off : Nat := 0
  deriving DecidableEq, Repr

/-- How an instruction of a bundle ends: done, a fault, or it waits, on a dependency of R262 or on busy arrays (R263). -/
inductive IRes
  | ok (s : State)
  | fault (f : CFault)
  | wait (dep : Bool)

/-- Go on when a check holds, else fault. -/
def need (b : Bool) (f : CFault) (k : IRes) : IRes := if b then k else .fault f
/-- Wait while an earlier instruction must still commit or read (R262). -/
def waitIf (b : Bool) (k : IRes) : IRes := if b then .wait true else k
/-- Wait while an instruction in flight must end (R263, R269, R280). -/
def waitBusy (b : Bool) (k : IRes) : IRes := if b then .wait false else k

/-! ## Registers -/

/-- Scalar register i; X0 reads as 0 (R264). -/
def Core.xr (k : Core) (i : Nat) : Nat := if i = 0 then 0 else mget (fun _ => 0) k.x i
/-- Write scalar register i; a write to X0 is discarded (R264). `bad` delivers it with poison set (R416). -/
def Core.setX (k : Core) (i v : Nat) (bad : Bool) : Core :=
  if i = 0 then k else { k with x := mset (fun _ => 0) k.x i (v % 2 ^ 64), xbad := setBit k.xbad i bad }
/-- Vector register i. -/
def Core.vr (k : Core) (i : Nat) : Nat := mget (fun _ => 0) k.v i
/-- Write vector register i. -/
def Core.setV (k : Core) (i v : Nat) (bad : Bool) : Core :=
  { k with v := mset (fun _ => 0) k.v i (v % 2 ^ 512), vbad := setBit k.vbad i bad }
/-- None of the scalar registers is poisoned. -/
def Core.xOk (k : Core) (is : List Nat) : Bool := is.all (fun i => !bit k.xbad i)
/-- Channel scale i. -/
def Core.csr (k : Core) (i : Nat) : Nat := mget (fun _ => 0) k.cs i

/-! ## Tiles (R266 to R273) -/

/-- Configuration word of tile t. -/
def Core.cfgOf (k : Core) (t : Nat) : Nat := mget (fun _ => 0) k.cfg t
/-- Rows of tile t. -/
def Core.tileRows (k : Core) (t : Nat) : Nat := bits (k.cfgOf t) 15 8
/-- Role of tile t: 1 A, 2 W, 3 D, 4 G, 5 S. -/
def Core.role (k : Core) (t : Nat) : Nat := bits (k.cfgOf t) 7 5
/-- Element type of tile t. -/
def Core.ty (k : Core) (t : Nat) : Nat := bits (k.cfgOf t) 4 2
/-- Fill count of tile t. -/
def Core.fillOf (k : Core) (t : Nat) : Nat := mget (fun _ => 0) k.fill t
/-- First tile-file row of tile t (R267). -/
def Core.base (k : Core) (t : Nat) : Nat := (List.range t).foldl (fun n i => n + k.tileRows i) 0
/-- Row i of tile t. -/
def Core.row (k : Core) (t i : Nat) : Nat := mget (fun _ => 0) k.rows (k.base t + i)
/-- Row tag of row i of tile t. -/
def Core.tag (k : Core) (t i : Nat) : Nat := mget (fun _ => 0) k.tags (k.base t + i)
/-- Set the tag of row i of tile t. -/
def Core.setTag (k : Core) (t i v : Nat) : Core := { k with tags := mset (fun _ => 0) k.tags (k.base t + i) v }
/-- Write row i of tile t with its tag: the fill count follows and the cached line goes (R271, R273). -/
def Core.putRow (k : Core) (t i v tag : Nat) : Core :=
  { k with rows := mset (fun _ => 0) k.rows (k.base t + i) (v % 2 ^ 512), tags := mset (fun _ => 0) k.tags (k.base t + i) tag,
           fill := mset (fun _ => 0) k.fill t (max (k.fillOf t) (i + 1)), cache := k.cache.filter (· != k.base t + i) }
/-- Write consecutive rows. -/
def Core.putRows (k : Core) (t : Nat) : Nat → List (Nat × Nat) → Core
  | _, [] => k
  | i, (v, tag) :: rest => Core.putRows (k.putRow t i v tag) t (i + 1) rest
/-- Empty the tiles of a mask, their cached lines with them (R272). -/
def Core.emptyTiles (k : Core) (mask : Nat) : Core :=
  let rows := (bitsOf 8 mask).flatMap (fun t => (List.range (k.tileRows t)).map (k.base t + ·))
  { k with fill := mdrop (fun t => bit mask t) k.fill, cache := k.cache.filter (fun r => !rows.contains r) }
/-- Poison every row of tile t (R287). -/
def Core.poisonTile (k : Core) (t : Nat) : Core :=
  (List.range (k.tileRows t)).foldl (fun k i => k.setTag t i (setBit (k.tag t i) 15 true)) k

/-- Rows a to a + n − 1 of tile t lie below the fill count (R271). -/
def Core.filled (k : Core) (t a n : Nat) : Bool := decide (a + n ≤ k.fillOf t)
/-- No row of the range is poisoned (R271). -/
def Core.clean (k : Core) (t a n : Nat) : Bool := (List.range n).all (fun i => !tagPoison (k.tag t (a + i)))
/-- Rows may be written from row a (R271, R277): inside the tile and not beyond the fill count. -/
def Core.writable (k : Core) (t a n : Nat) : Bool := decide (a + n ≤ k.tileRows t) && decide (a ≤ k.fillOf t)

/-- Operand cache read of row i of tile t (R273): the core and whether it hit. -/
def Core.cacheRead (k : Core) (t i : Nat) : Core × Bool :=
  let r := k.base t + i
  ({ k with cache := (r :: k.cache.filter (· != r)).take 4 }, k.cache.contains r)

/-! ## Array passes in flight -/

/-- Opcode of an array-stream word: 2 ASTR, 3 ASTR.T, 4 AEW. -/
def wOp (w : Nat) : Nat := bits w 27 22
/-- Destination tile of a pass. -/
def Pass.td (p : Pass) : Nat := bits p.w 21 19
/-- Source tile of a pass. -/
def Pass.ts (p : Pass) : Nat := bits p.w 18 16
/-- Array mask of a pass (R276). -/
def Pass.mask (p : Pass) : Nat := if wOp p.w = 4 then bits p.w 15 12 else bits p.w 12 9
/-- Accumulate bit. -/
def Pass.acc (p : Pass) : Bool := wOp p.w != 4 && bit p.w 8
/-- Side tile of a pass. -/
def Pass.side (p : Pass) : Nat := bits p.w 15 13
/-- First source row. -/
def Pass.first (p : Pass) : Nat := bits p.xc 6 0
/-- Rows streamed. -/
def Pass.count (p : Pass) : Nat := bits p.xc 14 8 + 1
/-- First destination row. -/
def Pass.dst (p : Pass) : Nat := bits p.xc 22 16
/-- Destination rows of one streamed row (R282, R303). -/
def Core.perRow (k : Core) (p : Pass) : Nat := if wOp p.w = 4 && k.role p.ts == 4 then 1 else if k.mode = 2 then 16 else 4

/-- A row of tile t in the range is still to be written by a pass (R262). -/
def Core.dstBusy (k : Core) (t a n : Nat) : Bool :=
  k.passes.any (fun p => p.td == t && decide (a < p.dst + p.count * k.perRow p) && decide (p.dst + 16 * p.chunks * k.perRow p < a + n))
/-- Tile t is the source of a pass, or the side tile of a BELL4 source (R299). -/
def Core.reads (k : Core) (p : Pass) (t : Nat) : Bool := p.ts == t || (wOp p.w != 4 && k.ty p.ts == 1 && p.side == t)
/-- A WLD in flight reads rows of tile t in the range (R262, R294). -/
def Core.wldReads (k : Core) (t a n : Nat) : Bool :=
  match k.wld with | some (w, _, _) => bits w 17 15 == t && decide (a < bits w 14 8 + 64) && decide (bits w 14 8 < a + n) | none => false
/-- A row of tile t in the range is still to be streamed by a pass or read by a WLD (R262, R294, R299). -/
def Core.srcBusy (k : Core) (t a n : Nat) : Bool :=
  k.wldReads t a n || k.passes.any (fun p => k.reads p t && decide (a < p.first + p.count) && decide (p.first + 16 * p.chunks < a + n))
/-- A write of rows from row a of tile t must wait: a row is still to be read or written, or an earlier pass still fills
the tile below it (R262, R271). -/
def Core.writeWait (k : Core) (t a n : Nat) : Bool :=
  k.dstBusy t a n || k.srcBusy t a n || (decide (k.fillOf t < a) && k.passes.any (fun p => p.td == t))
/-- A pass or a WLD uses one of the arrays of a mask (R263, R295). -/
def Core.arrBusy (k : Core) (mask : Nat) : Bool :=
  k.passes.any (fun p => p.mask &&& mask != 0) || (match k.wld with | some (w, _, _) => bits w 21 18 &&& mask != 0 | none => false)
/-- Something is in flight. -/
def Core.inFlight (k : Core) : Bool := !k.passes.isEmpty || k.wld.isSome

/-! ## Operator statistics and counters -/

/-- The partition that holds a core's quad, 0xFF for none (R143, R255). -/
def State.partOfCore (s : State) (c : Nat) : Nat := ((List.range 16).find? (fun p => s.objBit (Obj.partQuads p) (c / 4))).getD 0xFF
/-- Update the statistics entry of a core's operator (R333, R334). -/
def State.statQ (s : State) (c : Nat) (q : QSpan) : State :=
  let id := (s.core c).ident
  let o := id % 2 ^ 16
  let i := c / 32 * 1024 + o % 1024
  let esc := q.rows.foldl (fun n r => n + r.esc.length) 0
  let clip := q.rows.foldl (fun n r => n + r.clipped) 0
  let old := mget (fun _ => (none : Option QStat)) s.isle.stats i
  let evict := match old with | some e => e.oper != o | none => false
  let e := match old with | some e => if e.oper = o then e else {} | none => {}
  let e := { e with oper := o, layer := id / 2 ^ 16, max := fMax e.max q.m, esc := sat 0xFFFFFFFF (e.esc + esc),
                    elems := (e.elems + 64 * q.rows.length) % 2 ^ 64, clipped := (e.clipped + clip) % 2 ^ 64 }
  let s := { s with isle := { s.isle with stats := mset (fun _ => (none : Option QStat)) s.isle.stats i (some e) } }
  let s := s.when evict (·.ctr Obj.ctrQStatEvicted)
  let s := (s.addCtr Obj.ctrQClipped clip).addCtr Obj.ctrQEscapes esc
  (s.when q.under (·.ctr Obj.ctrQUnderscaled)).when q.zero (·.ctr Obj.ctrQZeroSpans)
/-- Update the operator counter entry of a core's operator (R436). -/
def State.opCount (s : State) (c : Nat) (f : OpCtr → OpCtr) : State :=
  let id := (s.core c).ident
  let o := id % 2 ^ 16
  let p := s.partOfCore c
  let i := c / 32 * 1024 + o % 1024
  let fresh : OpCtr := { oper := o, layer := 0, part := p, cmds := 0, bundles := 0, steps := 0, rows := 0, wlds := 0, waits := 0 }
  let old := mget (fun _ => (none : Option OpCtr)) s.isle.ops i
  let same := match old with | some e => e.oper == o && e.part == p | none => true
  let e := match old with | some e => if e.oper = o ∧ e.part = p then e else fresh | none => fresh
  let s := s.when (!same) (·.ctr Obj.ctrOpCounterEvicted)
  { s with isle := { s.isle with ops := mset (fun _ => (none : Option OpCtr)) s.isle.ops i (some { f e with layer := id / 2 ^ 16 }) } }

/-! ## Issue and faults -/

/-- The core runs a command and can issue. -/
def State.coreReady (s : State) (c : Nat) : Bool :=
  decide (c < 128) && s.isleOn (c / 32) && !bit s.obs.halted (c / 32) && (s.core c).run == 1 && (s.core c).barrier.isNone && !(s.core c).preempt

/-- After a bundle of n words: the program counter moves past it, and a taken branch takes effect (R260, R261). -/
def State.advance (s : State) (c n : Nat) : State :=
  let k := s.core c
  let s := s.setCore c { k with pc := k.branch.getD ((k.pc + 4 * n) % 2 ^ 22), branch := none, bundle := [], lastAt := s.now }
  (s.opCount c (fun e => { e with bundles := (e.bundles + 1) % 2 ^ 64 })).addLight (0x0940 + c / 4 * 8) 1

/-- The detail field of a core fault record (R289). -/
def CFault.detail (f : CFault) : Nat := f.tile % 8 + f.row % 128 * 16 + f.arr % 16 * 2 ^ 12 + f.off % 2 ^ 22 * 2 ^ 32

/-- The slot armed on a core's quad: 4 p + S. -/
def State.slotOfCore (s : State) (c : Nat) : Option Nat :=
  (s.m.slots.find? (fun e => e.2.armed && bit e.2.quads (c / 4))).map (·.1)
/-- A fault stops the core (R287): passes abandon their chunk and poison their destination, the record goes to the
scheduler and to isle.fault_log, an operator fault counts towards quarantine (R344); what follows is decided at the reset. -/
def State.coreFault (s : State) (c : Nat) (f : CFault) (w pc : Nat) : State :=
  let k := s.core c
  let n := k.passes.length
  let k' := k.passes.foldl (fun k p => k.poisonTile p.td) k
  let k' := { k' with passes := [], wld := none, run := 2, preempt := false, bundle := [], branch := none, barrier := none, loaded := if f.code = 0x0F then 0 else k'.loaded,
                      fault := some (f.code, f.detail, s.now) }
  let s := s.setCore c k'
  let r := encFields false [(1, f.code), (1, c), (2, k.ident / 2 ^ 16), (2, k.ident % 2 ^ 16), (2, 0), (4, pc),
    (4, w), (8, f.detail), (8, s.now)]
  let s := { s with isle := { s.isle with log := keepLast 64 (s.isle.log ++ [r]) } }
  let s := (s.ctr Obj.ctrCoreFaults).addCtr Obj.ctrChunksAbandoned n
  let s := s.when (f.code == 0x0C || f.code == 0x0D) (·.ctr Obj.ctrOperatorFaults)
  let s := if f.code = 0x0F then
      let a := 4 * c + f.arr
      let s := s.ctr Obj.ctrArrayMismatch
      { s with isle := { s.isle with mism := mset (fun _ => 0) s.isle.mism a (sat 65535 (mget (fun _ => 0) s.isle.mism a + 1)) } }
    else s
  let s := if f.code = 0x0C ∨ f.code = 0x0D then (match s.slotOfCore c with | some i => s.opFault (i / 4) (i % 4) | none => s) else s
  s.event Obj.isleFaultLog

/-- A word whose class or opcode R275 and R276 reserve. -/
def reservedWord (w : Nat) : Bool :=
  let c := bits w 30 28; let o := bits w 27 22
  decide (6 ≤ c) || (c == 3 && decide (1 < o)) || (c == 4 && decide (4 < o)) || (c == 5 && decide (1 < o))

/-- A word's class and opcode (R275). -/
def isWord (w cls op : Nat) : Bool := bits w 30 28 == cls && bits w 27 22 == op
/-- Consume registers: a poisoned one raises 0x0E (R416). -/
def Core.useX (k : Core) (is : List Nat) (r : IRes) : IRes := need (k.xOk is) { code := 0x0E } r
/-- Consume vector registers. -/
def Core.useV (k : Core) (is : List Nat) (r : IRes) : IRes := need (is.all (fun i => !bit k.vbad i)) { code := 0x0E } r
/-- An uncorrectable word of a core store or shared SRAM that a core reads (R412, R413, R416). -/
def State.storeEcc (s : State) (c addr : Nat) : State :=
  (s.ctr Obj.ctrEccUncorrectableOther).faultRec 1 0 3 c (s.partOfCore c) 0xFF 0 addr 0
/-- An unstated row tag (notes/assumptions/7.md): every field free within the limits of R271, poison 0. -/
def State.freeTag (s : State) : Nat × State :=
  let r := s.fresh
  (mkTag r.1 false (bit r.1 16) (bit r.1 17) (bit r.1 18) (r.1 / 2 ^ 19 % 5) (toSigned 8 (r.1 / 2 ^ 24)), r.2)
/-- A range of the core store that instructions may address (R265). -/
def storeOk (off n : Nat) : Bool := decide (off + n ≤ 0x3F0000)

/-- A Doze or Off entry that takes quad q is under way (R142). -/
def State.entersAt (s : State) (q : Nat) : Bool := s.res.entering.any (fun e => if e.1 then e.2 == q / 8 else e.2 == q)
/-- A wake reaches quad q (R141): its cores run again; during a Doze or Off entry the wake waits for its end (R142). -/
def State.wakeQuad (s : State) (q : Nat) : State :=
  if s.entersAt q then
    { s with res := { s.res with wakes := if s.res.wakes.contains q then s.res.wakes else s.res.wakes ++ [q] } }
  else { s with res := { s.res with nap := mdrop (fun c => c / 4 == q) s.res.nap, doze := mdrop (· == q) s.res.doze } }

/-- Start a command on a core (R257, R258). The core consumes its request's work record: where a word of it came poisoned, it raises fault 0x0E
(R222, R288). -/
def State.startCmd (s : State) (c : Nat) (m : CoreCmd) : State :=
  let k := s.core c
  let k := { k with run := 1, cur := some m, pc := m.entry % 2 ^ 22, ident := m.layer % 2 ^ 16 * 2 ^ 16 + m.oper % 2 ^ 16,
                    since := s.clk.ticks, bundle := [], branch := none }
  let s := (s.wakeQuad (c / 4)).setCore c ((k.setX 1 m.arg false).setX 2 m.tag false)
  let v := s.sched (c / 32)
  if v.poison.contains m.tag then
    (s.setSched (c / 32) { v with poison := v.poison.filter (· != m.tag) }).coreFault c { code := 0x0E } 0 (m.entry % 2 ^ 22)
  else s

/-- A core can take a command: it is not stopped, its port has room, and no entry of its quad or isle is under way (R142, R257). -/
def State.takesCmd (s : State) (c : Nat) : Bool :=
  !s.entersAt (c / 4) && ((s.core c).run == 0 || ((s.core c).run != 2 && decide ((s.core c).port.length < 4)))
/-- Hand a core a command that it can take: it starts at once on an idle core, else it waits in the port (R257). -/
def State.handCmd (s : State) (c : Nat) (m : CoreCmd) : State :=
  if (s.core c).run = 0 then s.startCmd c m else s.setCore c { s.core c with port := (s.core c).port ++ [m] }
/-- The scheduler gives a core a command; it waits in the scheduler, in order, while the core cannot take it (R257). -/
def State.giveCmd (s : State) (c : Nat) (m : CoreCmd) : State :=
  let n := c / 32
  if s.takesCmd c && !(s.sched n).waiting.any (fun e => e.1 == c) then s.handCmd c m
  else s.setSched n { s.sched n with waiting := (s.sched n).waiting ++ [(c, m)] }
/-- The scheduler hands a core up to `fuel` commands that wait for it, as far as it can take them. -/
def State.refill : Nat → State → Nat → State
  | 0, s, _ => s
  | fuel + 1, s, c =>
    let q := s.sched (c / 32)
    match q.waiting.find? (fun e => e.1 == c) with
    | none => s
    | some e => if s.takesCmd c then State.refill fuel ((s.setSched (c / 32) { q with waiting := q.waiting.erase e }).handCmd c e.2) c else s
/-- The scheduler hands a core the commands that wait for it, while its port has room: one to run and four that wait. -/
def State.refillPort (s : State) (c : Nat) : State := State.refill 5 s c

/-- A command ends (R258): the next one of the port starts. -/
def State.endCmd (s : State) (c : Nat) : State :=
  let k := s.core c
  let s := s.setSched (c / 32) { s.sched (c / 32) with last := s.clk.ticks }
  match k.port with
  | m :: rest => ((s.setCore c { k with port := rest }).startCmd c m).refillPort c
  | [] => (s.setCore c { k with run := 0, cur := none }).refillPort c

/-- An isle's domain powers down: cores, arrays, scheduler, core stores and shared SRAM are lost (R264, R295). -/
def State.loseIsle (s : State) (n : Nat) : State :=
  let s := { s with isle := { s.isle with cores := mdrop (fun c => c / 32 == n) s.isle.cores, arrays := mdrop (fun a => a / 128 == n) s.isle.arrays,
                                          scheds := mdrop (· == n) s.isle.scheds } }
  (s.memLose (isleSram n) 0x1000000).memLose (coreStore (32 * n)) 0x8000000

end Sys2Proof.Machine
end

