-- ==== Sys2Proof/Machine/IsleArray.lean ====
section
/-! DEFINITION. The matrix arrays (R280 to R282, R290 to R311), requantising and statistics (R283, R284, R331) and the
context of a core (R285, R286). -/
namespace Sys2Proof.Machine

/-- Enabled arrays of a core, bit k array k (R5, R6, R9). -/
def State.arrEn (s : State) (c : Nat) : Nat := s.dev.arrayMap / 2 ^ (4 * c) % 16
/-- The modes that a set of enabled arrays supports (R300, R301). -/
def modeOk (mode en : Nat) : Bool :=
  match mode with
  | 0 => en != 0
  | 1 => decide (2 ≤ popCount 4 en)
  | 2 => en == 15
  | 3 => en &&& 3 == 3 || en &&& 12 == 12
  | _ => false
/-- A mask of one pair with both arrays enabled. -/
def pairOk (en mask : Nat) : Bool := (mask == 3 || mask == 12) && en &&& mask == mask
/-- Groups that ASTR, ASTR.T and AEW may name (R300). -/
def groupOk (mode en mask : Nat) : Bool :=
  match mode with
  | 0 => popCount 4 mask == 1 && en &&& mask == mask
  | 1 => mask == en && decide (2 ≤ popCount 4 en)
  | 2 => mask == 15 && en == 15
  | 3 => pairOk en mask
  | _ => false
/-- Masks that WLD may name (R300). -/
def wldOk (mode en mask : Nat) : Bool :=
  match mode with
  | 1 => mask == en && mask != 0
  | 3 => pairOk en mask
  | 0 => mask != 0 && en &&& mask == mask
  | 2 => mask != 0 && en &&& mask == mask
  | _ => false

/-- ACFG (R280): waits until the arrays are free, sets the mode and unloads every array. -/
def acfgWord (core : Nat) (w : W32) (s : State) : IRes :=
  let n := w.toNat
  let mode := bits n 21 19
  let k := s.core core
  waitBusy k.inFlight <|
  need (modeOk mode (s.arrEn core)) { code := 0x0A } <|
  .ok (s.setCore core { k with mode := mode, loaded := 0 })

/-- WLD (R281, R294, R295): takes its 64 rows; its arrays are unloaded until WLD_COMPLETE. -/
def wldWord (core : Nat) (w : W32) (s : State) : IRes :=
  let n := w.toNat
  let mask := bits n 21 18
  let ts := bits n 17 15
  let first := bits n 14 8
  let k := s.core core
  waitBusy (k.arrBusy mask || k.wld.isSome) <|
  waitIf (k.dstBusy ts first 64) <|
  need (wldOk k.mode (s.arrEn core) mask) { code := 0x0A, arr := mask } <|
  need (k.role ts == 2 && k.ty ts == 2) { code := 0x07, tile := ts } <|
  need (decide (first + 64 ≤ k.tileRows ts)) { code := 0x08, tile := ts, row := first } <|
  need (k.filled ts first 64) { code := 0x06, tile := ts, row := first } <|
  need (k.clean ts first 64) { code := 0x0E, tile := ts, row := first } <|
  let rows := (List.range 64).map (fun i => k.row ts (first + i))
  .ok (s.setCore core { k with loaded := k.loaded &&& (15 - mask), wld := some (n, k.pc, rows) })

/-- An array with its checksum column, checksum row and corner (R290, R294, R305). -/
def mkArr (rows : List Nat) : MArr :=
  let ints := rows.map (fun r => (List.range 64).map (fun j => toSigned 8 (elem8 r j)))
  let col := ints.map (fun r => r.foldl (· + ·) 0)
  let row := (List.range 64).map (fun j => ints.foldl (fun a r => a + r.getD j 0) 0)
  { w := rows, col := col, row := row, corner := row.foldl (· + ·) 0 }

/-! ## Context (R285, R286) -/

/-- Rows saved: tile, row. -/
def Core.savedRows (k : Core) : List (Nat × Nat) := (List.range 8).flatMap (fun t => (List.range (k.fillOf t)).map (fun i => (t, i)))
/-- Offset of the saved rows for S rows. -/
def ctxRows (n : Nat) : Nat := ceilDiv (2944 + 4 * n) 64 * 64
/-- The context of a core (R286). -/
def Core.context (k : Core) : Bytes :=
  let rs := k.savedRows
  let n := rs.length
  let p := k.passes.head?
  let head := encFields false [(4, 0x43585431), (2, 1), (2, n), (4, ctxRows n + 64 * n), (4, k.pc), (4, k.ident), (1, k.mode), (1, k.loaded % 16),
    (2, match p with | some p => 2 ^ 15 + p.chunks % 16 * 2 ^ 11 | none => 0),
    (4, match p with | some p => p.w | none => 0), (4, 0), (8, match p with | some p => p.xc | none => 0), (8, (k.cur.map (·.tag)).getD 0), (16, 0)]
  let body := head ++ (List.range 32).flatMap (fun i => le 8 (k.xr i)) ++ (List.range 32).flatMap (fun i => le 64 (k.vr i)) ++
    (List.range 256).flatMap (fun i => le 2 (k.csr i)) ++
    (List.range 8).flatMap (fun t => le 2 (k.cfgOf t) ++ le 1 (k.fillOf t) ++ zeros 5) ++ rs.flatMap (fun e => le 4 (k.tag e.1 e.2))
  padTo (ctxRows n) body ++ rs.flatMap (fun e => le 64 (k.row e.1 e.2))

/-- Save the context once a pre-empted core has drained (R285, R310): every instruction complete but the passes, stopped at a chunk boundary.
Words of a bundle that is not whole have not issued and are fetched again. The context has room for one pass; where two have stopped, the
core keeps the later one itself (DEDUCED, notes/assumptions/135.md). -/
def State.trySave (s : State) (c : Nat) : State :=
  let k := s.core c
  if k.run = 1 ∧ k.preempt ∧ k.wld = none ∧ k.barrier = none ∧ k.passes.all (·.stop) then
    let s := s.memWrite (coreStore c + 0x3F0000) k.context
    let s := (s.ctr Obj.ctrContextSaves).addCtr Obj.ctrAstrPreempted k.passes.length
    s.setCore c { k with run := 3, preempt := false, bundle := [], branch := none }
  else s

/-- PREEMPT_REQUEST (R285): the core stops issuing, drains and saves its context. -/
def execPreemptRequest (core : Nat) (s : State) : Outcome :=
  let k := s.core core
  .next (if decide (core < 128) && s.isleOn (core / 32) && k.run == 1 then (s.setCore core { k with preempt := true }).trySave core else s)

/-- CONTEXT_RESTORE (R285, R286): the context comes back from the save area; a stopped pass resumes from its next
chunk. -/
def execContextRestore (core : Nat) (s : State) : Outcome :=
  let k := s.core core
  let a := coreStore core + 0x3F0000
  .next (
    if decide (core < 128) && s.isleOn (core / 32) && k.run == 3 && s.memLE a 4 == 0x43585431 then
      let rd := fun o n => s.memLE (a + o) n
      let k := { k with cfg := (List.range 8).foldl (fun m t => mset (fun _ => 0) m t (rd (2880 + 8 * t) 2)) [],
                        fill := (List.range 8).foldl (fun m t => mset (fun _ => 0) m t (rd (2882 + 8 * t) 1)) [] }
      let rs := k.savedRows
      let base := ctxRows rs.length
      let k := { k with x := (List.range 32).foldl (fun m i => if i = 0 then m else mset (fun _ => 0) m i (rd (64 + 8 * i) 8)) [],
                        v := (List.range 32).foldl (fun m i => mset (fun _ => 0) m i (rd (320 + 64 * i) 64)) [],
                        cs := (List.range 256).foldl (fun m i => mset (fun _ => 0) m i (rd (2368 + 2 * i) 2)) [],
                        pc := rd 12 4 % 2 ^ 22, ident := rd 16 4, mode := rd 20 1, run := 1, cache := [], since := s.clk.ticks,
                        rows := rs.zipIdx.foldl (fun m e => mset (fun _ => 0) m (k.base e.1.1 + e.1.2) (rd (base + 64 * e.2) 64)) k.rows,
                        tags := rs.zipIdx.foldl (fun m e => mset (fun _ => 0) m (k.base e.1.1 + e.1.2) (rd (2944 + 4 * e.2) 4)) k.tags,
                        passes := (if bit (rd 22 2) 15 then [⟨rd 24 4, (k.passes.head?.map (·.pc)).getD (rd 12 4), rd 32 8, bits (rd 22 2) 14 11, false⟩] else []) ++
                          (k.passes.drop 1).map (fun p => { p with stop := false }) }
      (s.setCore core k).ctr Obj.ctrContextRestores
    else s)

/-! ## Passes -/

/-- An error in a cell of an array: a weight, the checksum column, the checksum row or the corner (R290). -/
def MArr.upset (a : MArr) (u : Upset) : MArr :=
  if u.row < 64 ∧ u.col < 64 then
    let r := a.w.getD u.row 0
    { a with w := setAt a.w u.row (packBits 8 ((List.range 64).map (fun j =>
        if j = u.col then ofSigned 8 (toSigned 8 (elem8 r j) + u.diff) else elem8 r j))) }
  else if u.row < 64 then { a with col := setAt a.col u.row (a.col.getD u.row 0 + u.diff) }
  else if u.col < 64 then { a with row := setAt a.row u.col (a.row.getD u.col 0 + u.diff) }
  else { a with corner := a.corner + u.diff }
/-- Errors come over the cells of a core's arrays. -/
def State.upsetCells (s : State) (core : Nat) (us : List Upset) : State :=
  s.each (us.filter (·.cell)) (fun s u => s.setMarr (4 * core + u.arr) ((s.marr (4 * core + u.arr)).upset u))
/-- The load check of R305: the sum of the checksum column against the corner. -/
def MArr.loadOk (a : MArr) : Bool := a.col.foldl (· + ·) 0 == a.corner
/-- WLD_COMPLETE (R294, R305): the 65th cycle. The rows and checksums stand in every array of the mask, `upsets` the errors in their cells;
each array is checked, and where all pass they count as loaded. -/
def execWldComplete (core : Nat) (upsets : List Upset) (s : State) : Outcome :=
  let k := s.core core
  .next (match k.wld with
  | none => s
  | some (w, pc, rows) =>
    if bit s.obs.halted (core / 32) then s else
    let mask := bits w 21 18
    let s := s.each (bitsOf 4 mask) (fun s i => s.setMarr (4 * core + i) (mkArr rows))
    let s := s.upsetCells core (upsets.filter (fun u => bit mask u.arr))
    match (bitsOf 4 mask).find? (fun i => !(s.marr (4 * core + i)).loadOk) with
    | some i => (s.setCore core { k with wld := none }).coreFault core { code := 0x0F, arr := i } w pc
    | none =>
      let s := (s.setCore core { k with wld := none, loaded := k.loaded ||| mask }).ctr Obj.ctrWld
      (s.opCount core (fun e => { e with wlds := (e.wlds + 1) % 2 ^ 64 })).trySave core)

/-- Issue of ASTR, ASTR.T and AEW (R281, R282, R296, R302, R303). -/
def State.stream (s : State) (core : Nat) (w : Nat) (k : Core) : IRes :=
  let aew := wOp w == 4
  let xr := if aew then bits w 11 7 else bits w 7 3
  k.useX [xr] <|
  let p : Pass := ⟨w, k.pc, k.xr xr, 0, false⟩
  let per := k.perRow p
  let bell := !aew && k.ty p.ts == 1
  let g := aew && k.role p.ts == 4
  waitBusy (k.arrBusy p.mask) <|
  waitIf (k.dstBusy p.ts p.first p.count || (bell && k.dstBusy p.side p.first p.count) || k.writeWait p.td p.dst (per * p.count)) <|
  need (groupOk k.mode (s.arrEn core) p.mask && !(k.mode == 2 && wOp w != 2)) { code := 0x0A, arr := p.mask } <|
  need ((k.role p.ts == 1 || (g && k.ty p.ts == 4)) && k.role p.td == 3 && (!bell || k.role p.side == 5)) { code := 0x07, tile := p.ts } <|
  need (decide (p.first + p.count ≤ k.tileRows p.ts) && (!bell || decide (p.first + p.count ≤ k.tileRows p.side)))
    { code := 0x08, tile := p.ts, row := p.first } <|
  need (decide (p.dst + per * p.count ≤ k.tileRows p.td) && (p.acc || decide (p.dst ≤ k.fillOf p.td))) { code := 0x08, tile := p.td, row := p.dst } <|
  need (k.filled p.ts p.first p.count && (!bell || k.filled p.side p.first p.count)) { code := 0x06, tile := p.ts, row := p.first } <|
  need (!p.acc || k.filled p.td p.dst (per * p.count)) { code := 0x06, tile := p.td, row := p.dst } <|
  need (k.loaded &&& p.mask == p.mask) { code := 0x0B, arr := p.mask } <|
  need (k.clean p.ts p.first p.count) { code := 0x0E, tile := p.ts, row := p.first } <|
  need (!p.acc || k.clean p.td p.dst (per * p.count)) { code := 0x0E, tile := p.td, row := p.dst } <|
  .ok (s.setCore core { k with passes := k.passes ++ [p], progress := 0 })

/-- ASTR (R282, R296). -/
def astrWord (core : Nat) (w : W32) (s : State) : IRes :=
  s.stream core w.toNat (s.core core)
/-- ASTR.T (R302). -/
def astrTWord (core : Nat) (w : W32) (s : State) : IRes :=
  s.stream core w.toNat (s.core core)
/-- AEW (R303). -/
def aewWord (core : Nat) (w : W32) (s : State) : IRes :=
  s.stream core w.toNat (s.core core)

/-- Outputs of one row on one array (R292, R302, R303): `op` is the opcode, the last of 65 the checksum output of ASTR
and ASTR.T. -/
def arrOut (op : Nat) (a : MArr) (g : Bool) (ty row : Nat) : List Int :=
  if op = 4 then
    let xs := if g then (List.range 16).map (fun i => toSigned 16 (elem32 row i)) else rowInts ty row
    xs.zipIdx.map (fun e => e.1 * toSigned 8 (elem8 (a.w.getD e.2 0) e.2))
  else
    let xs := rowInts ty row
    let dot (ws : List Int) : Int := (xs.zip ws).foldl (fun s e => s + e.1 * e.2) 0
    if op = 2 then
      (List.range 64).map (fun j => dot (a.w.map (fun r => toSigned 8 (elem8 r j)))) ++ [dot a.col]
    else a.w.map (fun r => dot ((List.range 64).map (fun i => toSigned 8 (elem8 r i)))) ++ [dot a.row]

/-- Write one row's sums to its destination rows (R296, R298, R329). -/
def Core.putSums (k : Core) (p : Pass) (tag d : Nat) (sums : List Int) : Core :=
  (List.range (ceilDiv sums.length 16)).foldl (fun k i =>
    let r := d + i
    let xs := (sums.drop (16 * i)).take 16
    if p.acc then
      let old := k.row p.td r
      k.putRow p.td r (packBits 32 (xs.zipIdx.map (fun e => ofSigned 32 (toSigned 32 (elem32 old e.2) + e.1)))) (k.tag p.td r)
    else k.putRow p.td r (packBits 32 (xs.map (ofSigned 32))) (mkTag (tagScale tag) false false false false 0 (tagZero tag))) k

/-- The 65 outputs of streamed row n on array `arr` of a core, with the errors in them. -/
def State.rowOut (s : State) (core : Nat) (p : Pass) (k : Core) (us : List Upset) (n arr : Nat) : List Int :=
  let g := wOp p.w == 4 && k.role p.ts == 4
  (us.filter (fun u => !u.cell && u.arr == arr && u.row == n)).foldl (fun o u => setAt o u.col (o.getD u.col 0 + u.diff))
    (arrOut (wOp p.w) (s.marr (4 * core + arr)) g (k.ty p.ts) (k.row p.ts (p.first + n)))
/-- The checksum compare of a row (R306): output 64 against the sum of outputs 0 to 63. -/
def rowOk (outs : List Int) : Bool := (outs.take 64).foldl (· + ·) 0 == outs.getD 64 0
/-- The arrays of a group that take streamed row n (R296, R300): all of them in fan mode, else the one at position n mod m. -/
def takers (fan : Bool) (arrs : List Nat) (n : Nat) : List Nat := if fan then arrs else [arrs.getD (n % arrs.length) 0]

/-- ASTR_CHUNK_COMMIT (R297, R306 to R310): the next chunk of the pass on a group of arrays leaves the sum path, every row of ASTR and ASTR.T
compared on every array that takes it; `upsets` are the errors in the arrays' cells, there from now on, and in the outputs of the chunk. -/
def execAstrChunkCommit (core mask : Nat) (upsets : List Upset) (s : State) : Outcome :=
  let k := s.core core
  .next (match k.passes.find? (fun p => p.mask == mask && !p.stop) with
  | none => s
  | some p =>
    if bit s.obs.halted (core / 32) || k.run == 2 then s else
    let arrs := bitsOf 4 mask
    let fan := k.mode == 2
    let m := if fan then 1 else arrs.length
    let op := wOp p.w
    let g := op == 4 && k.role p.ts == 4
    let lo := 16 * p.chunks
    let hi := min p.count (lo + 16)
    let per := k.perRow p
    let s := s.upsetCells core (upsets.filter (fun u => bit mask u.arr))
    let bad := ((List.range (hi - lo)).flatMap (fun i => (takers fan arrs (lo + i)).map (fun x => (lo + i, x)))).find?
      (fun (e : Nat × Nat) => op != 4 && !rowOk (s.rowOut core p k upsets e.1 e.2))
    match bad with
    | some (n, x) => s.coreFault core { code := 0x0F, tile := p.td, row := p.dst + per * n, arr := x } p.w p.pc
    | none =>
      let r := (List.range (hi - lo)).foldl (fun (a : Core × Nat) i =>
        let n := lo + i
        let c := a.1.cacheRead p.ts (p.first + n)
        let outs := (takers fan arrs n).flatMap (fun x => (s.rowOut core p k upsets n x).take (if g then 16 else 64))
        (c.1.putSums p (k.tag p.ts (p.first + n)) (p.dst + per * n) outs, a.2 + b2n c.2)) (k, 0)
      let steps := (ceilDiv hi m - ceilDiv lo m) * (if g then 16 else stepsOf (k.ty p.ts))
      let p' := { p with chunks := p.chunks + 1, stop := k.preempt }
      let done := hi == p.count
      let k' := { r.1 with passes := if done then k.passes.erase p else k.passes.map (fun x => if x == p then p' else x), progress := p'.chunks }
      let s := s.setCore core k'
      let s := ((s.addCtr Obj.ctrOpcacheHits r.2).addCtr Obj.ctrOpcacheMisses (hi - lo - r.2)).addCtr Obj.ctrAstrRows (hi - lo)
      (s.opCount core (fun e => { e with steps := (e.steps + steps) % 2 ^ 64, rows := (e.rows + (hi - lo)) % 2 ^ 64 })).trySave core)

/-! ## RQ and RSTAT (R283, R284, R331) -/

/-- The value of one output before it goes to its destination (R331). -/
def rqValue (d : Int) (corr : Option Int) (tag cs : Nat) (relu : Bool) : Nat :=
  let a := match corr with | some c => d - tagZero tag * c | none => d
  let y := fMul (fMul (fOfInt a) (bfWiden (tagScale tag))) (bfWiden cs)
  if relu && fNeg y then 0 else y

/-- RQ (R283, R318, R331). -/
def rqWord (core : Nat) (w : W32) (s : State) : IRes :=
  let n := w.toNat
  let td := bits n 21 19
  let ts := bits n 18 16
  let side := bits n 15 13
  let xc := bits n 12 8
  let xq := bits n 7 3
  let k := s.core core
  k.useX [xc, xq] <|
  let c := k.xr xc
  let q := k.xr xq
  let first := bits c 6 0
  let count := bits c 14 8 + 1
  let dst := bits c 22 16
  let cs := bits c 31 24
  let ct := bits c 34 32
  let corr := bit c 35
  let g := count / 4
  let toA := k.role td == 1
  let ty := k.ty td
  let bell := toA && ty == 1
  let rows := if toA then g else if ty = 3 then 2 * g else 4 * g
  waitIf (k.dstBusy ts first count || (corr && k.dstBusy ct 0 (4 * g)) || k.writeWait td dst rows || (bell && k.writeWait side dst rows)) <|
  need (k.role ts == 3 && (toA || (k.role td == 4 && (ty == 3 || ty == 5))) && (!bell || k.role side == 5) &&
    (!corr || (k.role ct == 4 && k.ty ct == 4)) && count % 4 == 0) { code := 0x07, tile := td } <|
  need (decide (first + count ≤ k.tileRows ts)) { code := 0x08, tile := ts, row := first } <|
  need (k.writable td dst rows && (!bell || k.writable side dst rows)) { code := 0x08, tile := td, row := dst } <|
  need (!corr || decide (4 * g ≤ k.tileRows ct)) { code := 0x08, tile := ct } <|
  need (k.filled ts first count) { code := 0x06, tile := ts, row := first } <|
  need (!corr || k.filled ct 0 (4 * g)) { code := 0x06, tile := ct } <|
  need (decide (cs + 64 * g ≤ 256)) { code := 0x10, row := cs } <|
  need (k.clean ts first count && (!corr || k.clean ct 0 (4 * g))) { code := 0x0E, tile := ts, row := first } <|
  let js := List.range (64 * g)
  need (js.all (fun j => bfFinite (k.csr (cs + j))) && (List.range g).all (fun i => bfFinite (tagScale (k.tag ts (first + 4 * i)))) &&
    (!toA || (bfFinite (bits q 31 16) && bfFinite (bits q 15 0)))) { code := 0x0C, tile := ts, row := first } <|
  let ys := js.map (fun j => rqValue (toSigned 32 (elem32 (k.row ts (first + j / 16)) (j % 16)))
    (if corr then some (toSigned 32 (elem32 (k.row ct (j / 16)) (j % 16))) else none) (k.tag ts (first + j / 64 * 4)) (k.csr (cs + j)) (bit n 2))
  need (ys.all fFinite && (toA || ty != 3 || ys.all (fun y => bfFinite (bfRound y)))) { code := 0x0D, tile := ts, row := first } <|
  if toA then
    let qs := quantise ty (bits q 31 16) (bits q 15 0) ys
    let k' := k.putRows td dst (qs.rows.map (fun r => (r.pack ty, qs.tag r)))
    let ks := if bell then qs.rows.zipIdx.foldl (fun a e => let f := a.2.freeTag; (a.1.putRow side (dst + e.2) (qs.side e.1) f.1, f.2)) (k', s)
      else (k', s)
    .ok ((ks.2.setCore core ks.1).statQ core qs)
  else
    let vals := if ty = 3 then ys.map bfRound else ys
    let per := if ty = 3 then 32 else 16
    let ks := (List.range rows).foldl (fun a i =>
      let f := a.2.freeTag
      (a.1.putRow td (dst + i) (packBits (512 / per) ((vals.drop (per * i)).take per)) f.1, f.2)) (k, s)
    .ok (ks.2.setCore core ks.1)

/-- The largest decoded magnitude of a row (R284), FP32. -/
def rowMax (role ty row tag : Nat) : Nat :=
  let vals : List Nat :=
    if role = 1 then (rowInts ty row).map (fun v => fMul (fOfInt (if ty = 1 then v else v - tagZero tag)) (bfWiden (tagScale tag)))
    else if ty = 3 then (List.range 32).map (fun j => bfWiden (elem16 row j))
    else if ty = 4 then (List.range 16).map (fun j => fOfInt (toSigned 32 (elem32 row j)))
    else (List.range 16).map (fun j => elem32 row j)
  vals.foldl (fun m v => fMax m (fAbs v)) 0

/-- RSTAT (R284). -/
def rstatWord (core : Nat) (w : W32) (s : State) : IRes :=
  let n := w.toNat
  let ts := bits n 21 19
  let xd := bits n 18 14
  let xc := bits n 13 9
  let k := s.core core
  k.useX [xc] <|
  let first := bits (k.xr xc) 6 0
  let count := bits (k.xr xc) 14 8 + 1
  let role := k.role ts
  waitIf (k.dstBusy ts first count) <|
  need (role == 1 || role == 3 || role == 4) { code := 0x07, tile := ts } <|
  need (decide (first + count ≤ k.tileRows ts)) { code := 0x08, tile := ts, row := first } <|
  need (k.filled ts first count) { code := 0x06, tile := ts, row := first } <|
  need (k.clean ts first count) { code := 0x0E, tile := ts, row := first } <|
  let is := (List.range count).map (first + ·)
  let m := is.foldl (fun m i => fMax m (rowMax role (k.ty ts) (k.row ts i) (k.tag ts i))) 0
  let esc := is.foldl (fun a i => a + bits (k.tag ts i) 11 9) 0
  let zeroed := is.countP (fun i => bit (k.tag ts i) 14)
  let under := is.countP (fun i => bit (k.tag ts i) 13)
  .ok (s.setCore core (k.setX xd (bfRound m * 2 ^ 48 + sat 65535 esc * 2 ^ 32 + zeroed * 2 ^ 16 + under) false))

end Sys2Proof.Machine
end

