-- ==== Sys2Proof/Machine/IsleTile.lean ====
section
/-! DEFINITION. Tile configuration and tile moves (R266 to R272, R274, R277 to R279): TCFG, TREL, CSLD, the TLD forms and
TST. -/
namespace Sys2Proof.Machine

/-- The eight configuration words of a TCFG (R266). -/
def tcfgWords (xa xb : Nat) : List Nat := (List.range 8).map (fun t => (if t < 4 then xa / 2 ^ (16 * t) else xb / 2 ^ (16 * (t - 4))) % 2 ^ 16)
/-- Element types permitted for a role (R268). -/
def typeOk (role ty : Nat) : Bool :=
  match role with
  | 0 => ty == 0
  | 1 => decide (ty ≤ 2)
  | 2 => ty == 2
  | 3 => ty == 4
  | 4 => ty == 3 || ty == 4 || ty == 5
  | 5 => ty == 6
  | _ => false
/-- The first word of a list that fails a test, with the fault that names its tile. -/
def tcfgFail (ws : List Nat) (ok : Nat → Bool) (code : Nat) : Option CFault :=
  (ws.findIdx? (fun w => !ok w)).map (fun t => { code := code, tile := t })
/-- The fault of the first failed check of R268, if any. -/
def tcfgCheck (ws : List Nat) : Option CFault :=
  (tcfgFail ws (fun w => bits w 1 0 == 0 && decide (bits w 7 5 ≤ 5) && bits w 4 2 != 7) 0x01) <|>
  (tcfgFail ws (fun w => decide (bits w 15 8 ≤ 128)) 0x03) <|>
  (if 768 < ws.foldl (fun n w => n + bits w 15 8) 0 then some { code := 0x02 } else none) <|>
  (tcfgFail ws (fun w => if bits w 7 5 = 0 then bits w 15 8 == 0 && bits w 4 2 == 0 else bits w 15 8 != 0) 0x04) <|>
  (tcfgFail ws (fun w => typeOk (bits w 7 5) (bits w 4 2)) 0x05)

/-- TCFG (R268, R269): waits until nothing is in flight, then applies the words, empties every tile and the cache. -/
def tcfgWord (core : Nat) (w : W32) (s : State) : IRes :=
  let n := w.toNat
  let k := s.core core
  k.useX [bits n 21 17, bits n 16 12] <| waitBusy k.inFlight <|
  let ws := tcfgWords (k.xr (bits n 21 17)) (k.xr (bits n 16 12))
  match tcfgCheck ws with
  | some f => .fault f
  | none => .ok (s.setCore core { k with cfg := (ws.zipIdx).foldl (fun m e => mset (fun _ => 0) m e.2 e.1) [], fill := [], cache := [] })

/-- TREL (R272): waits for the instructions in flight that use its tiles, then empties them. -/
def trelWord (core : Nat) (w : W32) (s : State) : IRes :=
  let n := w.toNat
  let mask := bits n 21 14
  let k := s.core core
  waitIf (k.passes.any (fun p => bit mask p.td || (bitsOf 8 mask).any (k.reads p)) ||
    (match k.wld with | some (v, _, _) => bit mask (bits v 17 15) | none => false)) <|
  .ok (s.setCore core (k.emptyTiles mask))

/-- CSLD (R274): channel scales from the core store. -/
def csldWord (core : Nat) (w : W32) (s : State) : IRes :=
  let n := w.toNat
  let first := bits n 21 14
  let count := bits n 8 1 + 1
  let k := s.core core
  k.useX [bits n 13 9] <|
  let off := k.xr (bits n 13 9) % 2 ^ 22
  need (storeOk off (2 * count)) { code := 0x09, off := off } <|
  need (decide (first + count ≤ 256)) { code := 0x10, row := first } <|
  .ok (s.setCore core { k with cs := (List.range count).foldl (fun m i =>
    mset (fun _ => 0) m (first + i) (s.memLE (coreStore core + off + 2 * i) 2)) k.cs })

/-! ## TLD and TST (R276 to R279) -/

/-- Operands of a TLD or TST word with its Xa. -/
structure TileMove where
  t : Nat
  first : Nat
  conv : Nat
  tr : Bool
  side : Nat
  off : Nat
  count : Nat
  deriving DecidableEq, Repr
/-- Read the operands (R276). -/
def tileMove (w xa : Nat) : TileMove :=
  { t := bits w 21 19, first := bits w 13 7, conv := bits w 6 5, tr := bit w 4, side := bits w 3 1, off := xa % 2 ^ 22, count := bits xa 30 24 + 1 }

/-- Transpose one block of 64 rows of 8-bit elements (R278). -/
def transpose64 (rows : List Nat) : List Nat := (List.range 64).map (fun j => packBits 8 (rows.map (fun r => elem8 r j)))
/-- Transpose rows in blocks of 64; `fuel` bounds the blocks. -/
def transposeAll : Nat → List Nat → List Nat
  | 0, _ => []
  | n + 1, rows => if rows.isEmpty then [] else transpose64 (rows.take 64) ++ transposeAll n (rows.drop 64)
/-- The .T option's own conditions (R278). -/
def TileMove.trOk (m : TileMove) : Bool := !m.tr || (m.count % 64 == 0 && m.first % 64 == 0)
/-- Whether row i of the destination comes from an uncorrectable row (R416): transposed, any row of its block. -/
def TileMove.bad (m : TileMove) (ecc : List Nat) (i : Nat) : Bool :=
  if m.tr then ecc.any (fun e => e / 64 == i / 64 && decide (e < m.count)) else ecc.contains i

/-- A TLD that copies or converts row by row: `width` bytes a row, `conv` from a core store row to a tile row, `ok` the
destination that the form permits (R277). -/
def State.loadRows (s : State) (core : Nat) (w : W32) (width : Nat) (conv : Nat → Nat) (ok : Core → TileMove → Bool)
    (ecc : List Nat) (k : Core) : IRes :=
  let n := w.toNat
  k.useX [bits n 18 14] <|
  let m := tileMove n (k.xr (bits n 18 14))
  waitIf (k.writeWait m.t m.first m.count) <|
  need (ok k m && m.trOk) { code := 0x07, tile := m.t } <|
  need (k.writable m.t m.first m.count) { code := 0x08, tile := m.t, row := m.first } <|
  need (m.off % 64 == 0 && storeOk m.off (width * m.count)) { code := 0x09, off := m.off } <|
  let a := coreStore core + m.off
  let rows := (List.range m.count).map (fun i => conv (s.memLE (a + width * i) width))
  let rows := if m.tr then transposeAll 2 rows else rows
  let bad := ecc.filter (fun e => decide (e < m.count))
  let s := s.each bad (fun s e => s.storeEcc core (a + width * e))
  .ok (s.setCore core (k.putRows m.t m.first (rows.zipIdx.map (fun e => (e.1, setBit plainTag 15 (m.bad bad e.2))))))

/-- TLD without conversion (R277). -/
def tldWord (core : Nat) (w : W32) (eccRows : List Nat) (s : State) : IRes :=
  s.loadRows core w 64 id (fun k m => !m.tr || k.ty m.t == 2) eccRows (s.core core)

/-- Expand a row of 64 BELL4 codes to INT8 lattice values (R277). -/
def expandRow (row : Nat) : Nat := packBits 8 ((List.range 64).map (fun j => ofSigned 8 (bellVal (elem4 row j))))
/-- TLD.CV expand (R277). -/
def tldCvExpandWord (core : Nat) (w : W32) (eccRows : List Nat) (s : State) : IRes :=
  s.loadRows core w 32 expandRow (fun k m => k.role m.t == 2 && k.ty m.t == 2) eccRows (s.core core)

/-- Widen a row of 64 INT4 elements (R277). -/
def widenRow (row : Nat) : Nat := packBits 8 ((List.range 64).map (fun j => ofSigned 8 (toSigned 4 (elem4 row j))))
/-- TLD.CV widen (R277). -/
def tldCvWidenWord (core : Nat) (w : W32) (eccRows : List Nat) (s : State) : IRes :=
  s.loadRows core w 32 widenRow (fun k m => (k.role m.t == 1 || k.role m.t == 2) && k.ty m.t == 2) eccRows (s.core core)

/-- The side rows of a span with tags that the spec does not state, from row `first` of tile t (R322). -/
def State.putSides (s : State) (k : Core) (q : QSpan) (t first : Nat) : Core × State :=
  q.rows.zipIdx.foldl (fun a e => let f := a.2.freeTag; (a.1.putRow t (first + e.2) (q.side e.1) f.1, f.2)) (k, s)

/-- TLD.CV quantise (R277, R279, R319 to R322). -/
def tldCvQuantiseWord (core : Nat) (w : W32) (eccRows : List Nat) (s : State) : IRes :=
  let n := w.toNat
  let xa := bits n 18 14
  let k := s.core core
  k.useX [xa, xa + 1] <|
  let m := tileMove n (k.xr xa)
  let cl := k.xr (xa + 1)
  let ty := k.ty m.t
  let bell := ty == 1
  waitIf (k.writeWait m.t m.first m.count || (bell && k.writeWait m.side m.first m.count)) <|
  need (!m.tr && k.role m.t == 1 && decide (ty ≤ 2) && (!bell || k.role m.side == 5)) { code := 0x07, tile := m.t } <|
  need (k.writable m.t m.first m.count) { code := 0x08, tile := m.t, row := m.first } <|
  need (!bell || k.writable m.side m.first m.count) { code := 0x08, tile := m.side, row := m.first } <|
  need (m.off % 64 == 0 && storeOk m.off (128 * m.count)) { code := 0x09, off := m.off } <|
  need (bfFinite (bits cl 31 16) && bfFinite (bits cl 15 0)) { code := 0x0C, tile := m.t } <|
  let a := coreStore core + m.off
  let xs := (List.range (64 * m.count)).map (fun i => s.memLE (a + 2 * i) 2)
  need (xs.all bfFinite) { code := 0x0D, tile := m.t, off := m.off } <|
  let q := quantise ty (bits cl 31 16) (bits cl 15 0) (xs.map bfWiden)
  let bad := eccRows.filter (fun e => decide (e < m.count))
  let s := s.each bad (fun s e => s.storeEcc core (a + 128 * e))
  let k' := k.putRows m.t m.first (q.rows.map (fun r => (r.pack ty, setBit (q.tag r) 15 (!bad.isEmpty))))
  let ks := if bell then s.putSides k' q m.side m.first else (k', s)
  .ok ((ks.2.setCore core ks.1).statQ core q)

/-- TST (R277, R278): tile rows to the core store. -/
def tstWord (core : Nat) (w : W32) (s : State) : IRes :=
  let n := w.toNat
  let k := s.core core
  k.useX [bits n 18 14] <|
  let m := tileMove n (k.xr (bits n 18 14))
  waitIf (k.dstBusy m.t m.first m.count) <|
  need (k.filled m.t m.first m.count) { code := 0x06, tile := m.t, row := m.first } <|
  need (m.trOk && (!m.tr || k.ty m.t == 2)) { code := 0x07, tile := m.t } <|
  need (m.off % 64 == 0 && storeOk m.off (64 * m.count)) { code := 0x09, off := m.off } <|
  need (k.clean m.t m.first m.count) { code := 0x0E, tile := m.t, row := m.first } <|
  let rows := (List.range m.count).map (fun i => k.row m.t (m.first + i))
  let rows := if m.tr then transposeAll 2 rows else rows
  .ok (s.memWrite (coreStore core + m.off) (rows.flatMap (le 64)))

end Sys2Proof.Machine
end

