-- ==== Sys2Proof/Machine/Models.lean ====
section
/-! DEFINITION. Models (spec/12): regions, loads, arming, unloads, swaps, and the outstanding table with its tier-2
requests and results (R341 to R359). Slots are numbered 4 p + S, work queues 64 + 16 n + p. -/
namespace Sys2Proof.Machine

/-! ## Regions (R349) -/

/-- A write of hbm.apply: the state, and an abort code or 0 (R349). -/
def State.hbmApply (s : State) : State × Nat :=
  let r := s.obj Obj.hbmSel
  let new : Region := { base := s.obj Obj.hbmBase, size := s.obj Obj.hbmSize, holder := s.obj Obj.hbmHolder, epoch := 0 }
  let old := s.region r
  let lo := new.base
  let hi := new.base + new.size * mib
  if new.holder = 0xFF then
    -- a revoke: the staged base and size are not judged (DEDUCED, notes/assumptions/32.md)
    if old.holder = 0xFF then (s, 0)
    else if s.heldBySlot r then (s, 0xC332)
    else (s.setRegion r { base := 0, size := 0, holder := 0xFF, epoch := (old.epoch + 1) % 2 ^ 32 }, 0)
  else if lo % (2 * mib) ≠ 0 ∨ new.size % 2 ≠ 0 ∨ 0x1800000000 ≤ lo ∨ lo / 0x600000000 * 0x600000000 + reserveOff < hi then (s, 0xC330)
  else if (List.range 64).any (fun i => i != r && (s.region i).holder != 0xFF &&
      decide (lo < (s.region i).base + (s.region i).size * mib) && decide ((s.region i).base < hi)) then (s, 0xC331)
  else
    let same := old.base == new.base && old.size == new.size && old.holder == new.holder
    if same then (s, 0)
    else if s.heldBySlot r then (s, 0xC332)
    else (s.setRegion r { new with epoch := (old.epoch + 1) % 2 ^ 32 }, 0)

/-- The stack that holds a region. -/
def Region.stack (g : Region) : Nat := g.base / 0x600000000
/-- A region's bytes can be reached: granted and its stack reachable. -/
def State.regionUp (s : State) (r : Nat) : Bool := (s.region r).holder != 0xFF && s.stackUp (s.region r).stack && s.domain 1

/-! ## Outstanding requests (R353) -/

/-- Outstanding requests of a slot. -/
def State.outOf (s : State) (p n : Nat) : Nat := s.m.out2.countP (fun r => r.part == p && r.slot == n)
/-- Free the table's entry of a sequence. -/
def State.freeReq (s : State) (seq : Nat) : State :=
  let rs := s.m.out2.filter (fun r => r.seq != seq)
  { s with m := { s.m with out2 := rs } }
/-- Replace the table's entry of a sequence. -/
def State.setReq (s : State) (seq : Nat) (r : T2Req) : State :=
  let rs := s.m.out2.map (fun q => if q.seq = seq then r else q)
  { s with m := { s.m with out2 := rs } }
/-- Clear the tier-2 requested bit of a key's entry, unless the key has gone or its lock is in effect (R353). -/
def State.clearT2 (s : State) (k : FlowKey) : State :=
  match s.findKey k with
  | none => s
  | some i => if s.locked (s.entry i) then s else s.setEntry i { s.entry i with t2req := false }
/-- Withdraw a request (R353); the work record of one that has not been sent yet is rewound (R220). -/
def State.withdraw (s : State) (r : T2Req) : State :=
  (((s.freeReq r.seq).clearT2 r.key).ctr Obj.ctrT2Withdrawn).when (!r.sent) (·.ctr Obj.ctrQueueRewinds)
/-- The flow record that a work record is made of failed its check: the record is rewound, there is no request, and the flow's next frame tries
again (R220; spec/07, when events coincide). -/
def State.rewindRecord (s : State) (seq : Nat) : State :=
  match s.t2req seq with
  | none => s
  | some r => ((s.freeReq seq).clearT2 r.key).ctr Obj.ctrQueueRewinds
/-- Withdraw the requests that satisfy `f`. -/
def State.withdrawAll (s : State) (f : T2Req → Bool) : State := s.each (s.m.out2.filter f) State.withdraw

/-- Where a slot's work goes (R377). -/
def State.remapOf (s : State) (p n : Nat) : Remap := mget (fun _ => ({} : Remap)) s.pool.remap (4 * p + n)
/-- Set where a slot's work goes; a change raises the event of pool.remap_table. -/
def State.setRemap (s : State) (p n : Nat) (v : Remap) : State :=
  if s.remapOf p n = v then s
  else ({ s with pool := { s.pool with remap := mset (fun _ => ({} : Remap)) s.pool.remap (4 * p + n) v } } : State).event Obj.poolRemapTable
/-- The isle of a slot's quads. -/
def State.slotIsle (s : State) (p n : Nat) : Option Nat := (bitsOf 32 (s.slot p n).quads).head?.map (· / 8)
/-- Work credits held for queue w (0 to 63) of device d. -/
def State.credit (s : State) (d w : Nat) : Nat := mget (fun _ => 0) s.pool.credits (64 * d + w)
/-- Set the credits held. -/
def State.setCredit (s : State) (d w v : Nat) : State :=
  { s with pool := { s.pool with credits := mset (fun _ => 0) s.pool.credits (64 * d + w) v } }
/-- The target's work queue with a credit: the lowest of those of the partition there (R368; the origin does not know
the target slot's isle: DESIGN CHOICE, notes/assumptions/33.md). -/
def State.creditQueue (s : State) (d part : Nat) : Option Nat :=
  ((List.range 4).map (fun n => 16 * n + part)).find? (fun w => decide (0 < s.credit d w))

/-- Whether a new request of slot n of partition p can go now, and its counter where it cannot (R226, R351, R368). -/
def State.t2Room (s : State) (p n : Nat) : Option Nat :=
  let m := s.remapOf p n
  if 16384 ≤ s.m.out2.length then some Obj.ctrT2TableFull
  else if m.kind = 2 then (if (s.creditQueue m.unit m.part).isSome then none else some Obj.ctrWorkDeferred)
  else
    let t := if m.kind = 1 then m.slot else n
    let w := 64 + 16 * (s.slotIsle p t).getD 0 + p
    if (s.queue w).high then some Obj.ctrWorkDeferred else none

/-- The vector of a key on slot n of partition p as 224 bytes (R351, R352), and how many expressions saturated. -/
def State.vectorOf (s : State) (p n : Nat) (k : FlowKey) (i : Nat) (r : Rec) : Bytes × Nat :=
  let u := s.slot p n
  let f := features (catalogue k r s.now (some { s.entry i with verdict := s.applied (s.entry i) })) u.exprs
  (padTo 224 (u.inputs.flatMap (fun j => le 2 (featBf j (f.1.getD j 0)))), f.2)
/-- A work record's 256 bytes (R352). -/
def workRecord (p n flags epoch origin seq time v : Nat) (vec : Bytes) : Bytes :=
  encFields false [(1, 1), (1, p), (1, n), (1, flags), (4, epoch), (8, origin * 2 ^ 56 + seq % 2 ^ 48), (8, time), (2, v), (6, 0)] ++ vec

/-- Reverse each field of a byte string, given the fields' widths: between the order of memory and that of straits (R14). -/
def flipFields : List Nat → Bytes → Bytes
  | [], b => b
  | n :: ns, b => (b.take n).reverse ++ flipFields ns (b.drop n)
/-- Widths of a work record's fields and elements (R352). -/
def workFields : List Nat := [1, 1, 1, 1, 4, 8, 8, 2, 6] ++ List.replicate 112 2
/-- Widths of a result record's fields (R354). -/
def resultFields : List Nat := [1, 1, 1, 1, 4, 8, 4, 1, 43]
/-- A work queue has room for a record. -/
def State.workRoom (s : State) (w : Nat) : Bool := decide ((s.queue w).depth + 4 ≤ s.qCap w)
/-- A formed record that has not gone yet goes where its slot's work goes, once there is a credit (R368, R376) or room (R226): it waits until then.
On a strait its fields are in network order (R14). -/
def State.postWork (s : State) (r : T2Req) : State :=
  let m := s.remapOf r.part r.slot
  if r.sent ∨ r.record = [] then s
  else if m.kind = 2 then
    match s.creditQueue m.unit m.part with
    | none => s
    | some w =>
      let s := (s.setCredit m.unit w (s.credit m.unit w - 1)).setReq r.seq { r with sent := true }
      let env := be 1 m.part ++ be 1 m.slot ++ zeros 6 ++ (s.slot r.part r.slot).digest.take 24
      (s.sendPacket 1 0x10 m.unit (env ++ flipFields workFields r.record.flatten)).ctr Obj.ctrPoolWorkSent
  else
    let w := 64 + 16 * (s.slotIsle r.part (if m.kind = 1 then m.slot else r.slot)).getD 0 + r.part
    if s.workRoom w then (s.setReq r.seq { r with sent := true }).pushPacket w r.record else s
/-- What waits for room or credits goes as far as it can: this device's records in the order of their requests, then those of peers (R226). -/
def State.flushWork (s : State) : State :=
  let s := s.each s.m.out2 State.postWork
  let ws := s.m.waiting
  let s := { s with m := { s.m with waiting := [] } }
  s.each ws (fun s e => if s.workRoom e.1 then s.pushPacket e.1 e.2 else { s with m := { s.m with waiting := s.m.waiting ++ [e] } })
/-- Form a request's record and send it (R351, R352, R376, R377). -/
def State.sendWork (s : State) (r : T2Req) (vec : Bytes) : State :=
  let m := s.remapOf r.part r.slot
  let v := (s.slot r.part r.slot).inputs.length
  let t := if m.kind = 1 then m.slot else r.slot
  let b := if m.kind = 2 then workRecord m.part m.slot (r.flags + 2) r.epoch s.self r.seq r.time v vec
    else workRecord r.part t r.flags r.epoch 0xFF r.seq r.time v vec
  let r := { r with record := toWords 4 b, fence := if m.kind = 2 then r.fence else (s.slot r.part t).fence }
  (s.setReq r.seq r).postWork r

/-- Slot i's record is valid and can be reached (R239). -/
def State.recUp (s : State) (i : Nat) : Bool := (s.recOf i).isSome && s.stackUp (recStack i)
/-- Form the vector of a request once its record's update has completed (R351); a record that is no longer valid or reachable
withdraws it (R239; DEDUCED, notes/assumptions/35.md). -/
def State.formVector (s : State) (seq : Nat) : State :=
  match s.t2req seq with
  | none => s
  | some r =>
    match s.findKey r.key with
    | none => s.withdraw r
    | some i => match (s.recOf i).filter (fun _ => s.stackUp (recStack i)) with
      | none => s.withdraw r
      | some rc =>
        let v := s.vectorOf r.part r.slot r.key i rc
        (s.addCtr Obj.ctrExprSaturated v.2).sendWork r v.1

/-- The slot that new work records of partition p name (R401): part.t2_active, or its partner while that serves. -/
def State.serving (s : State) (p : Nat) : Nat := match s.rotOf p with | some r => r.serving | none => s.obj (Obj.partT2Active p)
/-- The slot that serves, if tier-2 requests can be made for it (R351, R358, R377, R428). -/
def State.t2Slot (s : State) (p : Nat) : Option Nat :=
  let a := s.obj (Obj.partT2Active p)
  let n := s.serving p
  if a < 4 ∧ s.slotState p a = 4 ∧ s.obj (Obj.partSwapState p) ≠ 2 ∧ (s.remapOf p n).kind ≠ 3 ∧ s.obj (Obj.partRecoveryState p) < 2
    then some n else none

/-- Whether the verdict cycle of a hit on slot i makes a request (R351, R359): the tier-2 slot and whether it is a
re-evaluation. `total` is frames total with this frame. -/
def State.t2Due (s : State) (i total : Nat) : Option (Nat × Bool) :=
  let e := s.entry i
  let p := e.key.part
  match s.t2Slot p with
  | none => none
  | some n =>
    let again := s.obj (Obj.partReeval p) == 1 && e.tier == 2 && e.epoch != s.obj (Obj.partEpoch p)
    if e.tier ≤ 2 ∧ e.pinned = false ∧ s.locked e = false ∧ s.obj (Obj.partK p) ≤ total ∧ (e.t2req = false ∨ again) ∧
      s.m.out2.all (fun r => decide (r.key ≠ e.key)) ∧ s.recUp i then some (n, again) else none

/-- Make a request (R351): the state and its sequence, if there was room for it. -/
def State.t2Make (s : State) (i n : Nat) (again : Bool) (time : Nat) : State × Option Nat :=
  let e := s.entry i
  let p := e.key.part
  match s.t2Room p n with
  | some c => (s.ctr c, none)
  | none =>
    let r : T2Req := { seq := s.m.nextSeq, key := e.key, index := i, part := p, slot := n, epoch := s.obj (Obj.partEpoch p), time := time,
                       deadline := s.clk.ticks + usT (s.obj (Obj.partT2Timeout p)), flags := b2n again,
                       fence := (s.slot p n).fence, record := [], sent := false }
    let s := s.setEntry i { e with t2req := true }
    let s := { s with m := { s.m with out2 := s.m.out2 ++ [r], nextSeq := (s.m.nextSeq + 1) % 2 ^ 48 } }
    let s := ((s.ctr Obj.ctrT2Requests).partLight p 13).when again (·.ctr Obj.ctrReevalRequests)
    (s, some r.seq)

/-- A request can be issued again (R377, R427, R429): not re-issued before, its record valid, its slot in use. -/
def State.canReissue (s : State) (r : T2Req) : Bool :=
  let st := s.slotState r.part r.slot
  !bit r.flags 2 && ((s.findKey r.key).any s.recUp) && (s.remapOf r.part r.slot).kind != 3 &&
  (st == 4 || st == 5 || st == 3 && s.serving r.part == r.slot) &&
  (s.t2Room r.part r.slot).isNone
/-- Issue a freed request again (R422, R427): a new identifier, flag [2], its own epoch. -/
def State.addReissue (s : State) (r : T2Req) : State :=
  let q := { r with seq := s.m.nextSeq, flags := r.flags + 4, record := [], sent := false,
                    deadline := s.clk.ticks + usT (s.obj (Obj.partT2Timeout r.part)), fence := (s.slot r.part r.slot).fence }
  let s := { s with m := { s.m with out2 := s.m.out2 ++ [q], nextSeq := (s.m.nextSeq + 1) % 2 ^ 48 } }
  let s := match s.findKey r.key with
    | some i => if s.locked (s.entry i) then s else s.setEntry i { s.entry i with t2req := true }
    | none => s
  (s.ctr Obj.ctrRequestsReissued).formVector q.seq
/-- Withdraw a request that failed and issue it again where that can be (R353, R425, R427); answers whether it was. -/
def State.reissue (s : State) (r : T2Req) : State × Bool :=
  let t := s.withdraw r
  if t.canReissue r then (t.addReissue r, true) else (t, false)

/-! ## Arming (R341 step 6, R345, R346) -/

/-- The bytes of a slot's bundle: its region's, or those received of a peer's replica. -/
def State.slotBytes (s : State) (p n : Nat) (region : Option Nat) : Bytes :=
  match region with
  | some r => let b := (s.region r).base; s.memRead b (bundleLen (s.memRead b 64))
  | none => mget (fun _ => ([] : Bytes)) s.pool.stream (4 * p + n)

/-- The core of core position k of a set of quads (R9). -/
def coreAt (quads k : Nat) : Nat := 4 * (bitsOf 32 quads).getD (k / 4) 0 + k % 4

/-- The 64 INT8 rows of a block as WLD takes them (R277, R339). -/
def blockRows (ty : Nat) (w : Bytes) : List Nat :=
  (List.range 64).map (fun i =>
    if ty = 2 then leAt w (64 * i) 64
    else let r := leAt w (32 * i) 32
         if ty = 1 then packBits 8 ((List.range 64).map (fun j => ofSigned 8 (bellVal (elem4 r j))))
         else packBits 8 ((List.range 64).map (fun j => ofSigned 8 (toSigned 4 (elem4 r j)))))
/-- The bytes of the record of block number b in a weights section; `fuel` bounds the search. -/
def blockRecord (b : Nat) : Nat → Bytes → Option Bytes
  | 0, _ => none
  | fuel + 1, w =>
    if w.isEmpty then none
    else
      let n := 80 + (if byteAt w 6 = 2 then 4096 else 2048)
      if leAt w 0 2 = b then some (w.take n) else blockRecord b fuel (w.drop n)

/-- Load a block's channel scales: output j of array k takes CS 64 k + j (R326; DESIGN CHOICE, notes/assumptions/36.md). -/
def blockScales (r : Bytes) (arr : Nat) (cs : List (Nat × Nat)) : List (Nat × Nat) :=
  (List.range 64).foldl (fun a j => mset (fun _ => 0) a (64 * arr + j) (channelScale (leAt r 8 2) (byteAt r (16 + j)))) cs
/-- Arm one block on a core of a mode and mask: its channel scales are loaded (R326); a pinned block's weights go into its arrays (R300), those
of a streamed one of rung 1 or 2 to the core store or the shared SRAM (R346). -/
def State.armBlock (s : State) (quads : Nat) (pos : List (Nat × Nat)) (weights : Bytes) (m : BlockPlace) : State :=
  match blockRecord m.block 65537 weights with
  | none => s
  | some r =>
    let c := coreAt quads m.core
    let k := s.core c
    let w := r.drop 80
    let k := { k with cs := blockScales r m.arr k.cs }
    if m.pinned then
      let at_ := pos.getD m.core (0, 0)
      let g := bitsOf 4 (arrGroup at_.1 at_.2 m.arr)
      (s.each g (fun s i => s.setMarr (4 * c + i) (mkArr (blockRows (byteAt r 6) w)))).setCore c
        { k with loaded := g.foldl (fun l i => setBit l i true) k.loaded }
    else
      let s := s.setCore c k
      if m.rung = 1 then s.memWrite (coreStore c + m.local_) w
      else if m.rung = 2 then s.memWrite (isleSram (c / 32) + m.local_) w
      else s

/-- Write a block's escape copy (R323): lattice values, transposed for a block read by ASTR.T. -/
def State.armEscape (s : State) (quads : Nat) (weights : Bytes) (e : Nat × Nat × Nat) : State :=
  match blockRecord e.1 65537 weights with
  | none => s
  | some r =>
    let rows := blockRows (byteAt r 6) (r.drop 80)
    let rows := if byteAt r 7 = 1 then transpose64 rows else rows
    s.memWrite (coreStore (coreAt quads e.2.1) + e.2.2) (rows.flatMap (le 64))

/-- The block address table (R346): for each block, in placement order, its local address with its rung in the top byte, 8 bytes
(DESIGN CHOICE, notes/assumptions/131.md). -/
def Placing.tableBytes (pl : Placing) : Bytes := pl.blocks.flatMap (fun m => le 8 (m.rung * 2 ^ 56 + m.local_))

/-- Arm a slot on its quads (R341 step 6). -/
def State.armSlot (s : State) (p n : Nat) : State :=
  let u := s.slot p n
  match u.place with
  | none => s.setSlot p n { u with armed := true, arming := false }
  | some pl =>
    let b := s.slotBytes p n u.region
    let w := secBytes b 6
    let s := match u.region with | some r => s.movedStack (s.region r).stack b.length | none => s
    let s := s.each pl.positions.zipIdx (fun s (e : (Nat × Nat) × Nat) =>
      let c := coreAt u.quads e.2
      (s.setCore c { s.core c with mode := e.1.1, loaded := 0 }).memWrite (coreStore c + pl.table) pl.tableBytes)
    let s := s.each pl.progs (fun s e => s.memWrite (coreStore (coreAt u.quads e.1) + e.2.1) e.2.2)
    let s := s.each pl.escs (fun s e => s.armEscape u.quads w e)
    let s := s.each pl.blocks (fun s m => s.armBlock u.quads pl.positions w m)
    let s := s.each (bitsOf 32 u.quads) State.wakeQuad
    s.setSlot p n { u with armed := true, arming := false }

/-! ### The ladder (R346; what stands where within a core store is a DESIGN CHOICE, notes/assumptions/131.md) -/

/-- First byte of a core store's save area (R265). -/
def coreTop : Nat := 0x3F0000
/-- The lowest place for n bytes among ranges in use, below a limit. -/
def firstFit (used : List (Nat × Nat)) (n top : Nat) : Option Nat :=
  let cs := (0 :: used.map (fun u => u.1 + u.2)).filter (fun c => decide (c + n ≤ top) && used.all (fun u => decide (c + n ≤ u.1) || decide (u.1 + u.2 ≤ c)))
  cs.foldl (fun (m : Option Nat) c => some (match m with | some x => min x c | none => c)) none
/-- The ranges of isle n's shared SRAM that other slots' blocks take. -/
def State.sramUsed (s : State) (p m n : Nat) : List (Nat × Nat) :=
  (List.range 64).flatMap (fun i =>
    if i = 4 * p + m ∨ s.slotIsle (i / 4) (i % 4) ≠ some n then []
    else match (s.slot (i / 4) (i % 4)).place with
      | some pl => (pl.blocks.filter (fun b => !b.pinned && b.rung == 2)).map (fun b => (b.local_, b.size))
      | none => [])
/-- Where a core position's escape copies begin: above its program and the block address table. -/
def Placing.escBase (pl : Placing) (k : Nat) : Nat :=
  ceilDiv ((pl.progs.filter (fun x => x.1 == k)).foldl (fun m x => max m (x.2.1 + x.2.2.length)) (pl.table + 8 * pl.blocks.length)) 64 * 64
/-- Where a core position's streamed blocks begin: above its escape copies (R346). -/
def Placing.blockBase (pl : Placing) (k : Nat) : Nat := pl.escBase k + 4096 * pl.blocks.countP (fun m => m.core == k)
/-- The escape copies (R323): one for each block, on its core, in placement order. -/
def Placing.escapes (pl : Placing) : List (Nat × Nat × Nat) :=
  pl.blocks.zipIdx.map (fun (e : BlockPlace × Nat) =>
    (e.1.block, e.1.core, pl.escBase e.1.core + 4096 * (pl.blocks.take e.2).countP (fun m => m.core == e.1.core)))
/-- A streamed block goes to the highest rung that has room: the core store, the shared SRAM, the slot's region, the peer. The ranges in use are
by core position, and 0xFFFF for the shared SRAM. -/
def Placing.rung (pl : Placing) (base : Option Nat) (used : List (Nat × Nat × Nat)) (m : BlockPlace) : BlockPlace :=
  let at_ := (used.filter (fun u => u.1 == m.core)).foldl (fun a u => max a (u.2.1 + u.2.2)) (pl.blockBase m.core)
  if m.pinned then { m with rung := 0, local_ := m.arr }
  else if at_ + m.size ≤ coreTop then { m with rung := 1, local_ := at_ }
  else match firstFit ((used.filter (fun u => u.1 == 0xFFFF)).map (·.2)) m.size 0x1000000, base with
    | some a, _ => { m with rung := 2, local_ := a }
    | none, some b => { m with rung := 3, local_ := b + m.off }
    | none, none => { m with rung := 4, local_ := m.off }
/-- Place the blocks on the ladder in placement order; `base` is the bundle's address in the slot's region, none for a peer's. None where the
programs, the table and the escape copies have no room. -/
def State.ladder (s : State) (p n isle : Nat) (base : Option Nat) (pl : Placing) : Option Placing :=
  if pl.positions.zipIdx.any (fun (e : (Nat × Nat) × Nat) => decide (coreTop < pl.blockBase e.2)) then none
  else
    let sram := (s.sramUsed p n isle).map (fun u => (0xFFFF, u.1, u.2))
    let r := pl.blocks.foldl (fun (a : List BlockPlace × List (Nat × Nat × Nat)) m =>
      let m := pl.rung base a.2 m
      let use := if m.pinned then [] else if m.rung = 1 then [(m.core, m.local_, m.size)] else if m.rung = 2 then [(0xFFFF, m.local_, m.size)] else []
      (a.1 ++ [m], a.2 ++ use)) ([], sram)
    some { pl with blocks := r.1, escs := pl.escapes }

/-- The cores of a set of quads. -/
def quadCores (quads : Nat) : List Nat := (bitsOf 32 quads).flatMap (fun q => (List.range 4).map (4 * q + ·))
/-- Disarm a slot: its arrays are unloaded (R343, R426). -/
def State.disarm (s : State) (p n : Nat) : State :=
  let u := s.slot p n
  if u.armed then (s.each (quadCores u.quads) (fun s c => s.setCore c { s.core c with loaded := 0 })).setSlot p n { u with armed := false } else s

/-- Blocks on rungs 0 to 4 (R346). -/
def Slot.rungs (u : Slot) : List Nat :=
  (List.range 5).map (fun r => match u.place with | some pl => pl.blocks.countP (fun b => if b.pinned then r == 0 else b.rung == r) | none => 0)
/-- Residency code of a slot (R346). -/
def Slot.residency (u : Slot) : Nat :=
  match u.place with | some pl => if pl.blocks.all (·.pinned) then 1 else 2 | none => 0

/-! ## Locks on peers' replicas (R364, R374, R375) -/

/-- A replica lock request to a holder; status 1 releases the lock (DESIGN CHOICE, notes/assumptions/37.md). -/
def State.sendLock (s : State) (holder entry epoch status : Nat) : State :=
  s.sendPacket 0 0x07 holder (be 1 entry ++ zeros 1 ++ be 2 epoch ++ be 1 status ++ zeros 3)
/-- A segment request for up to 1,008 bytes (R364, R374; one segment at a time: DESIGN CHOICE, notes/assumptions/38.md). -/
def State.sendSegReq (s : State) (holder entry epoch off len : Nat) : State :=
  s.sendPacket 0 0x22 holder (be 1 entry ++ zeros 1 ++ be 2 epoch ++ be 8 off ++ be 4 (min 1008 len))
/-- The lock that a slot holds on a peer's replica: holder, entry, epoch once granted. -/
def State.slotLockOf (s : State) (i : Nat) : Option (Nat × Nat × Option Nat) :=
  mget (fun _ => (none : Option (Nat × Nat × Option Nat))) s.pool.slotLock i
/-- Replace the lock of a slot. -/
def State.setSlotLock (s : State) (i : Nat) (v : Option (Nat × Nat × Option Nat)) : State :=
  { s with pool := { s.pool with slotLock := mset (fun _ => (none : Option (Nat × Nat × Option Nat))) s.pool.slotLock i v } }
/-- Release the lock of a slot. -/
def State.releaseLock (s : State) (p n : Nat) : State :=
  let s := match s.slotLockOf (4 * p + n) with | some (h, e, ep) => s.sendLock h e (ep.getD 0) 1 | none => s
  let st := mset (fun _ => ([] : Bytes)) s.pool.stream (4 * p + n) []
  { (s.setSlotLock (4 * p + n) none) with pool := { (s.setSlotLock (4 * p + n) none).pool with stream := st } }

/-- Swap progress of a partition. -/
def State.partSw (s : State) (p : Nat) : Part := mget (fun _ => ({} : Part)) s.m.parts p
/-- Replace it. -/
def State.setPartSw (s : State) (p : Nat) (v : Part) : State :=
  { s with m := { s.m with parts := mset (fun _ => ({} : Part)) s.m.parts p v } }

/-! ## Emptying a slot (R343, R344) -/

/-- A slot becomes Empty: disarmed, fenced, its requests withdrawn, its rungs, region and pair freed; a slot named by
part.t1_slot keeps its ensemble, and with it the region the nodes stand in, until that object changes, unless the region's contents are out of
reach or lost (R342, R343, R345). A swap's gap whose Staged slot goes ends (R358). -/
def State.emptySlot (s : State) (p n : Nat) : State :=
  let s := s.withdrawAll (fun r => r.part == p && r.slot == n)
  let s := s.disarm p n
  let u := s.slot p n
  let keep := u.ens != 0 && s.obj (Obj.partT1Slot p) == n && !u.lost && (match u.region with | some r => s.regionUp r | none => false)
  let v : Slot := if keep then { region := u.region, len := u.len, ens := u.ens, ensLen := u.ensLen, ensDigest := u.ensDigest,
                                 exprs := u.exprs, fence := u.fence + 1, kept := true }
    else { fence := u.fence + 1 }
  let s := ((s.setSlot p n v).pruneEns).dropPair (64 + 4 * p + n)
  let s := (s.releaseLock p n).setRemap p n {}
  let s := s.setObj (Obj.partSlotFormat p n) 0
  let s := s.when (s.obj (Obj.partT2Active p) == n) (·.setEv (Obj.partT2Active p) 0xFE)
  let s := s.setSlotState p n 0
  let w := s.partSw p
  if w.gap = some n ∧ w.drain.isNone then (s.setPartSw p { w with gap := none }).setEv (Obj.partSwapState p) 0 else s
/-- part.t1_slot no longer names a slot: a kept ensemble goes (R343). -/
def State.dropKept (s : State) (p n : Nat) : State :=
  let u := s.slot p n
  if n < 4 ∧ u.kept then (s.setSlot p n { ({} : Slot) with fence := u.fence, load := u.load, lquads := u.lquads, prev := u.prev }).pruneEns else s
/-- PD-HBM has gone down: the ensembles' sections and the slots' regions have lost their contents (R33, R129, R345). -/
def State.loseSections (s : State) : State :=
  let us := s.m.slots.map (fun e => (e.1, if e.2.kept then { ({} : Slot) with fence := e.2.fence, load := e.2.load, lquads := e.2.lquads, prev := e.2.prev }
    else { e.2 with ens := 0, lost := e.2.region.isSome }))
  ({ s with m := { s.m with slots := us.foldl (fun m e => mset (fun _ => ({} : Slot)) m e.1 e.2) [] } } : State).pruneEns

/-! ## Loads (R341) -/

/-- Quads named in part.slotS.quads are acceptable for a load of q quads (R341). -/
def State.quadsOk (s : State) (p n : Nat) (q : Option Nat) : Bool :=
  let m := s.obj (Obj.partSlotQuads p n)
  let act := s.obj (Obj.partT2Active p)
  (match q with | some q => popCount 32 m == q | none => true) &&
  (List.range 4).any (fun i => m &&& 2 ^ (8 * i) * 255 == m) && m &&& s.obj (Obj.partQuads p) == m &&
  (List.range 4).all (fun i => i == n || i == act || s.slotState p i == 0 || ((s.slot p i).quads ||| (s.slot p i).lquads) &&& m == 0)
/-- Quads that a bundle needs: 0 without a tier-2 graph; none while its header cannot be read. -/
def quadsNeeded (b : Bytes) (room : Nat) : Option Nat :=
  if bundleHeadOk b room then some (if hasSec b 4 then byteAt (secBytes b 4) 1 else 0) else none

/-- A write of part.slotS.load (R341, R374): the state, and an abort code or 0. -/
def State.slotLoadWrite (s : State) (p n v : Nat) : State × Nat :=
  let peer := decide (0x100 ≤ v)
  let e := s.reg (v - 0x100)
  let g := s.region v
  if 64 ≤ v ∧ !(decide (0x100 ≤ v) && decide (v < 0x200)) then (s, 0xC006)
  else if s.slotState p n ≠ 0 ∧ s.slotState p n ≠ 3 then (s, 0xC804)
  else if peer && !(e.kind == 1 && e.holder != s.self && s.member e.holder && !s.isMgmt e.holder && s.obj Obj.compatState != 2) then (s, 0xC805)
  else if !peer && g.holder != p && g.holder != 0xF0 then (s, 0xC805)
  else if !s.quadsOk p n (if peer || !s.regionUp v then none else quadsNeeded (s.slotBytes p n (some v)) (g.size * mib)) then (s, 0xC808)
  else
    let q := s.obj (Obj.partSlotQuads p n)
    let s := (s.setObj (Obj.partSlotLoad p n) v).setSlot p n { s.slot p n with load := some v, lquads := q, prev := s.slotState p n }
    let s := s.when peer (fun s => (s.setSlotLock (4 * p + n) (some (e.holder, v - 0x100, none))).sendLock e.holder (v - 0x100) 0 0)
    -- a load addressed to an isle that is Off powers it up (R141)
    let s := match (bitsOf 32 q).head? with
      | some i => if s.domain (2 + i / 8) then s else { s with res := { s.res with needIsle := setBit s.res.needIsle (i / 8) true } }
      | none => s
    (s.setSlotState p n 1, 0)

/-- A load ends with a non-zero status (R341): the slot is Empty, or keeps what it held where the status says that the
isle firmware pair or the placement refuses it (R9, R111). -/
def State.loadFail (s : State) (p n st : Nat) : State :=
  let u := s.slot p n
  let s := (s.setObj Obj.modelLoadRefused ((s.obj Obj.modelLoadRefused + 1) % 2 ^ 64)).setEv (Obj.partSlotLoadStatus p n) st
  let s := s.setSlot p n { u with load := none, lquads := 0 }
  if u.prev = 3 ∧ (st = 3 ∨ st = 4) then s.setSlotState p n 3 else s.emptySlot p n

/-- The placement matches the enabled arrays of the quads (R9, R35, R300): every core position lies on the slot's quads, every block on an array
of its position's mask, and the arrays of no two pinned blocks meet. -/
def State.placeOk (s : State) (quads : Nat) (pl : Placing) (cmds : List (Nat × CoreCmd)) : Bool :=
  let en := fun k => s.arrEn (coreAt quads k)
  let grp := fun (b : BlockPlace) => let m := pl.positions.getD b.core (0, 0); arrGroup m.1 m.2 b.arr
  decide (pl.positions.length ≤ 4 * popCount 32 quads) && cmds.all (fun e => decide (e.1 < pl.positions.length)) &&
  pl.positions.zipIdx.all (fun (e : (Nat × Nat) × Nat) => let a := en e.2
    e.1.2 &&& a == e.1.2 && modeOk e.1.1 a && (e.1.1 != 1 || e.1.2 == a) && (e.1.1 != 2 || e.1.2 == 15) &&
    (e.1.1 != 3 || e.1.2 == 3 || e.1.2 == 12 || e.1.2 == 15)) &&
  pl.blocks.all (fun b => match pl.positions[b.core]? with | some m => bit m.2 b.arr | none => false) &&
  pl.blocks.all (fun b => !b.pinned || pl.blocks.countP (fun c => c.pinned && c.core == b.core && grp c &&& grp b != 0) == 1)

/-- A load that has passed every check (R341 steps 5 and 6); `pair` are the outcome and the images of its compatibility decision (R113). -/
def State.loadAccept (s : State) (p n : Nat) (b : Bytes) (pl : Option Placing) (pair : Nat × Nat × Nat) : State :=
  let u := s.slot p n
  let peer := decide (0x100 ≤ u.load.getD 0)
  let base := (s.region (u.load.getD 0)).base
  let es := bundleSec b 2
  let dig := match es with | some e => e.digest | none => []
  let t2 := hasSec b 4
  let reg := if peer then none else u.load
  let pr := if peer then some (u.load.getD 0 - 0x100) else none
  let e1 := match es with | some e => base + e.off | none => 0
  let e2 := match es with | some e => e.len | none => 0
  let v : Slot := { region := reg, peer := pr, len := bundleLen b, digest := bundleDigest b, quads := u.lquads,
                    ens := e1, ensLen := e2, ensDigest := dig, exprs := secBytes b 3, tier2 := t2,
                    kind := byteAt (secBytes b 4) 0, inputs := if t2 then inputMap b else [], vmap := secBytes b 11, compat := recTrim (secBytes b 1),
                    sums := secBytes b 7, cal := secBytes b 8, place := pl, cmds := if t2 then graphCmds b else [], cost := if t2 then Config.commandCost (bundleDigest b) else 0,
                    fence := u.fence }
  let s := s.disarm p n
  let s := (s.setSlot p n v).when es.isSome (·.pinEns (secBytes b 2) dig)
  let s := s.pruneEns.setPair (64 + 4 * p + n) (min pair.1 1) pair.2.1 pair.2.2
  let s := s.setObj (Obj.partSlotFormat p n) (recVersion (secBytes b 1))
  let s := s.setObj Obj.modelLoads ((s.obj Obj.modelLoads + 1) % 2 ^ 64)
  let s := s.setEv (Obj.partSlotLoadStatus p n) 0
  let a := s.obj (Obj.partT2Active p)
  if a < 4 ∧ a ≠ n ∧ (s.slot p a).quads &&& v.quads ≠ 0 then s.setSlotState p n 2
  else (s.armSlot p n).setSlotState p n 3

/-- A running load ends (R341); `err` is what the stack reports of the bundle's bursts (R348): bytes that fail their check are of no use, and the
load ends as where a digest differs (DEDUCED, notes/assumptions/132.md). A load whose isle is Off, fenced or unpowered waits for it or ends
(R141, R423). -/
def State.loadComplete (s : State) (p n : Nat) (err : Bursts) : State :=
  let u := s.slot p n
  match u.load with
  | none => s
  | some v =>
    let peer := decide (0x100 ≤ v)
    let isle := (bitsOf 32 u.lquads).head?.map (· / 8)
    let b := s.slotBytes p n (if peer then none else some v)
    let room := if peer then 2 ^ 30 else (s.region v).size * mib
    if s.slotState p n ≠ 1 ∨ s.netOn = false then s
    else if !peer && !s.regionUp v then (s.ctr Obj.ctrAddrRefused).loadFail p n 8
    else if (match isle with | some i => s.objBit Obj.faultIslesFenced i | none => false) then s.loadFail p n 8
    else if (match isle with | some i => !s.isleOn i | none => false) then
      { s with res := { s.res with needIsle := setBit s.res.needIsle (isle.getD 0) true } }
    else if peer && b.length < (s.reg (v - 0x100)).len then s
    else
    let s := if peer then s else (s.movedStack (s.region v).stack b.length).stackErrs (s.region v).stack p (s.region v).base err
    if !bundleHeadOk b room then s.loadFail p n 2
    else if (!peer && err.failed) || !bundleDigestsOk b then s.loadFail p n 1
    else
      let s := s.extend 5 (p * 256 + n) (bundleDigest b)
      -- step 2 has no record to decide by where the bundle holds none (DEDUCED, notes/assumptions/77.md)
      let y := recTrim (secBytes b 1)
      let x := s.isleRecord.getD []
      let r := if hasSec b 1 ∧ s.isleRecord.isSome then s.measurePair x y else (s, 2)
      let s := r.1
      if !hasSec b 1 then s.loadFail p n 2
      else if r.2 = 2 then s.loadFail p n 3
      else
        let st := sectionStatus b
        let pair := (r.2, imageCode x, imageCode y)
        if st ≠ 0 then s.loadFail p n st
        else if peer && hasSec b 2 then s.loadFail p n 10
        else if !hasSec b 4 then s.loadAccept p n b none pair
        else
          let pl := (placingOf b).getD { positions := [], blocks := [] }
          if popCount 32 u.lquads ≠ byteAt (secBytes b 4) 1 ∨ s.placeOk u.lquads pl (graphCmds b) = false then s.loadFail p n 4
          else match s.ladder p n (isle.getD 0) (if peer then none else some (s.region v).base) pl with
            | none => s.loadFail p n 6
            | some pl => s.loadAccept p n b (some pl) pair

/-- A write of 1 to part.slotS.unload (R343): the state, and an abort code or 0. -/
def State.slotUnloadWrite (s : State) (p n v : Nat) : State × Nat :=
  let st := s.slotState p n
  if v = 0 ∨ st = 0 then (s, 0)
  else if st = 1 ∨ st = 4 ∨ st = 5 then (s, 0xC809)
  else (s.emptySlot p n, 0)

/-! ## Swaps (R355 to R358) -/

/-- A swap (R356): the new slots and drain-then-load; the state, and an abort code or 0. A swap while another drains answers 0xC807
whatever the slot's state (DEDUCED, notes/assumptions/78.md). -/
def State.swap (s : State) (p t2 t1 : Nat) (gap : Bool) : State × Nat :=
  let ok := fun v => decide (v < 4) || v == 0xFE || v == 0xFF
  let old := s.obj (Obj.partT2Active p)
  let new := if t2 = 0xFF then old else t2
  let changes := t2 != 0xFF && new != old
  if !ok t2 || !ok t1 then (s, 0xC006)
  else if s.obj (Obj.partSwapState p) ≠ 0 then (s, 0xC807)
  else if t2 < 4 ∧ s.slotState p t2 ≠ (if gap then 2 else 3) then (s, 0xC806)
  else
    let s := s.setEv (Obj.partEpoch p) ((s.obj (Obj.partEpoch p) + 1) % 2 ^ 32)
    -- the tier-1 slot
    let o1 := s.obj (Obj.partT1Slot p)
    let n1 := if t1 = 0xFF then o1 else if t1 = 0xFE then 0xFF else t1
    let s := s.setObj (Obj.partT1Slot p) n1
    let s := s.when (n1 != o1) (·.dropKept p o1)
    -- the tier-2 slot
    if !changes then (s, 0)
    else
      let s := s.setEv (Obj.partT2Active p) new
      let drains := decide (old < 4) && s.slotState p old == 4
      let s := if drains then s.setSlotState p old 5 else s
      let g := gap && decide (t2 < 4)
      let s := s.when (decide (new < 4) && !g) (·.setSlotState p new 4)
      let s := s.setPartSw p { s.partSw p with drain := if drains then some old else none, gap := if g then some new else none }
      (s.setEv (Obj.partSwapState p) (if g then 2 else if drains then 1 else 0), 0)
/-- A write of part.swap. -/
def State.swapWrite (s : State) (p v : Nat) : State × Nat := s.swap p (bits v 7 0) (bits v 15 8) (bit v 16)
/-- A write of part.t1_slot: a swap of the tier-1 slot alone. -/
def State.t1SlotWrite (s : State) (p v : Nat) : State × Nat := s.swap p 0xFF (if v = 0xFF then 0xFE else v) false

/-- What the stack reports of the reads that arm a slot (R348). -/
def State.slotErrs (s : State) (p n : Nat) (err : Bursts) : State :=
  match (s.slot p n).region with | some r => s.stackErrs (s.region r).stack p (s.region r).base err | none => s
/-- The last outstanding request of a Draining slot is freed (R357, R358). -/
def State.drainDone (s : State) (p : Nat) : State :=
  let w := s.partSw p
  match w.drain with
  | none => s
  | some n =>
    if s.outOf p n ≠ 0 then s
    else
      let s := s.setPartSw p { w with drain := none }
      match w.gap with
      | none => (if s.slotState p n = 5 then s.setSlotState p n 3 else s).setEv (Obj.partSwapState p) 0
      | some g =>
        let s := if s.slotState p n = 5 then s.emptySlot p n else s
        -- a Staged slot that has gone meanwhile leaves nothing to arm: the gap ends
        if s.slotState p g = 2 then s.setSlot p g { s.slot p g with arming := true }
        else (s.setPartSw p { s.partSw p with gap := none }).setEv (Obj.partSwapState p) 0

/-- The arming that a gap waits for ends (R358); a read that fails its check makes it fail (R348). -/
def State.gapArmed (s : State) (p : Nat) (ok : Bool) (err : Bursts) : State :=
  let w := s.partSw p
  match w.gap with
  | none => s
  | some g =>
    if w.drain.isSome ∨ s.slotState p g ≠ 2 then s
    else
      let isle := (s.slotIsle p g).getD 0
      let up := !s.objBit Obj.faultIslesFenced isle
      if up && !s.isleOn isle then { s with res := { s.res with needIsle := setBit s.res.needIsle isle true } } else
      let reg := match (s.slot p g).region with | some r => s.regionUp r | none => true
      let s := s.slotErrs p g err
      let s := (s.setPartSw p { w with drain := none, gap := none }).setEv (Obj.partSwapState p) 0
      if ok && up && reg && !err.failed && !(s.slot p g).lost then (s.armSlot p g).setSlotState p g 4
      else
        let s := s.setEv (Obj.partSlotLoadStatus p g) 8
        (s.setObj Obj.modelLoadRefused ((s.obj Obj.modelLoadRefused + 1) % 2 ^ 64)).emptySlot p g

/-- An isle powered up after Off arms a slot again from its region (R345); a read that fails its check makes it fail (R348). -/
def State.rearm (s : State) (p n : Nat) (ok : Bool) (err : Bursts) : State :=
  let u := s.slot p n
  let st := s.slotState p n
  if (st ≠ 3 ∧ st ≠ 4 ∧ st ≠ 5) ∨ u.armed then s
  else match s.slotIsle p n with
    | none => s
    | some i =>
      if !s.isleOn i then s
      else
      let s := s.slotErrs p n err
      if ok && !err.failed && !u.lost && (match u.region with | some r => s.regionUp r && bundleHeadOk (s.slotBytes p n (some r)) ((s.region r).size * mib) | none => true) then
        s.armSlot p n
      else (s.setEv (Obj.partSlotLoadStatus p n) 8).emptySlot p n

/-! ## Results (R353, R354) -/

/-- The verdict map entry of a tier-2 output on slot n of partition p (R249, R354). -/
def State.t2Map (s : State) (p n out : Nat) : Nat × Nat :=
  let u := s.slot p n
  mapEntry u.vmap (if u.kind = 0 then mapByScore u.vmap out else out % 16)

/-- The light counter of a written result by the ns since the triggering verdict cycle (R435). -/
def latencyClass (ns : Nat) : Nat :=
  ([250, 500, 1000, 2000, 5000, 10000, 100000].countP (fun b => decide (b ≤ ns)))
/-- A result of status 0 whose request is in the table: judged and written (R29, R188, R354). -/
def State.t2Write (s : State) (r : T2Req) (out epoch : Nat) : State :=
  let v := s.t2Map r.part r.slot out
  let w := s.tierResult r.key 2 v.1 v.2 epoch r.time
  let s := w.1.when w.2 (fun s => (s.partLight r.part 14).partLight r.part (17 + latencyClass (s.now - r.time)))
  s.freeReq r.seq

end Sys2Proof.Machine
end

