-- ==== Sys2Proof/Machine/Parse.lean ====
section
/-! DEFINITION. The parse window: layers, the canonical flow key, class, and the first-frame snapshot (R151, R153
to R157, R235). Offsets count from the destination MAC. -/
namespace Sys2Proof.Machine

/-- What an IP header and the headers after it give (R153). -/
structure L3 where
  family : Nat
  ttl : Nat
  proto : Nat
  src : Nat
  dst : Nat
  frag : Bool
  /-- Unfragmented, or the first fragment. -/
  first : Bool
  dscp : Nat
  ecn : Nat
  df : Bool
  /-- IPv4 option bytes, or extension headers walked. -/
  opt : Nat
  payload : Nat
  l4 : Nat
  /-- The extension walk ended at a header that does not end within the window. -/
  cut : Bool
  deriving DecidableEq, Repr

/-- How an IP header parses. -/
inductive L3Res
  /-- Version or IHL wrong (R153). -/
  | bad
  /-- The header does not end within the window (R157). -/
  | short
  | ok (l : L3)
  deriving DecidableEq, Repr

/-- The IPv4-mapped form of an IPv4 address (R154). -/
def mapped (a : Nat) : Nat := 0xFFFF * 2 ^ 32 + a
/-- `n` bytes at `o` lie within the window. -/
def fits (w : Bytes) (o n : Nat) : Bool := decide (o + n ≤ w.length)
/-- The extension headers that a walk takes: Hop-by-Hop, Routing, Fragment, Destination Options. -/
def isExt (nh : Nat) : Bool := nh == 0 || nh == 43 || nh == 44 || nh == 60

/-- Walk up to `n` IPv6 extension headers from offset `p` (R153): next header, offset, headers walked, fragment seen,
first fragment, cut by the window. -/
def walkExt (w : Bytes) : Nat → Nat → Nat → Nat → Bool → Bool → Nat × Nat × Nat × Bool × Bool × Bool
  | 0, nh, p, k, fr, fi => (nh, p, k, fr || nh == 44, fi, false)
  | n + 1, nh, p, k, fr, fi =>
    if !isExt nh then (nh, p, k, fr, fi, false)
    else
      let len := if nh = 44 then 8 else 8 * (byteAt w (p + 1) + 1)
      if !(fits w p 2 && fits w p len) then (nh, p, k, fr || nh == 44, fi, true)
      else if nh = 44 then walkExt w n (byteAt w p) (p + 8) (k + 1) true (beAt w (p + 2) 2 / 8 == 0)
      else walkExt w n (byteAt w p) (p + len) (k + 1) fr fi

/-- Parse an IPv4 header at offset `o`. -/
def parse4 (w : Bytes) (o : Nat) : L3Res :=
  let ihl := 4 * (byteAt w o % 16)
  if !fits w o 1 then .short
  else if byteAt w o / 16 ≠ 4 ∨ ihl < 20 then .bad
  else if !fits w o ihl then .short
  else
    let fl := beAt w (o + 6) 2
    .ok { family := 1, ttl := byteAt w (o + 8), proto := byteAt w (o + 9), src := mapped (beAt w (o + 12) 4),
          dst := mapped (beAt w (o + 16) 4), frag := bit fl 13 || fl % 8192 != 0, first := fl % 8192 == 0,
          dscp := byteAt w (o + 1) / 4, ecn := byteAt w (o + 1) % 4, df := bit fl 14, opt := ihl - 20,
          payload := beAt w (o + 2) 2 - ihl, l4 := o + ihl, cut := false }
/-- Parse an IPv6 header at offset `o`. -/
def parse6 (w : Bytes) (o : Nat) : L3Res :=
  if !fits w o 1 then .short
  else if byteAt w o / 16 ≠ 6 then .bad
  else if !fits w o 40 then .short
  else
    let tc := beAt w o 4 / 2 ^ 20 % 256
    match walkExt w 2 (byteAt w (o + 6)) (o + 40) 0 false true with
    | (nh, p, k, fr, fi, cut) =>
      .ok { family := 2, ttl := byteAt w (o + 7), proto := nh, src := beAt w (o + 8) 16, dst := beAt w (o + 24) 16, frag := fr,
            first := fi, dscp := tc / 4, ecn := tc % 4, df := false, opt := k, payload := beAt w (o + 4) 2 - (p - o - 40),
            l4 := p, cut := cut }
/-- Parse an IP header of version 4 or 6. -/
def parseIp (w : Bytes) (o ver : Nat) : L3Res := if ver = 4 then parse4 w o else parse6 w o

/-- What the L4 header gives (R153, R235): ports of the key, payload length, the snapshot's L4 fields, whether a TCP
or UDP header was parsed. -/
structure L4 where
  sport : Nat := 0
  dport : Nat := 0
  payload : Nat := 0
  flags : Nat := 0
  window : Nat := 0
  doff : Nat := 0
  itype : Nat := 0
  icode : Nat := 0
  tcp : Bool := false
  udp : Bool := false
  /-- A TCP or UDP header that does not end within the window. -/
  cut : Bool := false
  deriving DecidableEq, Repr

/-- Parse the L4 header of a packet (R153). A header's length is as RFC 793, 768, 792 and 4443 give it
(notes/assumptions/22.md). -/
def parseL4 (w : Bytes) (l : L3) : L4 :=
  let p := l.l4
  let d : L4 := { payload := l.payload }
  if (l.frag && !l.first) || l.cut then d
  else if l.proto = 6 then
    let doff := byteAt w (p + 12) / 16
    if fits w p 20 && fits w p (4 * doff) then
      { d with sport := if l.frag then 0 else beAt w p 2, dport := if l.frag then 0 else beAt w (p + 2) 2,
               flags := byteAt w (p + 13), window := beAt w (p + 14) 2, doff := doff, tcp := true, payload := l.payload - 4 * doff }
    else { d with cut := true }
  else if l.proto = 17 then
    if fits w p 8 then
      { d with sport := if l.frag then 0 else beAt w p 2, dport := if l.frag then 0 else beAt w (p + 2) 2, udp := true,
               payload := l.payload - 8 }
    else { d with cut := true }
  else if (l.family = 1 ∧ l.proto = 1) ∨ (l.family = 2 ∧ l.proto = 58) then
    (if fits w p 8 then { d with itype := byteAt w p, icode := byteAt w (p + 1) } else d)
  else d

/-- Skip up to `n` VLAN tags: EtherType offset, tags seen, third tag, cut by the window. -/
def skipTags (w : Bytes) : Nat → Nat → Nat → Nat × Nat × Bool × Bool
  | n, o, k =>
    if !fits w o 2 then (o, k, false, true)
    else if beAt w o 2 = 0x8100 ∨ beAt w o 2 = 0x88A8 then
      match n with
      | 0 => (o, k, true, false)
      | n + 1 => skipTags w n (o + 4) (k + 1)
    else (o, k, false, false)

/-- Skip up to `n` MPLS labels from offset `o`: offset after them, labels, fifth label, cut. -/
def skipLabels (w : Bytes) : Nat → Nat → Nat → Nat × Nat × Bool × Bool
  | 0, o, k => (o, k, true, false)
  | n + 1, o, k =>
    if !fits w o 4 then (o, k, false, true)
    else if bit (beAt w o 4) 8 then (o + 4, k + 1, false, false)
    else skipLabels w n (o + 4) (k + 1)

/-- The class of a frame (R157). -/
inductive Cls
  | keyed
  | nonip
  | unparsed
  deriving DecidableEq, Repr

/-- What the parse of a frame gives. -/
structure Parsed where
  cls : Cls := .unparsed
  tagged : Bool := false
  vid : Nat := 0
  vlans : Nat := 0
  labels : Nat := 0
  innerVlans : Nat := 0
  /-- Offset of the outer tag's control information, for PCP. -/
  tci : Option Nat := none
  /-- Version and offset of the outermost IP header that the parse reached (R163). -/
  ip : Option (Nat × Nat) := none
  tunnelSeen : Bool := false
  tunnel : Nat := 0
  vni : Nat := 0
  geneve : Nat := 0
  outerTtl : Nat := 0
  outerDscp : Nat := 0
  outerSport : Nat := 0
  fallback : Bool := false
  l3 : Option L3 := none
  l4 : L4 := {}
  deriving DecidableEq, Repr

/-- The inner headers of a tunnel for the key (R156): VLAN tags, IP and L4; none when they cannot give it. -/
def parseInner (w : Bytes) (u kind : Nat) : Option (Nat × L3 × L4) :=
  let opt := if kind = 2 then 4 * (byteAt w u % 64) else 0
  let prot := if kind = 2 then beAt w (u + 2) 2 else 0x6558
  if !fits w u 8 || decide (64 < opt) || !(prot == 0x6558 || prot == 0x0800 || prot == 0x86DD) then none
  else
    let p := u + 8 + opt
    let ip := fun (o ver tags : Nat) => match parseIp w o ver with
      | .ok l => let t := parseL4 w l; if l.cut || (t.cut && !l.frag) then none else some (tags, l, t)
      | _ => none
    if prot = 0x6558 then
      match skipTags w 2 (p + 12) 0 with
      | (o, k, third, cut) =>
        if third || cut then none
        else if beAt w o 2 = 0x0800 then ip (o + 2) 4 k else if beAt w o 2 = 0x86DD then ip (o + 2) 6 k else none
    else ip p (if prot = 0x0800 then 4 else 6) 0

/-- The parse from the outer IP header on (R153, R156, R157). -/
def parseOuter (vx gn tkey : Nat) (w : Bytes) (o ver : Nat) (p : Parsed) : Parsed :=
  match parseIp w o ver with
  | .bad => p
  | .short => p
  | .ok l =>
    let t := parseL4 w l
    let p := { p with ip := some (ver, o), cls := .keyed, l3 := some l, l4 := t }
    let u := l.l4 + 8
    let kind := if t.udp && !l.frag then (if t.dport = vx then (if fits w u 1 && bit (byteAt w u) 3 then 1 else 0)
      else if t.dport = gn then 2 else 0) else 0
    if kind = 0 then p
    else
      let p := { p with tunnelSeen := true, outerTtl := l.ttl, outerDscp := l.dscp, outerSport := t.sport,
                        geneve := if kind = 2 then 4 * (byteAt w u % 64) else 0 }
      if tkey ≠ 1 then p
      else match parseInner w u kind with
        | some (k, l', t') => { p with innerVlans := k, tunnel := kind, vni := beAt w (u + 4) 3, l3 := some l', l4 := t' }
        | none => { p with fallback := true }

/-- The parse of a window (R153, R157). -/
def parseWindow (tagEt vx gn tkey : Nat) (w : Bytes) : Parsed :=
  let tagged := fits w 12 2 && beAt w 12 2 == tagEt
  let o := if tagged then 20 else 12
  match skipTags w 2 o 0 with
  | (e, k, third, cut) =>
    let p : Parsed := { tagged := tagged, vlans := k, vid := if k = 0 ∨ !fits w (o + 2) 2 then 0 else beAt w (o + 2) 2 % 4096,
                        tci := if k = 0 ∨ !fits w (o + 2) 2 then none else some (o + 2) }
    if third || cut then p
    else
      let et := beAt w e 2
      if et = 0x8847 ∨ et = 0x8848 then
        match skipLabels w 4 (e + 2) 0 with
        | (o, n, fifth, cut) =>
          let p := { p with labels := n }
          if fifth || cut || !fits w o 1 then p
          else if byteAt w o / 16 = 4 then parseOuter vx gn tkey w o 4 p
          else if byteAt w o / 16 = 6 then parseOuter vx gn tkey w o 6 p
          else { p with cls := .nonip }
      else if et = 0x0800 then parseOuter vx gn tkey w (e + 2) 4 p
      else if et = 0x86DD then parseOuter vx gn tkey w (e + 2) 6 p
      else { p with cls := .nonip }

/-- The parse of a frame under the objects in force. -/
def State.parse (s : State) (bytes : Bytes) : Parsed :=
  parseWindow (s.obj Obj.tagEthertype) (s.obj Obj.parseVxlanPort) (s.obj Obj.parseGenevePort) (s.obj Obj.parseTunnelKey) (bytes.take 192)

/-- The partition of a frame (R151). -/
def State.partOf (s : State) (port vid : Nat) : Nat :=
  ((List.range 16).find? (fun p =>
    (if port < 32 then s.objBit (Obj.partAssignHost p) port else s.objBit (Obj.partAssignLine p) (port - 32)) &&
    decide (s.obj (Obj.partVlanLo p) ≤ vid) && decide (vid ≤ s.obj (Obj.partVlanHi p)))).getD (s.obj Obj.parseOrphanPartition)

/-- The canonical key and direction bit of a keyed frame (R154, R155). -/
def keyOf (part : Nat) (p : Parsed) (l : L3) : FlowKey × Bool :=
  let a := l.src * 65536 + p.l4.sport
  let b := l.dst * 65536 + p.l4.dport
  let dir := decide (b < a)
  ({ part := part, family := l.family, tunnel := p.tunnel, frag := l.frag, proto := l.proto,
     vni := if p.tunnel = 0 then 0 else p.vni, lo := if dir then l.dst else l.src, hi := if dir then l.src else l.dst,
     lop := if dir then p.l4.dport else p.l4.sport, hip := if dir then p.l4.sport else p.l4.dport }, dir)

/-- A value put into a field of `w` bits at bit `lo`; a value wider than its field stores the field's maximum
(DEDUCED, notes/assumptions/23.md). -/
def field (w lo v : Nat) : Nat := min v (2 ^ w - 1) * 2 ^ lo
/-- The first-frame snapshot (R235). -/
def snapshot (port len : Nat) (p : Parsed) (l : L3) : Nat :=
  let t := p.l4
  field 5 139 (port % 32) + field 12 127 p.vid + field 8 119 l.ttl + field 6 113 l.dscp + field 2 111 l.ecn + field 1 110 (b2n l.df) +
  field 6 104 l.opt + field 14 90 len + field 14 76 (if t.tcp || t.udp then t.payload else 0) +
  (if t.tcp then field 8 68 t.flags + field 16 52 t.window + field 4 48 t.doff
   else if (l.family = 1 ∧ l.proto = 1) ∨ (l.family = 2 ∧ l.proto = 58) then field 8 68 t.itype + field 8 60 t.icode else 0) +
  field 2 46 p.vlans + field 3 43 p.labels + field 2 41 p.innerVlans + field 7 34 p.geneve + field 8 26 p.outerTtl +
  field 6 20 p.outerDscp + field 16 4 p.outerSport

/-- The facts of a frame for the feature engine (R234, R235). -/
def metaOf (time port len : Nat) (dir : Bool) (p : Parsed) (l : L3) : Meta :=
  { time := time, dir := dir, line := decide (32 ≤ port), len := len, payload := p.l4.payload, tcp := p.l4.tcp, flags := p.l4.flags,
    window := p.l4.window, outerKey := p.tunnelSeen && p.tunnel == 0, tagged := p.tagged, snap := snapshot port len p l }

end Sys2Proof.Machine
end

