-- ==== Sys2Proof/Machine/Crossing.lean ====
section
/-! DEFINITION. A frame's crossing (spec/05): verdicts, tags, marks, meters, mirrors, holds and floods; hits and misses (R158
to R171, R181, R187, R190, R237, R250, R251, R351). -/
namespace Sys2Proof.Machine

/-! ## Meters (R165, R166) -/

/-- A meter never applied: the staged defaults with full buckets (DEDUCED, notes/assumptions/9.md). -/
def Meter.initial : Meter :=
  let d := fun k => objDefault k
  { cir := d Obj.meterCir, cbs := d Obj.meterCbs, pir := d Obj.meterPir, pbs := d Obj.meterPbs, yellow := d Obj.meterYellow,
    tc := d Obj.meterCbs * 400000, tp := d Obj.meterPbs * 400000, at_ := 0, green := 0, yellowN := 0, red := 0 }
/-- Meter i. -/
def State.meter (s : State) (i : Nat) : Meter := mget (fun _ => Meter.initial) s.x.meters i
/-- Replace meter i. -/
def State.setMeter (s : State) (i : Nat) (m : Meter) : State :=
  { s with x := { s.x with meters := mset (fun _ => Meter.initial) s.x.meters i m } }
/-- Tokens accrued up to tick t (R165): a rate of r kb/s is r tokens of 1/400,000 byte a tick. -/
def Meter.accrue (m : Meter) (t : Nat) : Meter :=
  { m with tc := min (m.cbs * 400000) (m.tc + m.cir * (t - m.at_)), tp := min (m.pbs * 400000) (m.tp + m.pir * (t - m.at_)), at_ := t }
/-- Measure a frame of n bytes (R165, RFC 2698, colour-blind): 0 green, 1 yellow, 2 red. -/
def State.measure (s : State) (i n : Nat) : State × Nat :=
  let m := (s.meter i).accrue s.clk.ticks
  let b := n * 400000
  if m.tp < b then (s.setMeter i { m with red := (m.red + 1) % 2 ^ 64 }, 2)
  else if m.tc < b then (s.setMeter i { m with tp := m.tp - b, yellowN := (m.yellowN + 1) % 2 ^ 64 }, 1)
  else (s.setMeter i { m with tp := m.tp - b, tc := m.tc - b, green := (m.green + 1) % 2 ^ 64 }, 0)
/-- A write of meter.apply (R166): the state, and an abort code or 0. -/
def State.meterApplyWrite (s : State) (v : Nat) : State × Nat :=
  let mx := s.obj Obj.portMaxFrame
  let cbs := s.obj Obj.meterCbs
  let pbs := s.obj Obj.meterPbs
  if v = 0 then (s, 0)
  else if s.obj Obj.meterPir < s.obj Obj.meterCir ∨ cbs < mx ∨ pbs < mx then (s, 0xC211)
  else
    let i := s.obj Obj.meterSelect
    let m := s.meter i
    (s.setMeter i { m with cir := s.obj Obj.meterCir, cbs := cbs, pir := s.obj Obj.meterPir, pbs := pbs, yellow := s.obj Obj.meterYellow,
                           tc := cbs * 400000, tp := pbs * 400000, at_ := s.clk.ticks }, 0)

/-! ## Marks and tags (R163, R167, R168) -/

/-- An IPv4 header checksum after a 16-bit word changes from m to m' (RFC 1624). -/
def hcUpdate (hc m m' : Nat) : Nat :=
  let f := fun x : Nat => x % 65536 + x / 65536
  65535 - f (f ((65535 - hc) + (65535 - m) + m'))
/-- Apply a mark parameter to a frame (R163). -/
def applyMark (p : Parsed) (param : Nat) (b : Bytes) : Bytes :=
  let b := if bit param 19 then (match p.ip with
      | some (4, o) =>
        let old := beAt b o 2
        let new := old / 256 * 256 + bits param 17 12 * 4 + old % 4
        patch (patch b o (be 2 new)) (o + 10) (be 2 (hcUpdate (beAt b (o + 10) 2) old new))
      | some (_, o) =>
        let w := beAt b o 2
        patch b o (be 2 (w / 4096 * 4096 + (bits param 17 12 * 4 + w / 16 % 4) * 16 + w % 16))
      | none => b) else b
  if bit param 18 then (match p.tci with
    | some o => patch b o (be 2 (bits param 11 9 * 8192 + beAt b o 2 % 8192))
    | none => b) else b

/-- How a frame stands under R150 and R173. -/
def frameCheck (f : FrameIn) : Check := if f.fcsOk && !f.fecBad then .good else if f.badLate then .badLate else .badEarly

/-- What a verdict is applied with: the word, and the entry's tier, score and epoch, and whether the frame hit. -/
structure Verd where
  word : Nat
  tier : Nat := 0
  score : Nat := 0
  epoch : Nat := 0
  hit : Bool := false
  deriving DecidableEq, Repr

/-- The Spethal tag (R167). -/
def State.tagBytes (s : State) (port part : Nat) (v : Verd) : Bytes :=
  be 2 (s.obj Obj.tagEthertype) ++ be 1 (bits v.word 27 20) ++ be 1 v.score ++ be 2 (v.epoch % 65536) ++
  be 2 (v.tier % 4 * 2 ^ 14 + b2n v.hit * 2 ^ 13 + (if port < 32 then 0 else 2 ^ 12) + part % 16 * 256 + 16)
/-- Tag a frame (R167, R168). -/
def State.tagFrame (s : State) (port part : Nat) (v : Verd) (p : Parsed) (b : Bytes) : State × Bytes :=
  let mode := s.obj (Obj.partTagMode part)
  if mode = 1 ∨ (mode = 0 ∧ bit v.word 28) then
    if p.tagged then (s, patch b 12 (s.tagBytes port part v))
    else if s.obj Obj.portMaxFrame < b.length + 12 then (s.ctr Obj.ctrTagSkippedSize, b)
    else (s, b.take 12 ++ s.tagBytes port part v ++ b.drop 12)
  else (s, b)

/-! ## Leaving (R161 to R164, R171) -/

/-- A frame leaves under a verdict (R163): the state, the bytes as it leaves and the port it leaves by, if it does. -/
def State.leave (s : State) (port part : Nat) (f : FrameIn) (p : Parsed) (v : Verd) : State × Bytes × Option Nat :=
  let bad := frameCheck f
  let act := bits v.word 31 29
  let prm := bits v.word 19 0
  let out := paired port
  let s := s.partLight part (4 + min act 5)
  let tagged := fun (s : State) (b : Bytes) => s.tagFrame port part v p b
  let named := bits prm 18 14 + (if bit prm 19 then 32 else 0)
  match act with
  | 0 => let t := tagged s f.bytes; (t.1.egress out t.2 bad, t.2, some out)
  | 1 => let t := tagged s (applyMark p prm f.bytes); (t.1.egress out t.2 bad, t.2, some out)
  | 2 =>
    let t := tagged s f.bytes
    let s := t.1.egress out t.2 bad
    (if s.present named then s.egressCopy Obj.ctrMirrorDrop named t.2 bad else s.ctr Obj.ctrRedirectInvalid, t.2, some out)
  | 3 =>
    let r := s.measure (prm % 65536) (f.bytes.length + 4)
    let m := r.1.meter (prm % 65536)
    if r.2 = 2 then (r.1, f.bytes, none)
    else
      let t := tagged r.1 (if r.2 = 1 then applyMark p m.yellow f.bytes else f.bytes)
      (t.1.egress out t.2 bad, t.2, some out)
  | 4 =>
    if s.present named then let t := tagged s f.bytes; (t.1.egress named t.2 bad, t.2, some named)
    else (s.ctr Obj.ctrRedirectInvalid, f.bytes, none)
  | _ => (s, f.bytes, none)

/-- The default verdict of a key's partition as applied (R161, R169); a frame that hit carries the score and epoch recorded in its entry (R167). -/
def State.default (s : State) (k : FlowKey) (hit : Bool) : Verd :=
  let e := if hit then (match s.findKey k with | some i => s.entry i | none => FEntry.empty) else FEntry.empty
  { word := s.obj (Obj.partDefaultVerdict k.part), score := e.score, epoch := e.epoch, hit := hit }
/-- A frame leaves under its partition's default verdict as the default (R435). -/
def State.leaveDefault (s : State) (port : Nat) (k : FlowKey) (f : FrameIn) (p : Parsed) (hit : Bool) : State × Bytes × Option Nat :=
  (s.partLight k.part 10).leave port k.part f p (s.default k hit)
/-- A frame is flooded (R171): default verdict, and a copy to every other port of the flood sets. -/
def State.flood (s : State) (port : Nat) (k : FlowKey) (f : FrameIn) (p : Parsed) (hit : Bool) : State :=
  let part := k.part
  let r := s.leaveDefault port k f p hit
  let s := (r.1.ctr Obj.ctrFloodFrames).partLight part 11
  let ps := bitsOf 32 (s.obj (Obj.partFloodHost part)) ++ (bitsOf 32 (s.obj (Obj.partFloodLine part))).map (32 + ·)
  s.each (ps.filter (fun q => r.2.2 != some q)) (fun s q => s.egressCopy Obj.ctrFloodCopyDrop q r.2.1 (frameCheck f))

/-! ## Hold units (R170, R251) -/

/-- The hold list of pipe n. -/
def State.holds (s : State) (n : Nat) : List HeldKey := mget (fun _ => ([] : List HeldKey)) s.x.holds n
/-- Replace it. -/
def State.setHolds (s : State) (n : Nat) (hs : List HeldKey) : State :=
  { s with x := { s.x with holds := mset (fun _ => ([] : List HeldKey)) s.x.holds n hs } }
/-- The pipe of a port (R24). -/
def pipeOf (port : Nat) : Nat := port / 8
/-- A pipe's hold unit has room for a frame. -/
def holdRoom (hs : List HeldKey) (f : FrameIn) : Bool :=
  let n := (hs.map (fun h => h.frames.length)).foldl (· + ·) 0
  let b := (hs.flatMap (fun h => h.frames.map (fun g => g.2.bytes.length + 4))).foldl (· + ·) 0
  decide (n < 4096) && decide (b + f.bytes.length + 4 ≤ 1048576)
/-- A frame that was held leaves: it counts under the applied verdict now (R251), at its entry or its pending key. -/
def State.countHeld (s : State) (k : FlowKey) : State :=
  match s.findKey k with
  | some i => if s.locked (s.entry i) then s else s.setEntry i { s.entry i with under := sat 0xFFFFFF ((s.entry i).under + 1) }
  | none =>
    let ps := s.flow.pend.map (fun p => if p.key = k then { p with crossed := p.crossed + 1 } else p)
    { s with flow := { s.flow with pend := ps } }
/-- Release the frames of held keys in arrival order. -/
def State.release (s : State) (hs : List HeldKey) (go : State → HeldKey → Bool → FrameIn → State) : State :=
  s.each hs (fun s h => s.each h.frames (fun s f => go s h f.1 f.2))
/-- Take the held keys that satisfy `sel` out of every pipe's unit. -/
def State.takeHeld (s : State) (sel : HeldKey → Bool) : State × List HeldKey :=
  (List.range 8).foldl (fun (a : State × List HeldKey) n =>
    let hs := a.1.holds n
    if hs.any sel then (a.1.setHolds n (hs.filter (fun h => !sel h)), a.2 ++ hs.filter sel) else a) (s, [])
/-- A key's tier-1 result has been written: its held frames leave under that verdict (R170, R251). -/
def State.releaseResult (s : State) (k : FlowKey) (word score epoch : Nat) : State :=
  let r := s.takeHeld (fun h => decide (h.key = k))
  r.1.release r.2 (fun s h hit f =>
    ((s.countHeld h.key).leave f.port k.part f (s.parse f.bytes)
      { word := word, tier := 1, score := if hit then score else 0, epoch := if hit then epoch else 0, hit := hit }).1)
/-- A frame crosses to its paired port unchanged (R94). -/
def State.crossPlain (s : State) (part : Nat) (f : FrameIn) : State :=
  (s.partLight part 4).egress (paired f.port) f.bytes (frameCheck f)
/-- The hold limit of a pipe's earliest held key passes (R170); in plain crossing the frames cross plainly (R94; DEDUCED,
notes/assumptions/124.md). -/
def State.holdLimit (s : State) (n : Nat) : State :=
  match s.holds n with
  | [] => s
  | h :: hs =>
    let d := hs.foldl (fun m x => min m x.deadline) h.deadline
    let s := s.elapseTo d
    let due := (h :: hs).filter (fun x => decide (x.deadline ≤ s.clk.ticks))
    let s := s.setHolds n ((h :: hs).filter (fun x => !decide (x.deadline ≤ s.clk.ticks)))
    s.release due (fun s h hit f =>
      let s := s.ctr Obj.ctrHoldTimeout
      if s.plain then s.crossPlain h.key.part f else ((s.countHeld h.key).leaveDefault f.port h.key f (s.parse f.bytes) hit).1)
/-- Insertion of a key failed: its held frames are flooded (R170, R171). -/
def State.releaseFail (s : State) (k : FlowKey) : State :=
  let r := s.takeHeld (fun h => decide (h.key = k))
  r.1.release r.2 (fun s h hit f => s.flood f.port h.key f (s.parse f.bytes) hit)

/-- What becomes of a frame that is to be held: appended to its key's list, put on the list, or refused room. -/
def State.hold (s : State) (k : FlowKey) (dir hit : Bool) (f : FrameIn) : Option State :=
  let n := pipeOf f.port
  let hs := s.holds n
  if !holdRoom hs f then none
  else if hs.any (fun h => decide (h.key = k) && h.dir == dir) then
    some (s.setHolds n (hs.map (fun h => if h.key = k ∧ h.dir = dir then { h with frames := h.frames ++ [(hit, f)] } else h)))
  else
    let d := s.clk.ticks + ceilDiv (s.obj (Obj.partFirstFrameHold k.part)) 20
    some (s.setHolds n (hs ++ [{ key := k, dir := dir, deadline := d, frames := [(hit, f)] }]))
/-- A key and direction is on the pipe's hold list. -/
def State.held (s : State) (k : FlowKey) (dir : Bool) (port : Nat) : Bool :=
  (s.holds (pipeOf port)).any (fun h => decide (h.key = k) && h.dir == dir)

/-! ## Hits (R161, R187, R237, R351) -/

/-- Statistics, record and tier-2 trigger of a hit on slot i (R187, R237, R351). -/
def State.hitWork (s : State) (i : Nat) (m : Meta) (held : Bool) : State :=
  let e := s.entry i
  if s.locked e then s
  else
    let queued := s.flow.statq.countP (fun u => decide (u.key = e.key))
    let q := s.flow.statq ++ [{ key := e.key, stamp := s.stamp, dir := m.dir, under := !held }]
    let s := { s with flow := { s.flow with statq := q } }
    let r := match s.t2Due i (e.total + queued + 1) with
      | some (n, again) => s.t2Make i n again m.time
      | none => (s, none)
    let u := r.1.recordUpdate i m r.2
    match r.2 with
    | none => u.1
    | some seq =>
      if u.1.t1.fetches.any (fun (f : Nat × List FetchUpd) => f.2.any (fun x => x.req == some seq)) then u.1 else u.1.formVector seq

/-- A keyed frame hits slot i (R161, R170). -/
def State.hitFrame (s : State) (i : Nat) (dir : Bool) (f : FrameIn) (p : Parsed) (m : Meta) : State :=
  let e := s.entry i
  let part := e.key.part
  let s := (s.addLight (pipeLight (pipeOf f.port) 1) 1).partLight part 2
  let listed := s.held e.key dir f.port
  let h := if listed then s.hold e.key dir true f else none
  match h with
  | some s' => s'.hitWork i m true
  | none =>
    let s := s.hitWork i m false
    let s := s.when listed (·.ctr Obj.ctrHoldOverflow)
    if listed || e.tier == 0 then
      ((s.partLight part 10).leave f.port part f p { word := s.obj (Obj.partDefaultVerdict part), tier := 0, score := e.score, epoch := e.epoch, hit := true }).1
    else (s.leave f.port part f p { word := e.verdict, tier := e.tier, score := e.score, epoch := e.epoch, hit := true }).1

/-! ## Misses (R169 to R171, R190, R193, R205, R236, R247) -/

/-- Prefix classes of a key when the tree tier starts for it (R205). -/
def State.classes (s : State) (k : FlowKey) : State × Prefixes :=
  if (s.tier1Slot k.part).isNone then (s, (0, 0, 0, 0))
  else
    let a := s.trieLookup k.family k.lo
    let b := a.1.trieLookup k.family k.hi
    (b.1, (a.2.1, a.2.2, b.2.1, b.2.2))
/-- The frame's miss makes its key pending, or is merged (R169, R190, R236): the state and whether insertion failed for want of
room. `now` says whether the frame crosses now, `bad` whether its walk meets an uncorrectable word of the node cache. -/
def State.pendMiss (s : State) (k : FlowKey) (m : Meta) (now bad : Bool) : State × Bool :=
  if s.flow.pend.any (fun p => decide (p.key = k)) then
    let ps := s.flow.pend.map (fun p => if p.key = k then { p with merged := p.merged + 1, crossed := p.crossed + b2n now, record := p.record.update m } else p)
    ({ s with flow := { s.flow with pend := ps } }, false)
  else
    let c := s.classes k
    let r := Rec.init m c.2
    let s := c.1.startWalk k r bad
    if 16384 ≤ s.flow.pend.length then ((s.ctr Obj.ctrFlowFailQueue).markFlooded k, true)
    else
      let q := s.flow.pend ++ [{ key := k, merged := 1, crossed := b2n now, stamp := s.stamp, record := r }]
      ({ s with flow := { s.flow with pend := q } }, false)

/-- A keyed frame misses (R169). -/
def State.missFrame (s : State) (k : FlowKey) (dir : Bool) (f : FrameIn) (p : Parsed) (m : Meta) : State :=
  let part := k.part
  let s := (s.addLight (pipeLight (pipeOf f.port) 2) 1).partLight part 3
  if s.flow.flooded.contains k then ((s.pendMiss k m true f.nodeBad).1).flood f.port k f p false
  else
    let wants := decide (0 < s.obj (Obj.partFirstFrameHold part)) || s.held k dir f.port
    let h := if wants then s.hold k dir false f else none
    match h with
    | some s' =>
      let r := s'.pendMiss k m false f.nodeBad
      if r.2 then r.1.releaseFail k else r.1
    | none =>
      let r := (s.when wants (·.ctr Obj.ctrHoldOverflow)).pendMiss k m true f.nodeBad
      if r.2 then r.1.flood f.port k f p false else (r.1.leaveDefault f.port k f p false).1

/-! ## Ingress -/

/-- A frame accepted by its port enters its pipe (R24, R151, R157, R158, R181). -/
def State.pipe (s : State) (f : FrameIn) : State :=
  let len := f.bytes.length + 4
  let p := s.parse f.bytes
  let part := s.partOf f.port p.vid
  let s := (s.addLight (pipeLight (pipeOf f.port) 0) 1).partLight part 0
  let s := s.addLight (0x0A40 + part * 256 + 8) len
  if s.plain then s.crossPlain part f
  else match p.cls, p.l3 with
    | .keyed, some l =>
      let s := s.when p.fallback (·.ctr Obj.ctrParseOuterFallback)
      let kd := keyOf part p l
      let s := s.when (f.delays != 0) (·.addLight (pipeLight (pipeOf f.port) 3) 1)
      let s := s.addCtr Obj.ctrFlowEccCorrected f.fixed
      let bad := f.ecc.filter (s.candidates kd.1).contains
      let s := s.each bad State.eccSlot
      let m := metaOf s.now f.port len kd.2 p l
      match (if bad.isEmpty then s.findKey kd.1 else none) with
      | some i => s.hitFrame i kd.2 f p m
      | none => s.missFrame kd.1 kd.2 f p m
    | .nonip, _ => (s.leave f.port part f p { word := s.obj (Obj.partNonipVerdict part) }).1
    | _, _ => ((s.ctr Obj.ctrUnparsed).leave f.port part f p { word := s.obj (Obj.partUnparsedVerdict part) }).1

/-- A frame is counted at its port; one outside 64 bytes to port.max_frame is discarded and counted; FEC codewords are counted (R150; spec/05; a frame
below 64 bytes: DEDUCED, notes/assumptions/46.md). -/
def State.portIn (s : State) (f : FrameIn) : State × Bool :=
  let len := f.bytes.length + 4
  let s := (s.addLight (portLight f.port 0) 1).addLight (portLight f.port 1) len
  let s := (s.addCtr (portObj f.port 3) f.fecFixed).addCtr (portObj f.port 4) f.fecWords
  if len < 64 ∨ s.obj Obj.portMaxFrame < len then (s.ctr Obj.ctrIngressBad, false) else (s, true)
/-- The port takes frames: PD-NET on and the port Up. -/
def State.portTakes (s : State) (q : Nat) : Bool := decide (q < 64) && s.netOn && s.portState q == 2

/-! ## Commands -/

/-- HOLD_LIMIT_EXPIRY (R170). -/
def execHoldLimitExpiry (pipe : Nat) (s : State) : Outcome := .next (s.when s.netOn (·.holdLimit pipe))
/-- LEARN_INSERT (R190 to R193): the learning engine handles its oldest pending key; in plain crossing it waits (R94). -/
def execLearnInsert (s : State) : Outcome :=
  let r := s.learn
  .next (if s.netOn && !s.plain then (match r.2 with | some k => (r.1.markFlooded k).releaseFail k | none => r.1) else s)
/-- STATS_UPDATE (R187). -/
def execStatsUpdate (s : State) : Outcome := .next s.applyStat
/-- TIER1_RESULT (R248 to R251): a walk that has reached every leaf writes its result. -/
def execTier1Result (req : Nat) (s : State) : Outcome :=
  .next (match s.t1.reqs.find? (fun q => q.id == req) with
    | none => s
    | some q => match s.walkResult q with
      | none => s
      | some (word, score) =>
        let r := (s.dropT1 req).tierResult q.key 1 word score q.epoch q.time
        if r.2 then (r.1.partLight q.key.part 12).releaseResult q.key word score q.epoch else r.1)
/-- NODE_FETCH_COMPLETE (R247, R253). -/
def execNodeFetchComplete (req tree check : Nat) (s : State) : Outcome := .next (s.nodeFetched req tree check)
/-- RECORD_FETCH_COMPLETE (R238, R239, R348, R416): the updates that waited are applied and the vectors that waited for them formed. `check` is 0
good, 1 end-to-end check failed, 2 stack ECC uncorrectable, 3 corrected by the stack, 4 a word of the cache uncorrectable: it and, likewise,
a burst of no use clear the record-valid bit (R416; a burst: DEDUCED, notes/assumptions/133.md), and the work records being made of it are
rewound (R220). -/
def execRecordFetchComplete (slot check : Nat) (s : State) : Outcome :=
  .next (match s.t1.fetches.find? (fun (f : Nat × List FetchUpd) => f.1 == slot) with
    | none => s
    | some f =>
      let fs := s.t1.fetches.filter (fun (g : Nat × List FetchUpd) => g.1 != slot)
      let s := ({ s with t1 := { s.t1 with fetches := fs } } : State).movedStack (recStack slot) 128
      let seqs := f.2.filterMap (·.req)
      if check = 1 ∨ check = 2 ∨ check = 4 then
        let c := if check = 1 then Obj.ctrHbmE2eFail else if check = 2 then Obj.ctrHbmEccUncorrectable else Obj.ctrEccUncorrectableOther
        let s := ((s.setRec slot none).ctr c).faultRec 1 0 (if check = 4 then 1 else 4) (if check = 4 then 0 else recStack slot)
          (s.entry slot).key.part 0xFF 0 (recAddr slot) 0
        let s := s.each f.2 (fun s u => (s.recordUpdate slot u.fact none).1)
        s.each seqs State.rewindRecord
      else
        let s := (s.setRec slot (s.recOf slot)).when (check == 3) (·.ctr Obj.ctrHbmEccCorrected)
        let s := s.each f.2 (fun s u => (s.recordUpdate slot u.fact none).1)
        s.each seqs State.formVector)
/-- FRAME_TRANSMIT (R172, R173, R177). -/
def execFrameTransmit (port bad fixed : Nat) (late : Bool) (s : State) : Outcome := .next (s.transmit port bad fixed late)
/-- XOFF_IN_CHANGE (R174). -/
def execXoffInChange (group : Nat) (level : Bool) (s : State) : Outcome := .next (s.when (s.on && decide (group < 4)) (·.setEvBit Obj.elecXoffIn group level))
/-- LINK_LOSS (R177). -/
def execLinkLoss (loss : LinkCut) (s : State) : Outcome := .next (s.when s.netOn (·.linkLoss loss.port loss.cut))
/-- HOLD_DEADLINE (R177): the tick of a Held port's deadline ends without a return, which would prevail in it. -/
def execHoldDeadline (port : Nat) (s : State) : Outcome :=
  .next (match (s.port port).hold with | some d => (s.elapseTo (d + 1)).holdExpire port | none => s)
/-- DAMP_END (R177, R178): 50 ms after damping began. -/
def execDampEnd (port : Nat) (s : State) : Outcome :=
  .next (match (s.port port).damp with | some d => (s.elapseTo d).dampEnd port | none => s)
/-- SERIES_CLOSE (R178): 1 ms with no further down, the tick in which it ends included. -/
def execSeriesClose (port : Nat) (s : State) : Outcome :=
  let p := s.port port
  .next (if p.series = 0 ∨ p.damp.isSome then s
    else let s := s.elapseTo (p.lastDown + msT 1 + 1); s.setPort port { s.port port with series := 0 })
/-- TRAIN_TIMEOUT (R148). -/
def execTrainTimeout (port : Nat) (s : State) : Outcome := .next (s.trainTimeout port)

end Sys2Proof.Machine
end

