-- ==== Sys2Proof/Machine/FlowOps.lean ====
section
/-! DEFINITION. The descriptor rings, the flow-table and trie operations (R194 to R206), the scrubber (R207 to R211), the
collector rings and frames (R229, R230), the bundle ring (R350), and the queues' own steps (R214 to R220). -/
namespace Sys2Proof.Machine

/-! ## Ring pages (R194, R229, R350) -/

/-- Ring r of function fn: key 4 fn + r. -/
def State.ring (s : State) (k : Nat) : Ring := mget (fun _ => ({} : Ring)) s.flow.rings k
/-- Replace a ring. -/
def State.setRing (s : State) (k : Nat) (v : Ring) : State :=
  { s with flow := { s.flow with rings := mset (fun _ => ({} : Ring)) s.flow.rings k v } }
/-- The bundle ring of function fn. -/
def State.bRing (s : State) (fn : Nat) : Ring := mget (fun _ => ({} : Ring)) s.flow.bring fn
/-- Replace a bundle ring. -/
def State.setBRing (s : State) (fn : Nat) (v : Ring) : State :=
  { s with flow := { s.flow with bring := mset (fun _ => ({} : Ring)) s.flow.bring fn v } }
/-- Collector ring i of function fn: key 64 fn + i. -/
def State.cRing (s : State) (k : Nat) : CRing := mget (fun _ => ({} : CRing)) s.flow.crings k
/-- Replace a collector ring. -/
def State.setCRing (s : State) (k : Nat) (v : CRing) : State :=
  { s with flow := { s.flow with crings := mset (fun _ => ({} : CRing)) s.flow.crings k v } }
/-- A function has ring r (R194). -/
def hasRing (fn r : Nat) : Bool := if fn = 0 then decide (r < 4) else decide (fn ≤ 16) && decide (r < 2)
/-- Entries of a ring (R194). -/
def Ring.entries (r : Ring) : Nat := 2 ^ (6 + r.size)
/-- Pointer modulus: one bit wider than the index. -/
def Ring.wrap (r : Ring) : Nat := 2 * r.entries
/-- The completion ring has room. -/
def Ring.room (r : Ring) : Bool := decide ((r.cp + r.wrap - r.cc) % r.wrap < r.entries)

/-! ## Tags and leases (R199, R200) -/

/-- Renew a tag's lease. -/
def State.renew (s : State) (t : Nat) : State :=
  if (s.tag t).live then s.setTag t { s.tag t with lease := s.clk.ticks + msT (s.obj Obj.flowLockLease) } else s
/-- Renew the lease of ring k, if its tag is still the ring's: another ring may hold the tag by now (R200). -/
def State.renewRing (s : State) (k : Nat) : State :=
  if (s.tag (s.ring k).tag).ring == some k then s.renew (s.ring k).tag else s
/-- Slots whose lock bears a tag. -/
def State.tagLocks (s : State) (t : Nat) : List Nat := (s.flow.entries.filter (fun e => e.2.lock && e.2.owner == t)).map (·.1)
/-- A tag's lease ends (R200): epoch on, fenced bit, locks no longer in effect; the sweep begins. -/
def State.endLease (s : State) (t : Nat) : State :=
  let g := s.tag t
  match g.ring with
  | none => s
  | some k =>
    let s := s.setTag t { g with epoch := (g.epoch + 1) % 65536, ring := none, sweep := true }
    s.setRing k { s.ring k with fenced := true }
/-- The sweep ends (R200): lock bits cleared and counted; the tag is free. -/
def State.sweepDone (s : State) (t : Nat) : State :=
  let g := s.tag t
  if !g.sweep then s
  else
    let ls := s.tagLocks t
    let s := s.each ls (fun s i => s.setEntry i { s.entry i with lock := false, owner := 0 })
    (s.setTag t { g with sweep := false }).addCtr Obj.ctrFlowLockVoided ls.length
/-- Enable a ring (R194): the lowest free tag, its epoch, pointers at 0; a ring error without one (DEDUCED,
notes/assumptions/48.md). -/
def State.ringEnable (s : State) (k : Nat) (irq : Bool) : State :=
  let r := s.ring k
  match (List.range 64).find? (fun t => (s.tag t).ring.isNone && !(s.tag t).sweep) with
  | none => s.setRing k { r with err := true, irq := irq }
  | some t =>
    let s := s.setTag t { s.tag t with ring := some k, lease := s.clk.ticks + msT (s.obj Obj.flowLockLease) }
    s.setRing k { r with en := true, irq := irq, sp := 0, sc := 0, cp := 0, cc := 0, tag := t, epoch := (s.tag t).epoch, fenced := false, err := false }
/-- Disable a ring (R200). -/
def State.ringDisable (s : State) (k : Nat) (irq : Bool) : State :=
  let r := s.ring k
  if !r.en then s.setRing k { r with irq := irq }
  else
    let s := if (s.tag r.tag).ring = some k then s.endLease r.tag else s
    s.setRing k { s.ring k with en := false, irq := irq }
/-- The value of flow.tags_live: bit t for tag t. -/
def State.tagsLive (s : State) : Nat := (List.range 64).foldl (fun n t => setBit n t (s.tag t).live) 0

/-! ## Descriptors (R195 to R199) -/

/-- How a descriptor ends: status, slot address, the entry the completion shows, bytes for the host buffer. -/
structure DRes where
  st : Nat
  slot : Option Nat := none
  ent : FEntry := FEntry.empty
  buf : Bytes := []
  deriving DecidableEq, Repr

/-- The completion record (R197). -/
def completion (cookie op : Nat) (r : DRes) : Bytes :=
  encFields false [(4, cookie), (1, op), (1, r.st), (2, 0), (8, match r.slot with | some i => slotAddr i | none => 0), (4, r.ent.stamp),
    (4, r.ent.total), (8, 0)]
/-- Write a completion to a ring and advance its pointers (R197). -/
def State.complete (s : State) (fn : Nat) (r : Ring) (c : Bytes) (vec : Nat) : State × Ring :=
  let s := s.emit (.dma fn (r.comp + 32 * (r.cp % r.entries)) c)
  (s.when r.irq (·.emit (.msix fn vec)), { r with cp := (r.cp + 1) % r.wrap })

/-- The host address of the descriptor at a ring's submission consumer; descriptors are `n` bytes (R194, R195, R350). -/
def Ring.descAt (r : Ring) (n : Nat) : Nat := r.sub + n * (r.sc % r.entries)
/-- A flow-table ring serves the descriptor at its submission consumer (R194 to R200): it is read from the host, its epoch is judged, `f` has the
operation's effect, and the completion is written. Without a submitted descriptor or room for its completion nothing
happens. -/
def State.descriptor (s : State) (op : Nat) (d : Desc) (f : State → Nat → State × DRes) : State :=
  let k := 4 * d.fn + d.ring
  let r := s.ring k
  if !hasRing d.fn d.ring || !s.pcie || !r.en || r.err || r.sp == r.sc || !r.room then s
  else
    let s := s.emit (.dmaRead d.fn (r.descAt 128) 128)
    let g := s.tag r.tag
    let e := if r.fenced || g.ring != some k || d.epoch != g.epoch then (s.ctr Obj.ctrFlowDmaFenced, ({ st := 7 } : DRes)) else f s r.tag
    let s := e.1.when (e.2.st == 9) (·.ctr Obj.ctrAddrRefused)
    let s := if e.2.buf.isEmpty then s else s.emit (.dma d.fn d.buf e.2.buf)
    let c := s.complete d.fn { s.ring k with sc := (r.sc + 1) % r.wrap } (completion d.cookie op e.2) (2 + d.ring)
    (c.1.setRing k c.2).renewRing k

/-- Key-addressed descriptors of a virtual function stay in its partition (R198). -/
def keyScope (d : Desc) : Bool := d.fn == 0 || d.key.part == d.fn - 1
/-- Locks that a descriptor's flags set or clear on success (R195, R196). -/
def lockFlags (d : Desc) (t : Nat) (e : FEntry) : FEntry :=
  let e := if bit d.flags 0 then { e with lock := true, owner := t } else e
  if bit d.flags 1 then { e with lock := false, owner := 0 } else e
/-- Corrected and uncorrectable words that a software operation finds in the slots it reads (R181). -/
def State.readEcc (s : State) (d : Desc) (slots : List Nat) : State :=
  (s.addCtr Obj.ctrFlowEccCorrected d.fixed).each (d.ecc.filter slots.contains) State.eccSlot
/-- A key operation: scope, key and lock are judged, `f` answers for the entry in its slot (R196 to R199). The words it reads of the key's two
buckets are checked first, so that an uncorrectable entry is not found (R181). -/
def State.keyOp (s : State) (d : Desc) (t : Nat) (f : State → Nat → FEntry → State × DRes) : State × DRes :=
  if !keyScope d then (s, { st := 8 })
  else
    let s := s.readEcc d (s.candidates d.key)
    match s.findKey d.key with
    | none => (s, { st := 1 })
    | some i =>
      let e := s.entry i
      if s.locked e && e.owner != t then (s, { st := 3, slot := some i, ent := e }) else f s i e
/-- A slot as a function may read it (R198). -/
def State.slotBytesFor (s : State) (fn i : Nat) : Bytes :=
  let e := s.entry i
  if fn ≠ 0 ∧ (e.valid = false ∨ e.key.part ≠ fn - 1) then zeros 64 else entryBytes e
/-- Slots of the flow table. -/
def tableSlots : Nat := 4194304

/-- READ-KEY (R196). -/
def State.opReadKey (s : State) (d : Desc) : State × DRes :=
  if !keyScope d then (s, { st := 8 })
  else
    let s := s.readEcc d (s.candidates d.key)
    match s.findKey d.key with
    | none => (s, { st := 1 })
    | some i => (s, { st := 0, slot := some i, ent := s.entry i, buf := entryBytes (s.entry i) })
/-- READ-SLOT and SCAN (R196, R198): n slots from address A. -/
def State.opReadSlots (s : State) (d : Desc) (n : Nat) (one : Bool) : State × DRes :=
  let i := (d.a - 0x6000000000) / 0x40
  if n = 0 ∨ 4096 < n then (s, { st := 10 })
  else if d.a < 0x6000000000 ∨ 0x6000000000 + 64 * tableSlots < d.a + 64 * n then (s, { st := 9 })
  else if d.a % 64 ≠ 0 then (s, { st := 10 })
  else
    let slots := (List.range n).map (i + ·)
    let s := s.readEcc d slots
    let e := s.entry i
    let show_ := if one && (d.fn == 0 || (e.valid && e.key.part == d.fn - 1)) then e else FEntry.empty
    (s, { st := 0, slot := if one then some i else none, ent := show_, buf := slots.flatMap (s.slotBytesFor d.fn) })

/-- A bucket (by its first slot) has two software-pinned entries. -/
def State.pinFull (s : State) (i : Nat) : Bool :=
  decide (2 ≤ (List.range 4).countP (fun j => (s.entry (i / 4 * 4 + j)).valid && (s.entry (i / 4 * 4 + j)).pinned))
/-- INSERT (R190, R196): placed through the learning engine, with an empty record (R236); a failure counts as the engine's do (R193). -/
def State.opInsert (s : State) (d : Desc) (t : Nat) : State × DRes :=
  let pin := bit d.flags 2
  if !keyScope d || (pin && d.fn != 0) then (s, { st := 8 })
  else if pin && decide (262144 ≤ s.pinnedCount) then (s, { st := 11 })
  else
    let s := s.readEcc d (s.candidates d.key)
    let quota := fun (s : State) => (s.ctr Obj.ctrFlowFailQuota, ({ st := 4 } : DRes))
    let put := fun (s : State) (i : Nat) =>
      let e : FEntry := lockFlags d t { FEntry.empty with valid := true, key := d.key, pinned := pin, tier := 3, score := d.score,
                                                          verdict := d.verdict.toNat, epoch := d.mepoch, stamp := s.stamp }
      ((s.setEntry i e).setRec i none, ({ st := 0, slot := some i, ent := e } : DRes))
    let free := (s.candidates d.key).find? (fun i => !(s.entry i).valid && !s.pinFull i)
    let full := (s.candidates d.key).all s.pinFull
    if s.obj (Obj.partFlowQuota d.key.part) ≤ s.partCount d.key.part then quota s
    else match s.findKey d.key with
      | some i => (s, { st := 2, slot := some i, ent := s.entry i })
      | none =>
        if pin && full then (s, { st := 11 })
        else match pin, free with
          | true, some i => put s i
          | _, _ =>
            match s.seek d.key with
            | (s, .quota) => quota s
            | (s, .kicks) => (s.ctr Obj.ctrFlowFailKicks, { st := 5 })
            | (s, .present i) => (s, { st := 2, slot := some i, ent := s.entry i })
            | (s, .free i) => if pin && s.pinFull i then (s, { st := 11 }) else put s i
/-- UPDATE (R188, R196): tier 3, with the amendment of R30. -/
def State.opUpdate (s : State) (d : Desc) (t : Nat) : State × DRes :=
  s.keyOp d t (fun s i _ =>
    let s := s.applyVerdict i 3 d.verdict.toNat d.score d.mepoch 0
    let s := s.setEntry i (lockFlags d t (s.entry i))
    (s, { st := 0, slot := some i, ent := s.entry i }))
/-- DELETE and AGE-DELETE (R196, R199, R201, R237): a virtual function's DELETE of a pinned entry is refused. -/
def State.opDelete (s : State) (d : Desc) (t : Nat) (age : Option Nat) : State × DRes :=
  s.keyOp d t (fun s i e =>
    let r : DRes := { st := 0, slot := some i, ent := e }
    if d.fn ≠ 0 ∧ e.pinned ∧ age = none then (s, { r with st := 8 })
    else if s.locked e && !bit d.flags 1 then (s, { r with st := 3 })
    else if (match age with | some a => decide ((s.stamp + 2 ^ 32 - e.stamp) % 2 ^ 32 < a) | none => false) then (s, { r with st := 6 })
    else (s.clearSlot i, r))
/-- LOCK and UNLOCK (R196, R199). -/
def State.opLock (s : State) (d : Desc) (t : Nat) (set : Bool) : State × DRes :=
  s.keyOp d t (fun s i e =>
    let e := if set then { e with lock := true, owner := t } else { e with lock := false, owner := 0 }
    (s.setEntry i e, { st := 0, slot := some i, ent := e }))
/-- TRIE-WRITE and TRIE-READ (R206): `data` are the buffer's words for a write. -/
def State.opTrie (s : State) (d : Desc) (write : Bool) : State × DRes :=
  let target := bits d.a 35 32
  let first := bits d.a 31 0
  if d.fn ≠ 0 then (s, { st := 8 })
  else if d.b = 0 ∨ 1024 < d.b ∨ 9 < target then (s, { st := 10 })
  else if trieSize target < first + d.b then (s, { st := 9 })
  else if write then
    if target = 9 ∧ first = 0 then (s, { st := 10 })
    else ((s.emit (.dmaRead d.fn d.buf (4 * d.b))).each (List.range d.b) (fun s i => s.setTrie target (first + i) (d.data.getD i 0 % 2 ^ 32)), { st := 0 })
  else (s, { st := 0, buf := (List.range d.b).flatMap (fun i => le 4 (if target = 9 ∧ first + i = 0 then 0 else s.trieAt target (first + i))) })

/-- The operations of R196 by their codes; a code outside the table is a malformed descriptor. -/
def State.flowOp (op : Nat) (d : Desc) (s : State) (t : Nat) : State × DRes :=
  match op with
  | 0x01 => s.opReadKey d
  | 0x02 => s.opReadSlots d 1 true
  | 0x03 => s.opReadSlots d d.b false
  | 0x10 => s.opInsert d t
  | 0x11 => s.opUpdate d t
  | 0x12 => s.opDelete d t none
  | 0x13 => s.opDelete d t (some d.a)
  | 0x20 => s.opLock d t true
  | 0x21 => s.opLock d t false
  | 0x30 => s.opTrie d true
  | 0x31 => s.opTrie d false
  | _ => (s, { st := 10 })
/-- A descriptor from its 128 bytes (R195); of the entry image only the key fields are read. `buf` are the host buffer's bytes. -/
def descOf (fn ring : Nat) (b buf : Bytes) : Desc :=
  { fn := fn, ring := ring, flags := byteAt b 1, epoch := leAt b 2 2, cookie := leAt b 4 4, buf := leAt b 8 8, a := leAt b 16 8, b := leAt b 24 8,
    verdict := BitVec.ofNat 32 (leAt b 32 4), mepoch := leAt b 36 4, score := byteAt b 40,
    key := (entryOfWords ((List.range 8).map (fun w => leAt b (64 + 8 * w) 8))).key,
    data := (List.range (buf.length / 4)).map (fun i => leAt buf (4 * i) 4) }
/-- A flow-table ring serves a descriptor that it has fetched (R194, R195). -/
def State.serveDesc (s : State) (fn ring : Nat) (b buf : Bytes) : State :=
  s.descriptor (byteAt b 0) (descOf fn ring b buf) (State.flowOp (byteAt b 0) (descOf fn ring b buf))

/-! ## The scrubber (R207 to R211) -/

/-- Offset of a trie target in the trie shadow (R207). -/
def shadowOff (target : Nat) : Nat :=
  if target = 0 then 0 else if target = 1 then 0x40000 else if target = 2 then 0x80000 else if target = 3 then 0x2080000
  else if target ≤ 8 then 0x4080000 + (target - 4) * 0x400000 else 0x5480000
/-- Bytes of the trie shadow (R207). -/
def shadowSize : Nat := shadowOff 9 + 4 * 1310721
/-- The trie target and index of an offset in the trie shadow. -/
def shadowPlace (o : Nat) : Nat × Nat :=
  let t := ((List.range 10).filter (fun t => decide (shadowOff t ≤ o))).getLast?.getD 0
  (t, (o - shadowOff t) / 4)
/-- The words of an internal trie shadow at `base` that stand beside a listed trie entry or a listed byte; every other word is 0 on both sides. -/
def State.trieShadow (s : State) (base : Nat) : List ShadowWord :=
  let inMem := ((s.mem.map (·.1)).filter (fun a => decide (base ≤ a) && decide (a < base + shadowSize))).map (fun a => let p := shadowPlace (a - base); p.1 * 2 ^ 32 + p.2)
  (s.flow.trie.map (·.1) ++ inMem).eraseDups.map (fun k =>
    { pinned := false, addr := k, word := 0, val := s.memLE (base + shadowOff (k / 2 ^ 32) + 4 * (k % 2 ^ 32)) 4 })
/-- The words of an internal pinned shadow of n records at `base` (R207); a record whose slot address is none of the flow table is passed over
(DEDUCED, notes/assumptions/127.md). -/
def State.pinnedShadow (s : State) (base n : Nat) : List ShadowWord :=
  (List.range n).flatMap (fun i =>
    let a := s.memLE (base + 128 * i) 8
    let img := (List.range 8).map (fun w => s.memLE (base + 128 * i + 64 + 8 * w) 8)
    if a < 0x6000000000 ∨ 0x6000000000 + 64 * tableSlots ≤ a ∨ a % 64 ≠ 0 then []
    else img.zipIdx.map (fun x => { pinned := true, addr := a, word := x.2, val := x.1, image := img }))
/-- An internal shadow may be read (R40, R210): each of the two is judged as one access (DEDUCED, notes/assumptions/127.md). -/
def State.shadowOk (s : State) : Bool :=
  let n := s.obj Obj.shadowPinnedCount
  s.addrOk (s.obj Obj.shadowTrieBase) shadowSize false && (n == 0 || s.addrOk (s.obj Obj.shadowPinnedBase) (128 * n) false)
/-- The words of the shadows of an internal location. -/
def State.innerShadow (s : State) : List ShadowWord :=
  s.trieShadow (s.obj Obj.shadowTrieBase) ++ s.pinnedShadow (s.obj Obj.shadowPinnedBase) (s.obj Obj.shadowPinnedCount)

/-- Bits of word w of a pinned entry that the scrubber compares (R208). -/
def scrubMask (w : Nat) : Nat :=
  if w ≤ 4 then 2 ^ 64 - 1 else if w = 5 then 2 ^ 63 + (2 ^ 56 - 2 ^ 44) + (2 ^ 40 - 1) else if w = 6 then 2 ^ 64 - 2 ^ 32 else 0
/-- The table's value beside a shadow word, and the shadow's. -/
def State.scrubVals (s : State) (w : ShadowWord) : Nat × Nat :=
  if w.pinned then ((entryWords (s.entry ((w.addr - 0x6000000000) / 0x40))).getD w.word 0, w.val)
  else (s.trieAt (w.addr / 2 ^ 32) (w.addr % 2 ^ 32), w.val % 2 ^ 32)
/-- The two values as far as they are compared (R208). -/
def State.scrubPair (s : State) (w : ShadowWord) : Nat × Nat :=
  let m := if w.pinned then scrubMask w.word else 2 ^ 32 - 1
  ((s.scrubVals w).1 &&& m, (s.scrubVals w).2 &&& m)
/-- A record of shadow.mismatch_log (R211), with the low 32 bits of each value. -/
def State.scrubLog (s : State) (kind word rep addr tab sh : Nat) : State :=
  let r := encFields false [(8, s.now), (1, kind), (1, word), (1, rep), (5, 0), (8, addr), (4, tab % 2 ^ 32), (4, sh % 2 ^ 32)]
  ({ s with flow := { s.flow with shadowLog := keepLast 64 (s.flow.shadowLog ++ [r]) } } : State).event Obj.shadowMismatchLog
/-- A confirmed mismatch: logged, counted, and repaired in mode 2 (R208, R209). -/
def State.scrubConfirm (s : State) (w : ShadowWord) (tab : Nat) : State :=
  let s := s.ctr Obj.ctrShadowMismatch
  let repair := s.obj Obj.shadowMode == 2
  let sh := (s.scrubVals w).2
  if !w.pinned then
    let s := s.when repair (fun s => (s.setTrie (w.addr / 2 ^ 32) (w.addr % 2 ^ 32) sh).ctr Obj.ctrShadowRepaired)
    s.scrubLog 0 0 (b2n repair) w.addr tab sh
  else
    let i := (w.addr - 0x6000000000) / 0x40
    let e := s.entry i
    let img := entryOfWords w.image
    if e.valid && decide (e.key ≠ img.key) then s.scrubLog 2 w.word 0 w.addr tab sh
    else
      let new := { img with lock := e.lock, owner := e.owner, t2req := e.t2req, stamp := e.stamp, total := e.total, under := e.under }
      let s := s.when repair (fun s => (s.setEntry i new).ctr Obj.ctrShadowRepaired)
      s.scrubLog 1 w.word (b2n repair) w.addr tab sh
/-- A pass of the scrubber over the words of a host shadow, or over an internal one; none: a read failed; a refused read is counted too (R40, R208,
R210). -/
def State.scrub (s : State) (words : Option (List ShadowWord)) : State :=
  let inner := s.obj Obj.shadowLocation == 0
  if s.obj Obj.shadowMode = 0 ∨ s.netOn = false then s
  else match words with
    | none => s.ctr Obj.ctrShadowReadFail
    | some host =>
     if inner && !s.shadowOk then (s.ctr Obj.ctrAddrRefused).ctr Obj.ctrShadowReadFail
     else
      let ws := if inner then s.innerShadow else host
      let s := s.when inner (fun s => (s.movedStack (ensStack (s.obj Obj.shadowTrieBase)) shadowSize).movedStack (ensStack (s.obj Obj.shadowPinnedBase))
        (128 * s.obj Obj.shadowPinnedCount))
      let bad := ws.filter (fun w => (s.scrubPair w).1 != (s.scrubPair w).2)
      let id := fun (w : ShadowWord) => (w.pinned, w.addr, w.word, w.val)
      let old := s.flow.unconf
      let vals := bad.map (fun w => (w, (s.scrubVals w).1))
      let s := s.each (vals.filter (fun x => old.contains (id x.1))) (fun s x => s.scrubConfirm x.1 x.2)
      let s := { s with flow := { s.flow with unconf := bad.map id } }
      s.setObj Obj.shadowPasses ((s.obj Obj.shadowPasses + 1) % 2 ^ 32)

/-! ## Collector delivery (R229, R230) -/

/-- Deliver the oldest packet of collector queue q (0 to 63) to its function's ring (R229). -/
def State.collRing (s : State) (q bad fixed : Nat) : State :=
  let p := q / 4
  let c := q % 4
  let dest := s.obj (Obj.partCollDest p c)
  let kind := dest / 2 ^ 13
  let fn := if kind = 0 then 1 + p else 0
  let k := 64 * fn + (if kind = 0 then c else q)
  let r := s.cRing k
  let n := 2 ^ (8 + r.size)
  if 1 < kind ∨ s.pcie = false ∨ r.en = false then s
  else match (s.queue (192 + q)).front true with
    | none => s.stallPop (192 + q)
    | some ws =>
      if n < (r.prod + 2 * n - r.cons) % (2 * n) + ws.length then s
      else
        let x := s.pop (192 + q) bad fixed
        match x.1 with
        | none => x.2
        | some (pkt, _) =>
          let s := x.2.each pkt.zipIdx (fun s (e : Bytes × Nat) => s.emit (.dma fn (r.base + 64 * ((r.prod + e.2) % n)) e.1))
          let s := s.setCRing k { r with prod := (r.prod + pkt.length) % (2 * n) }
          s.when r.irq (·.emit (.msix fn (if fn = 0 then 6 + q else 4 + c)))
/-- Send the oldest packet of collector queue q as a frame (R230). -/
def State.collFrame (s : State) (q bad fixed : Nat) : State :=
  let p := q / 4
  let dest := s.obj (Obj.partCollDest p (q % 4))
  let kind := dest / 2 ^ 13
  let port := dest % 32 + (if kind = 3 then 32 else 0)
  if (kind ≠ 2 ∧ kind ≠ 3) ∨ s.netOn = false then s
  else match (s.queue (192 + q)).front true with
    | none => s.stallPop (192 + q)
    | some ws =>
      let len := 16 + 64 * ws.length
      if !s.present port || s.portState port == 1 then
        let s := s.dropFront (192 + q)
        s.collDrop (192 + q)
      else match s.admits port with
        | .in_ =>
          let x := s.pop (192 + q) bad fixed
          match x.1 with
          | none => x.2
          | some (pkt, _) =>
            let b := be 6 (x.2.obj (Obj.partCollMac p)) ++ be 6 x.2.dev.mac ++ be 2 (x.2.obj Obj.collEthertype) ++ be 2 (0x2000 + q * 64) ++ pkt.flatten
            (x.2.egress port (b ++ zeros (60 - len)) .good).ctr Obj.ctrCollectorTxFrames
        | _ => s

/-! ## The bundle ring (R350) -/

/-- A bundle descriptor's status when nothing stops it (R40, R349, R350). A stale epoch is judged before the holder, so that a write in flight at a
revoke ends with status 7 (notes/assumptions/87.md). -/
def State.bundleStatus (s : State) (d : BDesc) (write : Bool) : Nat :=
  let g := s.region d.region
  if 64 ≤ d.region ∨ d.len = 0 ∨ 16777216 < d.len then 10
  else if d.epoch % 65536 ≠ g.epoch % 65536 then 7
  else if (if d.fn = 0 then g.holder == 0xFF else g.holder != d.fn - 1) then 8
  else if write && s.heldBySlot d.region then 12
  else if g.size * mib < d.off + d.len ∨ s.addrOk (g.base + d.off) d.len write = false ∨ s.domain 1 = false then 9
  else 0
/-- A bundle ring serves its next descriptor, read from the host; an operation code outside R350 is malformed. -/
def State.bundleOp (s : State) (op : Nat) (d : BDesc) (write : Bool) : State :=
  let r := s.bRing d.fn
  if 16 < d.fn ∨ s.pcie = false ∨ r.en = false ∨ r.sp = r.sc ∨ r.room = false then s
  else
    let st := if op = 1 ∨ op = 2 then s.bundleStatus d write else 10
    let g := s.region d.region
    let s := s.emit (.dmaRead d.fn (r.descAt 64) 64)
    let s := s.when (st == 9) (·.ctr Obj.ctrAddrRefused)
    let s := s.when (st == 7 && write) (·.ctr Obj.ctrBundleDmaFenced)
    let s := if st ≠ 0 then s
      else if write then ((s.emit (.dmaRead d.fn d.host d.len)).memWrite (g.base + d.off) (padTo d.len d.data)).movedStack (ensStack g.base) d.len
      else ((s.emit (.dma d.fn d.host (s.memRead (g.base + d.off) d.len))).movedStack (ensStack g.base) d.len).stackErrs (ensStack g.base) 0xFF (g.base + d.off) d.err
    let c := s.complete d.fn { r with sc := (r.sc + 1) % r.wrap, epoch := g.epoch % 65536 } (completion d.cookie op { st := st }) (if d.fn = 0 then 70 else 8)
    c.1.setBRing d.fn c.2

/-- A bundle descriptor from its 64 bytes (R350); `buf` are the host's bytes. -/
def bdescOf (fn : Nat) (b buf : Bytes) : BDesc :=
  { fn := fn, reserved := byteAt b 1, epoch := leAt b 2 2, cookie := leAt b 4 4, host := leAt b 8 8, region := byteAt b 16, off := leAt b 24 8,
    len := leAt b 32 4, data := buf }
/-- A bundle ring serves a descriptor that it has fetched. -/
def State.serveBundle (s : State) (fn : Nat) (b buf : Bytes) : State := s.bundleOp (byteAt b 0) (bdescOf fn b buf) (byteAt b 0 == 1)

/-! ## Commands -/

/-- FLOW_RING_ENABLE (R194, R200): offset 0x014 is written. -/
def execFlowRingEnable (fn ring v : Nat) (s : State) : Outcome :=
  let k := 4 * fn + ring
  .next (if !(hasRing fn ring && s.bar2On) then s
    else if bit v 0 then (if (s.ring k).en then s.setRing k { s.ring k with irq := bit v 1 } else s.ringEnable k (bit v 1))
    else s.ringDisable k (bit v 1))
/-- RING_KEEP_ALIVE (R194, R200). -/
def execRingKeepAlive (fn ring : Nat) (s : State) : Outcome :=
  let r := s.ring (4 * fn + ring)
  .next (if hasRing fn ring && s.bar2On && r.en then s.renewRing (4 * fn + ring) else s)
/-- READ_KEY (R196). -/
def execReadKey (d : Desc) (s : State) : Outcome := .next (s.descriptor 0x01 d (State.flowOp 0x01 d))
/-- READ_SLOT (R196). -/
def execReadSlot (d : Desc) (s : State) : Outcome := .next (s.descriptor 0x02 d (State.flowOp 0x02 d))
/-- SCAN (R196). -/
def execScan (d : Desc) (s : State) : Outcome := .next (s.descriptor 0x03 d (State.flowOp 0x03 d))
/-- INSERT (R196). -/
def execInsert (d : Desc) (s : State) : Outcome := .next (s.descriptor 0x10 d (State.flowOp 0x10 d))
/-- UPDATE (R196). -/
def execUpdate (d : Desc) (s : State) : Outcome := .next (s.descriptor 0x11 d (State.flowOp 0x11 d))
/-- DELETE (R196). -/
def execDelete (d : Desc) (s : State) : Outcome := .next (s.descriptor 0x12 d (State.flowOp 0x12 d))
/-- AGE_DELETE (R196, R201). -/
def execAgeDelete (d : Desc) (s : State) : Outcome := .next (s.descriptor 0x13 d (State.flowOp 0x13 d))
/-- LOCK (R199). -/
def execLock (d : Desc) (s : State) : Outcome := .next (s.descriptor 0x20 d (State.flowOp 0x20 d))
/-- UNLOCK (R199). -/
def execUnlock (d : Desc) (s : State) : Outcome := .next (s.descriptor 0x21 d (State.flowOp 0x21 d))
/-- TRIE_WRITE (R206). -/
def execTrieWrite (d : Desc) (s : State) : Outcome := .next (s.descriptor 0x30 d (State.flowOp 0x30 d))
/-- TRIE_READ (R206). -/
def execTrieRead (d : Desc) (s : State) : Outcome := .next (s.descriptor 0x31 d (State.flowOp 0x31 d))
/-- LOCK_LEASE_EXPIRY (R200, R421): a tag that holds a lock reaches its lease's deadline. -/
def execLockLeaseExpiry (tag : Nat) (s : State) : Outcome :=
  .next (if (s.tag tag).live && !(s.tagLocks tag).isEmpty then
      let s := s.elapseTo (s.tag tag).lease
      let old := (s.tag tag).epoch
      ((s.endLease tag).ctr Obj.ctrLeasesFenced).faultRec 9 7 8 tag 0xFF 0xFF 0 old ((old + 1) % 65536)
    else s)
/-- LOCK_SWEEP_DONE (R200). -/
def execLockSweepDone (tag : Nat) (s : State) : Outcome := .next (s.sweepDone tag)
/-- SHADOW_PASS (R208 to R211). -/
def execShadowPass (words : Option (List ShadowWord)) (s : State) : Outcome := .next (s.scrub words)
/-- QUEUE_PUSH (R214, R216, R221, R227): one word of a work, result, collector or bulk queue. -/
def execQueuePush (q epoch : Nat) (word : Bytes) (poison : Bool) (s : State) : Outcome :=
  .next (if isResult q && s.objBit Obj.faultIslesFenced ((q - 128) / 16) then s.ctr Obj.ctrIsleFencedWrites
    else if s.netOn && decide (64 ≤ q) && decide (q < 264) then (s.when (isResult q) (·.moved (4 + (q - 128) / 16) 64)).push q epoch word poison else s)
/-- QUEUE_REWIND (R220). -/
def execQueueRewind (q : Nat) (s : State) : Outcome := .next (s.rewind q)
/-- SPILL_REFILL_LAND (R217). -/
def execSpillRefillLand (land : Refill) (s : State) : Outcome := .next (s.refillLand land.queue land.err)
/-- COLLECTOR_RING_DELIVER (R229): q is the collector queue, 192 to 255. -/
def execCollectorRingDeliver (q : Nat) (errs : WordErrs) (s : State) : Outcome :=
  .next (s.when (isCollector q) (·.collRing (q - 192) errs.bad errs.fixed))
/-- COLLECTOR_FRAME_SEND (R230). -/
def execCollectorFrameSend (q : Nat) (errs : WordErrs) (s : State) : Outcome :=
  .next (s.when (isCollector q) (·.collFrame (q - 192) errs.bad errs.fixed))
/-- BUNDLE_HOST_TO_REGION (R350). -/
def execBundleHostToRegion (d : BDesc) (s : State) : Outcome := .next (s.bundleOp 0x01 d true)
/-- BUNDLE_REGION_TO_HOST (R350). -/
def execBundleRegionToHost (d : BDesc) (s : State) : Outcome := .next (s.bundleOp 0x02 d false)

end Sys2Proof.Machine
end

