-- ==== Sys2Proof/Machine/Recovery.lean ====
section
/-! DEFINITION. Faults and recovery (spec/16): re-maps (R377), restarts and holds (R426, R428), isle fences and restores
(R423, R424), and tier-2 results with the recovery they start (R354, R425, R427). -/
namespace Sys2Proof.Machine

/-- fault.recovering follows the recoveries in progress (R417). -/
def State.markRecovering (s : State) : State :=
  s.setEv Obj.faultRecovering (b2n (!s.fault.restoring.isEmpty || (List.range 16).any (fun p => s.obj (Obj.partRecoveryState p) == 2)))
/-- A fault attributed to a partition. -/
def State.partFault (s : State) (p : Nat) : State := s.setObj (Obj.partFaults p) ((s.obj (Obj.partFaults p) + 1) % 2 ^ 32)
/-- Set a partition's recovery state. -/
def State.setRecovery (s : State) (p v : Nat) : State := (s.setEv (Obj.partRecoveryState p) v).markRecovering
/-- Show re-mapped or normal as the slots are, unless the partition restarts or is held. -/
def State.showRemap (s : State) (p : Nat) : State :=
  if 2 ≤ s.obj (Obj.partRecoveryState p) then s
  else s.setRecovery p (b2n ((List.range 4).any (fun n => (s.remapOf p n).kind != 0)))

/-! ## Re-map (R377) -/

/-- A slot in use: Resident, Active or Draining. -/
def State.slotUsed (s : State) (p n : Nat) : Bool := decide (3 ≤ s.slotState p n) && decide (s.slotState p n ≤ 5)
/-- The target that re-map chooses for slot n of partition p (R377 step 2): ties among local slots go to the lowest
(DEDUCED, notes/assumptions/39.md). -/
def State.remapTarget (s : State) (p n : Nat) : Remap :=
  let d := (s.slot p n).digest
  let own := s.slotIsle p n
  let loc := (List.range 4).find? (fun m => m != n && s.slotState p m == 3 && s.slotIsle p m != own &&
    (match s.slotIsle p m with | some i => s.isleOn i && !s.objBit Obj.faultIslesFenced i | none => false) && (s.slot p m).digest == d)
  match loc with
  | some m => { kind := 1, unit := (s.slotIsle p m).getD 0, part := p, slot := m }
  | none =>
    let cands := s.pool.reg.filter (fun e => e.2.kind == 2 && e.2.digest == d && e.2.holder != s.self && s.member e.2.holder &&
      !s.isMgmt e.2.holder && (s.route e.2.holder).isSome && s.obj Obj.compatState != 2)
    let best := cands.foldl (fun (b : Option (Nat × RegEntry)) e =>
      let h := ((s.route e.2.holder).getD (0, 0)).2
      match b with
      | none => some (h, e.2)
      | some (h', e') => if h < h' ∨ (h = h' ∧ e.2.holder < e'.holder) then some (h, e.2) else b) none
    match best with
    | some (_, e) => { kind := 2, unit := e.holder, part := e.part, slot := e.slot }
    | none => { kind := 3, unit := 0, part := 0, slot := 0 }

/-- Re-map a slot (R377): withdraw, choose, record, re-issue. -/
def State.remap (s : State) (p n : Nat) : State :=
  let rs := s.m.out2.filter (fun r => r.part == p && r.slot == n)
  let s := s.each rs State.withdraw
  let s := s.setSlot p n { s.slot p n with fence := (s.slot p n).fence + 1 }
  let t := s.remapTarget p n
  let s := s.setRemap p n t
  let s := s.when (t.kind != 3) (·.ctr Obj.ctrPoolRemaps)
  let s := s.each rs (fun s r => if s.canReissue r then s.addReissue r else s)
  s.showRemap p
/-- Try again for every unplaced slot of a re-map partition (R377 step 4). -/
def State.retryRemap (s : State) : State :=
  s.each (List.range 64) (fun s i =>
    let p := i / 4
    let n := i % 4
    if (s.remapOf p n).kind = 3 ∧ s.obj (Obj.partRecoveryPolicy p) = 1 ∧ (s.remapTarget p n).kind ≠ 3 then s.remap p n else s)
/-- A slot returns to its own quads: its re-map ends (R377, R424). -/
def State.endRemap (s : State) (p n : Nat) : State :=
  if (s.remapOf p n).kind = 0 then s else (s.setRemap p n {}).showRemap p

/-! ## Restart and hold (R426, R428) -/

/-- Restart a partition's job, or hold the partition (R426, R428). -/
def State.restart (s : State) (p : Nat) : State :=
  let s := s.withdrawAll (fun r => r.part == p)
  let s := s.each (List.range 4) (fun s n =>
    let s := s.setSlot p n { s.slot p n with fence := (s.slot p n).fence + 1 }
    if s.slotUsed p n then s.disarm p n else s)
  let s := s.drainDone p
  let s := s.ctr Obj.ctrJobRestarts
  let w := s.partSw p
  let ts := w.restarts.filter (fun t => decide (s.clk.ticks < t + secT 10)) ++ [s.clk.ticks]
  let s := s.setPartSw p { w with restarts := ts }
  s.setRecovery p (if s.obj (Obj.partRestartLimit p) < ts.length then 3 else 2)

/-- The re-arming of a restarted partition completes (R426): a slot on a fenced isle stays unplaced; one whose isle is Off
is armed when it powers up (R345). -/
def State.restartArmed (s : State) (p : Nat) : State :=
  if s.obj (Obj.partRecoveryState p) ≠ 2 then s
  else
    let s := s.each (List.range 4) (fun s n =>
      if !s.slotUsed p n || (s.slot p n).armed then s
      else match s.slotIsle p n with
        | none => s
        | some i =>
          if s.objBit Obj.faultIslesFenced i then s.setRemap p n { kind := 3 }
          else if !s.isleOn i then { s with res := { s.res with needIsle := setBit s.res.needIsle i true } }
          else s.rearm p n true {})
    s.setRecovery p 0

/-- Recovery of a fault on slot n of partition p (R425 to R429): the request re-issued or withdrawn, or the job restarted;
one record for each action. -/
def State.slotFault (s : State) (p n : Nat) (req : Option T2Req) (oper : Bool) (time cls ukind unit code detail : Nat) : State :=
  let rec_ := fun (s : State) (act e : Nat) => s.faultRecAt time cls act ukind unit p n code detail e
  let s := s.partFault p
  if s.slotState p n = 6 then
    let s := match req with | some r => s.withdraw r | none => s
    let s := s.when req.isSome (rec_ · 2 0)
    if oper then rec_ s 6 ((s.slot p n).fence) else if req.isSome then s else rec_ s 0 0
  else if s.obj (Obj.partRecoveryPolicy p) = 2 then
    let s := s.restart p
    rec_ s (if s.obj (Obj.partRecoveryState p) = 3 then 10 else 5) ((s.slot p n).fence)
  else match req with
    | none => rec_ s 0 0
    | some r =>
      if oper then rec_ (s.withdraw r) 2 0
      else
        let t := s.reissue r
        rec_ t.1 (if t.2 then 1 else 2) 0

/-! ## Isles (R130, R141, R423, R424) -/

/-- An isle's domain powers up with its image and M3 extended (R90 step 9, R102, R130). -/
def State.isleUp (s : State) (n : Nat) : State :=
  let s := s.setEvBit Obj.powerDomains (2 + n) true
  let s := s.setEvBit Obj.machineIslesUp n true
  let s := s.extend 3 n (imageDigest s.boot.isle)
  let s := { s with res := { s.res with needIsle := setBit s.res.needIsle n false, off := setBit s.res.off n false } }
  (s.setSched n { last := s.clk.ticks }).traceSync (4 + n) 4
/-- An isle's domain powers down: what it holds is lost (R129) and its slots are no longer armed. -/
def State.isleDown (s : State) (n : Nat) : State :=
  let s := ((s.loseIsle n).setEvBit Obj.powerDomains (2 + n) false).setEvBit Obj.machineIslesUp n false
  let s := { s with res := { s.res with nap := mdrop (fun c => c / 32 == n) s.res.nap, doze := mdrop (fun q => q / 8 == n) s.res.doze,
                                        entering := s.res.entering.filter (fun e => if e.1 then e.2 != n else e.2 / 8 != n),
                                        ends := s.res.ends.filter (fun e => if e.1.1 then e.1.2 != n else e.1.2 / 8 != n),
                                        idle := mdrop (fun c => c / 32 == n) s.res.idle,
                                        wakes := s.res.wakes.filter (fun q => q / 8 != n) } }
  s.each (List.range 64) (fun s i => if s.slotIsle (i / 4) (i % 4) = some n ∧ (s.slot (i / 4) (i % 4)).armed
    then s.setSlot (i / 4) (i % 4) { s.slot (i / 4) (i % 4) with armed := false } else s)

/-- A remote result with a status goes to a work record's origin (R376): its envelope and one word, in network order on the strait (R14). -/
def State.sendResult (s : State) (origin p n : Nat) (word : Bytes) : State :=
  if s.member origin then
    s.sendPacket 1 0x11 origin (be 1 p ++ be 1 n ++ zeros 6 ++ padTo 24 ((s.slot p n).digest.take 24) ++ flipFields resultFields (padTo 64 word))
  else s.ctr Obj.ctrPoolResultOrphan
/-- A result record (R354) that answers a work record with a status and no output. -/
def resultFor (w : Bytes) (status : Nat) : Bytes := padTo 64 ([byteAt w 0, byteAt w 1, byteAt w 2, status].map (BitVec.ofNat 8) ++ slice w 4 12)
/-- Origin of a work or result record's request. -/
def recOrigin (w : Bytes) : Nat := byteAt w 15

/-- Empty a work queue; remote records, those that wait for its room among them, return with status 3 (R423). -/
def State.emptyWork (s : State) (q : Nat) : State :=
  let u := s.queue q
  let ws := s.m.waiting.filter (fun e => e.1 != q)
  let heads := u.heads ++ (s.m.waiting.filter (fun e => e.1 == q)).map (fun e => e.2.flatten)
  let s := { s with m := { s.m with waiting := ws } }
  let s := (s.setQueue q { u with words := [], pkts := [], unc := 0, rd := u.wr, cm := u.wr }).markWork q
  s.each (heads.filter (fun w => bit (byteAt w 3) 1)) (fun s w => s.sendResult (recOrigin w) (byteAt w 1) (byteAt w 2) (resultFor w 3))

/-- A stack becomes unreachable (R21): record-valid bits, middles, walks and loads in it go (R219, R239, R253, R423); record updates that wait for a
fetch from it are discarded and counted, and the requests that wait for them withdrawn. -/
def State.loseStack (s : State) (n : Nat) : State :=
  let s := s.setEvBit Obj.machineStacksUp n false
  let rs := mdrop (fun i => recStack i == n) s.t1.recs
  let fs := s.t1.fetches.filter (fun (f : Nat × List FetchUpd) => recStack f.1 != n)
  let us := (s.t1.fetches.filter (fun (f : Nat × List FetchUpd) => recStack f.1 == n)).flatMap (·.2)
  let s := { s with t1 := { s.t1 with recs := rs, fetches := fs, cache := s.t1.cache.filter (fun i => recStack i != n) } }
  let s := (s.addCtr Obj.ctrRecordUnreachable us.length).each (us.filterMap (·.req)) State.formVector
  let s := (s.loseMiddles n).abandonStack n
  s.each (List.range 64) (fun s i => match (s.slot (i / 4) (i % 4)).load with
    | some v => if v < 64 ∧ (s.region v).stack = n then s.loadFail (i / 4) (i % 4) 8 else s
    | none => s)

/-- A fence of isle n (R423) with its cause: class, unit kind and detail of the fault records. -/
def State.fenceIsle (s : State) (n cls ukind detail : Nat) : State :=
  if s.objBit Obj.faultIslesFenced n then s
  else
    let time := s.now
    let s := s.setEvBit Obj.machineIslesUp n false
    let s := s.setEvBit Obj.faultIslesFenced n true
    let e := (mget (fun _ => 0) s.fault.isleEpoch n + 1) % 2 ^ 32
    let s := { s with fault := { s.fault with isleEpoch := mset (fun _ => 0) s.fault.isleEpoch n e, fencedAt := mset (fun _ => 0) s.fault.fencedAt n (s.clk.ticks + 1) } }
    let s := (s.ctr Obj.ctrIsleFences).faultRecAt time cls 3 ukind n 0xFF 0xFF 0 detail e
    let s := s.each (List.range 16) (fun s p => s.fenceProducer (128 + 16 * n + p))
    let placed := (List.range 64).filter (fun i => s.slotIsle (i / 4) (i % 4) == some n)
    let s := s.each (List.range 16) (fun s p => s.emptyWork (64 + 16 * n + p))
    let s := s.each (placed.filter (fun i => s.obj (Obj.partRecoveryPolicy (i / 4)) == 2 || !s.slotUsed (i / 4) (i % 4)))
      (fun s i => s.withdrawAll (fun r => r.part == i / 4 && r.slot == i % 4))
    let s := { (s.isleDown n) with obs := { (s.isleDown n).obs with halted := setBit s.obs.halted n false } }
    -- slots re-mapped onto this isle, and the isle's own slots, by each partition's policy
    let hit := (List.range 64).filter (fun i =>
      let p := i / 4
      let m := i % 4
      s.slotUsed p m && (placed.contains i && (s.remapOf p m).kind == 0 || (s.remapOf p m).kind == 1 && (s.remapOf p m).unit == n))
    let s := s.each hit (fun s i =>
      let p := i / 4
      let m := i % 4
      if s.obj (Obj.partRecoveryPolicy p) = 2 then s
      else
        let s := (s.partFault p).remap p m
        s.faultRecAt time cls 4 ukind n p m 0 detail ((s.slot p m).fence))
    let ps := (List.range 16).filter (fun p => s.obj (Obj.partRecoveryPolicy p) == 2 && hit.any (fun i => i / 4 == p))
    let s := s.each ps (fun s p =>
      let s := (s.partFault p).restart p
      let s := s.each (hit.filter (fun i => i / 4 == p)) (fun s i => s.setRemap p (i % 4) { kind := 3 })
      s.faultRecAt time cls (if s.obj (Obj.partRecoveryState p) = 3 then 10 else 5) ukind n p 0xFF 0 detail 0)
    s.markRecovering

/-- A sound fails (R414). -/
def State.soundFail (s : State) (n : Nat) : State :=
  let s := s.setEvBit Obj.machineSoundsUp n false
  let s := { s with pwr := { s.pwr with soundBad := setBit s.pwr.soundBad n true } }
  let s := s.ctr Obj.ctrSoundFailures
  let e := mget (fun _ => 0) s.fault.isleEpoch n
  -- a sound has no link epoch of its own; the isle's fencing epoch stands for it (DEDUCED, notes/assumptions/40.md)
  let s := s.loseStack n
  if s.objBit Obj.faultIslesFenced n then s.faultRec 5 0 5 n 0xFF 0xFF 0 e e else s.fenceIsle n 5 5 e

/-- Start the restore of the isles of a mask (R424). -/
def State.startRestore (s : State) (mask : Nat) : State :=
  let s := s.each (bitsOf 4 mask) (fun s n =>
    { s with fault := { s.fault with restoring := mset (fun _ => 0) s.fault.restoring n (s.clk.ticks + usT 100) } })
  s.markRecovering
/-- A write of fault.isle_restore (R424): the state, and an abort code or 0. -/
def State.isleRestoreWrite (s : State) (v : Nat) : State × Nat :=
  if (bitsOf 8 v).any (fun n => decide (4 ≤ n) || !s.objBit Obj.faultIslesFenced n) then (s, 0xC150)
  else (s.startRestore v, 0)
/-- A restore's sound has trained (R424 steps 2 to 5): only while PD-NET and PD-HBM are powered (R128). -/
def State.soundTrained (s : State) (n : Nat) : State :=
  if mget (fun _ => 0) s.fault.restoring n = 0 ∨ s.netOn = false ∨ s.domain 1 = false then s
  else
    let s := { s with fault := { s.fault with restoring := mset (fun _ => 0) s.fault.restoring n 0, fencedAt := mset (fun _ => 0) s.fault.fencedAt n 0 } }
    let s := s.setEvBit Obj.machineSoundsUp n true
    let s := { s with pwr := { s.pwr with soundBad := setBit s.pwr.soundBad n false } }
    let s := s.setEvBit Obj.machineStacksUp n true
    let s := s.setEvBit Obj.faultIslesFenced n false
    let s := s.isleUp n
    let placed := (List.range 64).filter (fun i => s.slotIsle (i / 4) (i % 4) == some n && s.slotUsed (i / 4) (i % 4))
    let s := s.each placed (fun s i =>
      let p := i / 4
      let m := i % 4
      let b := s.slotBytes p m (s.slot p m).region
      if (match (s.slot p m).region with | some r => (s.region r).stack == n && !bundleDigestsOk b | none => false) then
        (s.setEv (Obj.partSlotLoadStatus p m) 1).emptySlot p m
      else if s.obj (Obj.partRecoveryState p) = 3 then s
      else (s.rearm p m true {}).endRemap p m)
    s.retryRemap.markRecovering
/-- The sound did not train within 100 µs: the restore fails (R424). -/
def State.restoreFail (s : State) (n : Nat) : State :=
  let d := mget (fun _ => 0) s.fault.restoring n
  if d = 0 then s
  else
    let s := s.elapseTo d
    let s := { s with fault := { s.fault with restoring := mset (fun _ => 0) s.fault.restoring n 0 } }
    let e := mget (fun _ => 0) s.fault.isleEpoch n
    (s.faultRec 5 3 5 n 0xFF 0xFF 0 e e).markRecovering

/-! ## Results (R353, R354, R422) -/

/-- A result for a request of this device, of a slot here or of a peer (R353, R354, R376, R422, R425). -/
def State.resultIn (s : State) (w : Bytes) : State :=
  let seq := leAt w 8 6
  match s.t2req seq with
  | none => s.ctr Obj.ctrT2Late
  | some r =>
    let st := byteAt w 3
    let p := r.part
    let n := r.slot
    if r.deadline < s.clk.ticks then (s.withdraw r).ctr Obj.ctrT2Late
    else if st = 1 then
      let code := byteAt w 20
      let oper := code == 0x0C || code == 0x0D
      let cls := if code = 0x0E then 2 else if code = 0x0F then 3 else if code = 0 then 1 else 4
      if s.slotState p n = 6 then s.withdraw r
      else if s.obj (Obj.partRecoveryPolicy p) = 2 then s.slotFault p n (some r) oper s.now cls 2 ((s.slotIsle p n).getD 0) code 0
      else if oper then s.withdraw r
      else (s.reissue r).1
    else if st ≠ 0 then s.withdraw r
    else
      let m := s.remapOf p n
      let t := if m.kind = 1 then m.slot else n
      if m.kind ≠ 2 ∧ r.fence ≠ (s.slot p t).fence then (s.freeReq seq).ctr Obj.ctrSlotFencedResults
      else s.t2Write r (leAt w 16 4) (leAt w 4 4)

/-- The result writer takes the next record of result queue 16 n + p (R354, R376). A poisoned word is discarded (R222). -/
def State.tier2Result (s : State) (n p : Nat) (eccBad : Bool) : State :=
  let r := s.pop (128 + 16 * n + p) (b2n eccBad) 0
  match r.1 with
  | none => r.2
  | some (ws, poison) =>
    let w := ws.headD []
    if poison then r.2.faultRec 2 0 1 0 p 0xFF 0 0 0
    else if recOrigin w = 0xFF then r.2.resultIn w
    else r.2.sendResult (recOrigin w) (byteAt w 1) (byteAt w 2) w

/-- A request's timeout passes without a result (R353). -/
def State.t2Expire (s : State) (seq : Nat) : State :=
  match s.t2req seq with
  | none => s
  | some r => (s.elapseTo r.deadline).withdraw r

/-! ## Core resets and watchdogs (R287, R415, R425) -/

/-- What a reset leaves of a core (R287). -/
def Core.afterReset (k : Core) : Core :=
  { k with rows := [], tags := [], cfg := [], fill := [], cache := [], port := [], passes := [], wld := none, branch := none,
           bundle := [], run := 0, cur := none, status := 1, barrier := none, preempt := false, fault := none }

/-- The scheduler resets a stopped core and what follows its fault is decided (R287, R425): `cls` is the class of the
records. -/
def State.resetCore (s : State) (c : Nat) : State :=
  let k := s.core c
  match k.fault with
  | none => s
  | some (code, detail, time) =>
    let cls := if code = 0x10F then 8 else if code = 0x0E then 2 else if code = 0x0F then 3 else 4
    let cd := code % 256
    let oper := code == 0x0C || code == 0x0D
    let req := k.cur.bind (fun m => s.reqOfTag m.tag)
    let where_ := match req with | some r => some (4 * r.part + r.slot) | none => s.slotOfCore c
    let s := s.setCore c k.afterReset
    -- after an array mismatch isle firmware loads the pinned blocks again (R425)
    let s := if code = 0x0F then (match s.slotOfCore c with
        | some i => let u := s.slot (i / 4) (i % 4); (match u.place with
            | some pl => let w := secBytes (s.slotBytes (i / 4) (i % 4) u.region) 6
                         s.each (pl.blocks.filter (fun b => b.pinned && coreAt u.quads b.core == c)) (fun s b => s.armBlock u.quads pl.positions w b)
            | none => s)
        | none => s) else s
    -- the class 2 record's address: an uncorrectable tile row has none the spec states
    let f := if cls = 2 then s.fresh else (detail, s)
    let s := f.2
    let s := match where_ with
      | some i => s.slotFault (i / 4) (i % 4) req oper time cls 3 c (if code = 0x10F then 0 else cd) (if cls = 8 then 0 else f.1 % 2 ^ 64)
      | none => s.faultRecAt time cls 0 3 c (s.partOfCore c) 0xFF (if code = 0x10F then 0 else cd) (if cls = 8 then 0 else f.1 % 2 ^ 64) 0
    let s := s.refillPort c
    if code = 0x0F then
      let n := c / 32
      let ts : List Nat := (mget (fun _ => ([] : List Nat)) s.fault.mism n).filter (fun t => decide (s.clk.ticks < t + secT 1)) ++ [s.clk.ticks]
      let s := { s with fault := { s.fault with mism := mset (fun _ => ([] : List Nat)) s.fault.mism n ts } }
      if s.obj Obj.faultMismatchLimit ≤ ts.length then s.fenceIsle n 3 2 f.1 else s
    else s

/-- A core watchdog expires (R415): stopped and reset as for a core fault; the request completes with status 1. -/
def State.coreWd (s : State) (c : Nat) : State :=
  let k := s.core c
  if k.run ≠ 1 ∨ s.isleOn (c / 32) = false ∨ bit s.obs.halted (c / 32) then s
  else
    let s := s.elapseTo (k.since + usT (s.obj Obj.faultCoreWd))
    let n := k.passes.length
    let k' := k.passes.foldl (fun k p => k.poisonTile p.td) k
    let s := s.setCore c { k' with passes := [], wld := none, run := 2, fault := some (0x10F, 0, s.now) }
    ((s.ctr Obj.ctrWatchdogExpiries).addCtr Obj.ctrChunksAbandoned n).resetCore c

/-- The scheduler watchdog's condition (R415): a work queue of the isle holds a record, or a command is outstanding. -/
def State.isleBusy (s : State) (n : Nat) : Bool :=
  (List.range 16).any (fun p => !(s.queue (64 + 16 * n + p)).pkts.isEmpty) || !(s.sched n).waiting.isEmpty ||
  (List.range 32).any (fun i => (s.core (32 * n + i)).cur.isSome)
/-- A scheduler watchdog expires (R415). -/
def State.isleWd (s : State) (n : Nat) : State :=
  if !s.isleOn n || !s.isleBusy n || bit s.obs.halted n then s
  else
    let s := s.elapseTo ((s.sched n).last + usT (s.obj Obj.faultIsleWd))
    (s.ctr Obj.ctrWatchdogExpiries).fenceIsle n 8 2 0

/-- A write of part.recover_resume (R428): the state, and an abort code or 0. -/
def State.recoverResumeWrite (s : State) (p v : Nat) : State × Nat :=
  if v = 0 then (s, 0)
  else if s.obj (Obj.partRecoveryState p) ≠ 3 then (s, 0xC80A)
  else
    let s := s.setPartSw p { s.partSw p with restarts := [] }
    let s := (s.setRecovery p 0).restart p
    (s, 0)

/-! ## Commands -/

/-- SLOT_LOAD_COMPLETE (R341): a running load ends. -/
def execSlotLoadComplete (part slot : Nat) (err : Bursts) (s : State) : Outcome := .next (s.loadComplete part slot err)
/-- DRAIN_COMPLETE (R357, R358). -/
def execDrainComplete (part : Nat) (s : State) : Outcome := .next (s.drainDone part)
/-- GAP_ARM_DONE (R358): the Staged slot's arming ends. -/
def execGapArmDone (part : Nat) (arm : Arming) (s : State) : Outcome := .next (s.gapArmed part arm.ok arm.err)
/-- SLOT_REARM (R345): it fails when the region's contents were lost. -/
def execSlotRearm (part slot : Nat) (arm : Arming) (s : State) : Outcome := .next (s.rearm part slot arm.ok arm.err)
/-- T2_TIMEOUT (R353): `req` is the request's sequence. -/
def execT2Timeout (req : Nat) (s : State) : Outcome := .next (s.t2Expire req)
/-- TIER2_RESULT (R354): the result writer takes the next record of a result queue. -/
def execTier2Result (isle part : Nat) (eccBad : Bool) (s : State) : Outcome :=
  .next (s.when s.netOn (·.tier2Result isle part eccBad))
/-- CORE_RESET (R287): the scheduler of a powered isle whose clocks run resets a stopped core; recovery is decided (R425). -/
def execCoreReset (core : Nat) (s : State) : Outcome := .next (s.when (s.isleOn (core / 32)) (·.resetCore core))
/-- CORE_WATCHDOG (R415). -/
def execCoreWatchdog (core : Nat) (s : State) : Outcome := .next (s.coreWd core)
/-- ISLE_WATCHDOG (R415). -/
def execIsleWatchdog (isle : Nat) (s : State) : Outcome := .next (s.isleWd isle)
/-- SOUND_TRANSFER_FAIL (R414): a transfer fails its CRC and is resent, each time counted; the sound fails once 8 resends pass without
acknowledgement, or as a lane of it loses training. -/
def execSoundTransferFail (sound : Nat) (err : SoundErr) (s : State) : Outcome :=
  .next (s.when (s.netOn && s.objBit Obj.machineSoundsUp sound) (fun s =>
    (s.addCtr Obj.ctrSoundRetries (min 8 err.resends)).when (err.laneLoss || decide (8 ≤ err.resends)) (·.soundFail sound)))
/-- SOUND_TRAINED (R424). -/
def execSoundTrained (isle : Nat) (s : State) : Outcome := .next (s.soundTrained isle)
/-- RESTORE_TRAIN_TIMEOUT (R424). -/
def execRestoreTrainTimeout (isle : Nat) (s : State) : Outcome := .next (s.restoreFail isle)
/-- ISLE_AUTO_RESTORE (R424): 1 s after the fence, if fault.isle_auto_restore is 1. -/
def execIsleAutoRestore (isle : Nat) (s : State) : Outcome :=
  let t := mget (fun _ => 0) s.fault.fencedAt isle
  .next (if t = 0 ∨ s.obj Obj.faultIsleAutoRestore = 0 ∨ mget (fun _ => 0) s.fault.restoring isle ≠ 0 ∨ s.objBit Obj.faultIslesFenced isle = false then s
    else
      let s := s.elapseTo (t - 1 + secT 1)
      let f := mset (fun _ => 0) s.fault.fencedAt isle 0
      ({ s with fault := { s.fault with fencedAt := f } } : State).startRestore (2 ^ isle))
/-- RESTART_ARMING_DONE (R426). -/
def execRestartArmingDone (part : Nat) (s : State) : Outcome := .next (s.restartArmed part)

end Sys2Proof.Machine
end

