-- ==== Sys2Proof/Machine/Pool.lean ====
section
/-! DEFINITION. Pools (spec/13): admission, heartbeats, registry updates, replica locks, segments, remote work and credits
(R368 to R376). The Cuhild packets of R77 are in Cuhild.lean. -/
namespace Sys2Proof.Machine

/-- The device takes part in a pool (R369). -/
def State.inPool (s : State) : Bool := s.netOn && s.obj Obj.poolId != 0 && s.obj Obj.poolDevice != 0xFF
/-- A management member (R370): this device. -/
def State.mgmt (s : State) : Bool := s.obj Obj.compatState == 2

/-! ## Admission (R114, R369) -/

/-- The outcome this device gives a request (R114, R369); among several grounds the lower code (DEDUCED,
notes/assumptions/42.md). The second part is the pair's result (R112). -/
def State.admitOutcome (s : State) (poolId device serial : Nat) (record : Bytes) : Nat × Nat :=
  let pair := if recOk 1 record then pairOutcome s.harbourRecord (recTrim record) else 2
  let allow := s.obj Obj.compatAllowProvisionalPool == 1
  let taken := device == s.self || (s.member device && (s.peer device).serial != serial)
  let out := if pair = 2 ∨ (allow = false ∧ (pair = 1 ∨ s.obj Obj.compatState = 1)) then 1
    else if poolId ≠ s.obj Obj.poolId then 2 else if taken then 3 else 0
  (out, pair)

/-- Send an admission request (R369; its layout is a DESIGN CHOICE, notes/assumptions/43.md). -/
def State.sendAdmit (s : State) (d : Nat) : State :=
  s.sendPacket 0 0x03 d (be 4 (s.obj Obj.poolId) ++ be 1 s.self ++ be 1 (s.obj Obj.compatState) ++ zeros 2 ++ be 8 s.dev.serial ++ s.harbourRecord)

/-- Credits of work queue w that are granted (R368). -/
def State.grantedFor (s : State) (w : Nat) : Nat := (s.members.map (fun d => mget (fun _ => 0) s.pool.granted (64 * d + w))).foldl (· + ·) 0
/-- Grant work credits in units of 8 to admitted members for the work queues of the slots served here (R226, R368;
which member is granted when is a DESIGN CHOICE, notes/assumptions/44.md). -/
def State.grantCredits (s : State) : State :=
  if s.mgmt then s
  else s.each (List.range 64) (fun s w =>
    let p := w % 16
    let served := s.objBit Obj.poolServeMask p && (List.range 4).any (fun n => s.slotUsed p n && s.slotIsle p n == some (w / 16))
    if !served || (s.queue (64 + w)).high then s
    else s.each s.members (fun s d =>
      let g := fun (s : State) (d : Nat) => mget (fun _ => 0) s.pool.granted (64 * d + w)
      if s.isMgmt d ∨ 8 ≤ g s d ∨ 511 - s.obj (Obj.partWorkHigh p) < s.grantedFor w + 8 then s
      else
        let m := mset (fun _ => 0) s.pool.granted (64 * d + w) (g s d + 8)
        ({ s with pool := { s.pool with granted := m } } : State).sendPacket 0 0x06 d (be 1 w ++ zeros 1 ++ be 2 8)))
/-- A remote record leaves work queue w (R226, R368): its credit goes back to the origin, or lapses while w is high or more is granted than
part.work_high now allows. -/
def State.creditBack (s : State) (w : Nat) (record : Bytes) : State :=
  if !bit (byteAt record 3) 1 then s
  else
    let d := recOrigin record
    if (s.queue (64 + w)).high || decide (511 - s.obj (Obj.partWorkHigh (w % 16)) < s.grantedFor w) then
      let m := mupd (fun _ => 0) s.pool.granted (64 * d + w) (fun n => n - 1)
      { s with pool := { s.pool with granted := m } }
    else if s.member d then s.sendPacket 0 0x06 d (be 1 w ++ zeros 1 ++ be 2 1) else s

/-- A pair is admitted once both replies are 0 (R369): the registry goes in full (R373) and credits are granted. -/
def State.tryAdmit (s : State) (d : Nat) : State :=
  let v := s.peer d
  if v.mine = some 0 ∧ v.theirs = some 0 ∧ s.member d = false then
    let s := s.setPeer d { v with at_ := s.clk.ticks }
    let s := s.setEvBit Obj.poolMembers d true
    let s := s.sendReg d (s.ownEntries.map (·.2))
    s.grantCredits.retryRemap
  else s

/-- An admission request of device src, whose packet names pool, device, serial, compat.state and record (R369). -/
def State.admitRequest (s : State) (src poolId device serial compat : Nat) (record : Bytes) : State :=
  if !s.inPool then s
  else
    let o := s.admitOutcome poolId device serial record
    -- the decision is measured but does not count in compat.state (R103, R112; notes/assumptions/45.md)
    let s := s.extend 6 (0x0101) (sha384 (decisionRecord s.harbourRecord (recTrim record) o.2))
    let v := s.peer src
    let fresh := v.mine.isNone
    -- a device that claims a taken number changes nothing of the member that holds it
    let s := if o.1 = 3 then s.ctr Obj.ctrPoolAdmitRefused
      else (s.setPeer src { v with serial := serial, mine := some o.1, pair := o.2, compat := compat, version := recVersion record }).when
        (o.1 != 0) (·.ctr Obj.ctrPoolAdmitRefused)
    let s := if fresh then s.sendAdmit src else s
    (s.sendPacket 0 0x04 src (be 1 o.1)).tryAdmit src
/-- An admission reply (R369). -/
def State.admitReply (s : State) (src outcome : Nat) : State :=
  if !s.inPool then s else (s.setPeer src { s.peer src with theirs := some outcome }).tryAdmit src

/-- The value of pool.peer_compat (R369). -/
def State.peerCompat (s : State) : Bytes :=
  (List.range 64).flatMap (fun d => let v := s.peer d
    encFields false [(1, if v.mine.getD 0 = 0 then v.theirs.getD 0 else v.mine.getD 0), (1, v.pair), (3, v.version), (3, 0)])
/-- The value of pool.remap_table (R377). -/
def State.remapTable (s : State) : Bytes :=
  (List.range 64).flatMap (fun i => let m := mget (fun _ => ({} : Remap)) s.pool.remap i
    encFields false [(1, m.kind), (1, m.unit), (1, m.part), (1, m.slot), (4, 0)])

/-! ## Heartbeats (R371, R372) -/

/-- A sequence advances (R372): it is the first one heard, or lies less than half the 16-bit range ahead of the latest heard (DEDUCED,
notes/assumptions/137.md). -/
def seqAdvances (old : Option Nat) (seq : Nat) : Bool :=
  match old with
  | none => true
  | some o => let ahead := (seq + 65536 - o) % 65536; decide (0 < ahead) && decide (ahead < 32768)
/-- A member's sequence is heard (R372): the loss timer starts again when it advances. -/
def State.hear (s : State) (d seq : Nat) : State :=
  let v := s.peer d
  if seqAdvances v.seq seq then
    let ls := s.pool.locks.map (fun l => if l.locker = d then { l with deadline := s.clk.ticks + msT 10 } else l)
    ({ s with pool := { s.pool with locks := ls } } : State).setPeer d { v with seq := some seq, at_ := s.clk.ticks }
  else s
/-- A heartbeat arrives on strait i (R371): entries are hops and the low 16 bits of each device's sequence. -/
def State.heartbeatIn (s : State) (i origin seq : Nat) (entries : List (Nat × Nat)) : State :=
  if !s.straitUp i || !s.inPool then s
  else
    let adv := mset (fun _ => ([] : List (Nat × Nat))) s.pool.adv i entries
    let s := { s with pool := { s.pool with adv := adv } }
    let s := s.hear origin (seq % 2 ^ 16)
    let s := s.each (entries.zipIdx.filter (fun (e : (Nat × Nat) × Nat) => e.1.1 != 0xFF && e.2 != origin && e.2 != s.self))
      (fun s e => s.hear e.2 e.1.2)
    -- a device newly reachable is asked for admission (DESIGN CHOICE, notes/assumptions/43.md)
    let s := s.each (entries.zipIdx.filter (fun (e : (Nat × Nat) × Nat) => e.1.1 != 0xFF && e.2 != s.self && !s.member e.2))
      (fun s e => if (s.peer e.2).mine.isNone && (s.route e.2).isSome then s.sendAdmit e.2 else s)
    s.grantCredits
/-- The heartbeat period (R371): one on each Up strait to an admitted adjacent member. -/
def State.heartbeatOut (s : State) : State :=
  if !s.inPool then s
  else
    let n := (s.pool.seq + 1) % 2 ^ 32
    let s := { s with pool := { s.pool with seq := n } }
    let body := be 1 s.self ++ zeros 3 ++ be 4 n ++ (List.range 64).flatMap (fun d =>
      let h := if d = s.self then 0 else match s.route d with | some r => r.2 | none => 0xFF
      be 1 h ++ zeros 1 ++ be 2 (if d = s.self then n % 2 ^ 16 else (s.peer d).seq.getD 0 % 2 ^ 16))
    s.each (List.range 8) (fun s i =>
      let d := s.obj (Obj.straitPeer i)
      if s.straitUp i && s.member d then
        let p : SPkt := { ch := 0, dst := d, src := s.self % 64, hops := 7, ty := 0x02, data := body }
        (s.setStrait i { s.strait i with out := (s.strait i).out ++ [p] }).pumpStrait i 64
      else s)

/-! ## Locks (R375) and losses (R372) -/

/-- Void a replica lock (R375, R421): the epoch moves on, counted; a lock that reached its deadline (`late`) is also
recorded. -/
def State.voidLock (s : State) (late : Bool) (l : RLock) : State :=
  let ls := s.pool.locks.filter (fun x => x.region != l.region)
  let e := (l.epoch + 1) % 2 ^ 16
  let s := { s with pool := { s.pool with locks := ls, lockEpoch := mset (fun _ => 0) s.pool.lockEpoch l.region e } }
  let i := ((s.ownEntries.find? (fun x => x.2.kind == 1 && x.2.region == l.region)).map (·.1)).getD 0
  (s.ctr Obj.ctrReplicaLockVoided).when late (fun s => (s.ctr Obj.ctrLeasesFenced).faultRec 9 7 8 i 0xFF 0xFF 0 l.epoch e)

/-- The fetch ends with a status (R374): its lock goes back. -/
def State.fetchEnd (s : State) (st : Nat) : State :=
  match s.pool.fetch with
  | none => s
  | some f =>
    let s := if s.member f.holder then s.sendLock f.holder f.entry (f.epoch.getD 0) 1 else s
    ({ s with pool := { s.pool with fetch := none } } : State).setEv Obj.poolFetchStatus st

/-- The lock of a slot's replica is lost: the slot is re-mapped or, while it loads, its load ends (R341, R375, R377). -/
def State.replicaLost (s : State) (i : Nat) : State :=
  let p := i / 4
  let n := i % 4
  let s := s.setSlotLock i none
  if (s.slot p n).load.isSome then s.loadFail p n 8
  else if s.slotUsed p n then
    if s.obj (Obj.partRecoveryPolicy p) = 2 then s.slotFault p n none false s.now 6 6 0 0 0
    else ((s.partFault p).remap p n).faultRec 6 4 6 0 p n 0 0 ((s.slot p n).fence + 1)
  else s

/-- A member is lost (R372): its admission, registry entries, locks here and credits end; work that depended on it is
re-mapped (R373, R375, R377). -/
def State.loseMember (s : State) (d : Nat) : State :=
  if !s.member d then s
  else
    -- the strait of the fault record is that of the member's latest route (DEDUCED, notes/assumptions/40.md)
    let via := ((s.route d).getD (0, 0)).1
    let s := (s.setEvBit Obj.poolMembers d false).ctr Obj.ctrPoolMembersLost
    let s := s.deregisterIf (fun ep => match ep with | .strait e => e == d | _ => false)
    let s := s.setPeer d {}
    let s := s.faultRec 6 0 6 via 0xFF 0xFF 0 (s.obj (Obj.straitLinkEpoch via)) 0
    let reg := mdrop (fun e => (s.reg e).holder == d && (s.reg e).kind != 0) s.pool.reg
    let cr := mdrop (fun k => k / 64 == d) s.pool.credits
    let gr := mdrop (fun k => k / 64 == d) s.pool.granted
    let s := { s with pool := { s.pool with reg := reg, credits := cr, granted := gr } }
    let s := s.each (s.pool.locks.filter (·.locker == d)) (·.voidLock false ·)
    let s := match s.pool.fetch with | some f => if f.holder = d then s.fetchEnd 4 else s | none => s
    let held := (List.range 64).filter (fun i => match s.slotLockOf i with | some (h, _, _) => h == d | none => false)
    let s := s.each held State.replicaLost
    let hit := (List.range 64).filter (fun i => let m := s.remapOf (i / 4) (i % 4); m.kind == 2 && m.unit == d)
    let s := s.each hit (fun s i =>
      if s.obj (Obj.partRecoveryPolicy (i / 4)) = 2 then s.slotFault (i / 4) (i % 4) none false s.now 6 6 0 0 0
      else ((s.partFault (i / 4)).remap (i / 4) (i % 4)).faultRec 6 4 6 0 (i / 4) (i % 4) 0 0 ((s.slot (i / 4) (i % 4)).fence + 1))
    s.retryRemap

/-- A replica lock request (R375): status 0 granted, 1 refused; one locker for a region at a time. -/
def State.lockRequest (s : State) (src entry : Nat) : State :=
  let e := s.reg entry
  let ok := s.inPool && s.member src && !s.isMgmt src && !s.mgmt && e.kind == 1 && e.holder == s.self &&
    s.pool.locks.all (fun l => l.region != e.region || l.locker == src)
  if !s.inPool then s
  else
    let ep := mget (fun _ => 0) s.pool.lockEpoch e.region
    let reply := fun (s : State) (ep st : Nat) => s.sendPacket 0 0x08 src (be 1 entry ++ zeros 1 ++ be 2 ep ++ be 1 st ++ zeros 3)
    if ok then
      let ls := s.pool.locks.filter (fun l => l.region != e.region)
      reply ({ s with pool := { s.pool with locks := ls ++ [⟨e.region, src, ep, s.clk.ticks + msT 10⟩] } }) ep 0
    else reply s ep 1
/-- A lock is given back (notes/assumptions/37.md). -/
def State.lockRelease (s : State) (src entry : Nat) : State :=
  let r := (s.reg entry).region
  let ls := s.pool.locks.filter (fun l => l.region != r || l.locker != src)
  { s with pool := { s.pool with locks := ls } }
/-- A replica lock reply (R374, R375): granted, the segments are asked for; refused, the fetch or load ends. -/
def State.lockReply (s : State) (src entry epoch status : Nat) : State :=
  let s := match s.pool.fetch with
    | some f =>
      if f.holder = src ∧ f.entry = entry ∧ f.epoch.isNone then
        if status = 0 then
          ({ s with pool := { s.pool with fetch := some { f with epoch := some epoch } } } : State).sendSegReq src entry epoch 0 f.len
        else s.fetchEnd 4
      else s
    | none => s
  s.each (List.range 64) (fun s i => match s.slotLockOf i with
    | some (h, e, none) =>
      if h = src ∧ e = entry then
        if status = 0 then (s.setSlotLock i (some (h, e, some epoch))).sendSegReq src entry epoch 0 (s.reg entry).len
        else s.replicaLost i
      else s
    | _ => s)
/-- A lock idle for 10 ms is voided (R375). -/
def State.lockVoid (s : State) (region : Nat) : State :=
  match s.pool.locks.find? (·.region == region) with
  | none => s
  | some l => (s.elapseTo l.deadline).voidLock true l

/-! ## Segments (R374) -/

/-- A segment request (R374, R375): refused with a stale epoch, else answered by segments of up to 1,008 bytes. A refusal is a
lock reply of status 1 (DESIGN CHOICE, notes/assumptions/37.md). -/
def State.segRequest (s : State) (src entry epoch off len : Nat) : State :=
  let e := s.reg entry
  match s.pool.locks.find? (fun l => l.region == e.region && l.locker == src) with
  | some l =>
    if e.kind ≠ 1 ∨ e.holder ≠ s.self ∨ l.epoch ≠ epoch ∨ s.regionUp e.region = false then
      s.sendPacket 0 0x08 src (be 1 entry ++ zeros 1 ++ be 2 epoch ++ be 1 1 ++ zeros 3)
    else
      let ls := s.pool.locks.map (fun x => if x.region = l.region then { x with deadline := s.clk.ticks + msT 10 } else x)
      let s := { s with pool := { s.pool with locks := ls } }
      let n := min len (e.len - off)
      let base := (s.region e.region).base
      s.each (List.range (ceilDiv n 1008)) (fun s k =>
        (s.movedStack (s.region e.region).stack (min 1008 (n - 1008 * k))).sendBulk 0x20 src (be 2 epoch ++ zeros 2 ++ be 8 (off + 1008 * k) ++ s.memRead (base + off + 1008 * k) (min 1008 (n - 1008 * k))))
  | none => if s.inPool && e.kind == 1 then s.sendPacket 0 0x08 src (be 1 entry ++ zeros 1 ++ be 2 epoch ++ be 1 1 ++ zeros 3) else s

/-- A segment of the fetch (R374): written into its region; the next one is asked for. A write that is refused ends the fetch (R40). -/
def State.fetchSegment (s : State) (src epoch off : Nat) (data : Bytes) : State :=
  match s.pool.fetch with
  | none => s
  | some f =>
    if f.holder ≠ src ∨ f.epoch ≠ some epoch ∨ off ≠ f.got ∨ data.isEmpty ∨ f.len < off + data.length then s
    else
      if !s.regionUp f.region then (s.ctr Obj.ctrAddrRefused).fetchEnd 3 else
      let s := (s.memWrite ((s.region f.region).base + off) data).movedStack (s.region f.region).stack data.length
      let got := off + data.length
      let s := { s with pool := { s.pool with fetch := some { f with got := got } } }
      if got < f.len then s.sendSegReq src f.entry epoch got (f.len - got) else s
/-- A segment of a peer-rung slot's replica (R346, R364). -/
def State.streamSegment (s : State) (src epoch off : Nat) (data : Bytes) : State :=
  s.each (List.range 64) (fun s i => match s.slotLockOf i with
    | some (h, e, ep) =>
      let b := mget (fun _ => ([] : Bytes)) s.pool.stream i
      let len := (s.reg e).len
      if h = src ∧ ep = some epoch ∧ off = b.length ∧ !data.isEmpty ∧ off + data.length ≤ len then
        let st := mset (fun _ => ([] : Bytes)) s.pool.stream i (b ++ data)
        let s := { s with pool := { s.pool with stream := st } }
        let got := off + data.length
        if got < len then s.sendSegReq src e epoch got (len - got) else s
      else s
    | none => s)
/-- The fetch has every byte (R374): its digest decides. -/
def State.fetchComplete (s : State) : State :=
  match s.pool.fetch with
  | none => s
  | some f =>
    if f.got < f.len then s
    else
      let b := s.memRead (s.region f.region).base f.len
      (s.movedStack (s.region f.region).stack f.len).fetchEnd (if s.regionUp f.region && bundleHeadOk b f.len && bundleDigestsOk b && bundleDigest b == f.digest then 2 else 3)

/-- A write of pool.fetch_apply (R374): the state, and an abort code or 0. -/
def State.fetchApply (s : State) (v : Nat) : State × Nat :=
  let i := s.obj Obj.poolFetchEntry
  let e := s.reg i
  let r := s.obj Obj.poolFetchRegion
  let g := s.region r
  if v = 0 then (s, 0)
  else if e.kind ≠ 1 ∨ g.holder = 0xFF ∨ g.size * mib < e.len ∨ s.mgmt ∨ s.isMgmt e.holder then (s, 0xC403)
  else if s.pool.fetch.isSome then (s, 0xC404)
  -- a region that a slot holds cannot be written (R342); R374 gives that case no code (DESIGN CHOICE, notes/assumptions/138.md)
  else if s.heldBySlot r then (s, 0xC403)
  else
    let s := { s with pool := { s.pool with fetch := some { holder := e.holder, entry := i, region := r, len := e.len, digest := e.digest, epoch := none, got := 0 } } }
    ((s.setEv Obj.poolFetchStatus 1).sendLock e.holder i 0 0, 0)

/-- A write of pool.offer_region (R373): the state, and an abort code or 0; a management member offers nothing (R370; its code is a
DESIGN CHOICE, notes/assumptions/138.md). -/
def State.offerRegion (s : State) (r : Nat) : State × Nat :=
  let g := s.region r
  let b := s.slotBytes 0 0 (some r)
  if g.holder = 0xFF ∨ s.mgmt ∨ s.regionUp r = false ∨ bundleHeadOk b (g.size * mib) = false ∨ bundleDigestsOk b = false then (s, 0xC401)
  else if s.ownEntries.any (fun e => e.2.kind == 1 && e.2.region == r) then (s, 0)
  else match s.freeReg with
    | none => (s, 0xC402)
    | some _ => (s.addOwn { kind := 1, holder := s.self, part := 0, slot := 0, region := r, len := bundleLen b, digest := bundleDigest b }, 0)
/-- A write of pool.withdraw_offer (R373): the offer and any lock on it end. -/
def State.withdrawOffer (s : State) (r : Nat) : State × Nat :=
  let s := s.each (s.pool.locks.filter (·.region == r)) (·.voidLock false ·)
  (s.each (s.ownEntries.filter (fun e => e.2.kind == 1 && e.2.region == r)) (fun s e => s.dropReg e.1), 0)

/-- Entries of a registry update from a member (R373; notes/assumptions/30.md); none is taken from a management member or by one (R370). -/
def State.registryIn (s : State) (src : Nat) (entries : List Bytes) : State :=
  if !s.member src || s.isMgmt src || s.mgmt then s
  else
    let s := s.each (entries.map regOfWire) (fun s (e : RegEntry) =>
      if e.holder ≠ src then s
      else if e.kind = 0 then
        match s.pool.reg.find? (fun x => x.2.holder == src && x.2.part == e.part && x.2.slot == e.slot && x.2.region == e.region && x.2.digest == e.digest) with
        | some x => s.setReg x.1 {}
        | none => s
      else
        match s.pool.reg.find? (fun x => x.2.kind == e.kind && x.2.holder == src &&
            (if e.kind = 1 then x.2.region == e.region else x.2.part == e.part && x.2.slot == e.slot)) with
        | some x => s.setReg x.1 e
        | none => match s.freeReg with | some i => s.setReg i e | none => s)
    s.retryRemap

/-! ## Remote work and results (R368, R376) -/

/-- A remote-work packet (R376); its record's fields come in network order (R14). A record that finds no room waits for it (R226). -/
def State.remoteWork (s : State) (src : Nat) (packet : Bytes) : State :=
  let p := byteAt packet 0
  let n := byteAt packet 1
  let w := flipFields workFields (slice packet 32 256)
  let u := s.slot p n
  if !s.inPool || !s.member src || s.isMgmt src then s
  else if p < 16 ∧ n < 4 ∧ s.mgmt = false ∧ s.objBit Obj.poolServeMask p ∧ s.slotUsed p n ∧ !u.digest.isEmpty ∧ slice packet 8 24 = u.digest.take 24 then
    match s.slotIsle p n with
    | some i =>
      let q := 64 + 16 * i + p
      let ws := toWords 4 (patch (patch w 1 (le 1 p)) 2 (le 1 n))
      ({ s with m := { s.m with waiting := s.m.waiting ++ [(q, ws)] } } : State).flushWork.ctr Obj.ctrPoolWorkServed
    | none => s.sendResult src p n (resultFor w 3)
  else s.sendResult src p n (resultFor w 3)
/-- A remote result (R376). -/
def State.remoteResult (s : State) (src : Nat) (packet : Bytes) : State :=
  if !s.inPool || !s.member src then s else s.resultIn (flipFields resultFields (slice packet 32 64))
/-- A work-credit packet (R364, R368). -/
def State.creditIn (s : State) (src q records : Nat) : State :=
  if !s.member src || decide (64 ≤ q) then s else (s.setCredit src q (s.credit src q + records)).flushWork

/-! ## Commands -/

/-- POOL_HEARTBEAT (R371). -/
def execPoolHeartbeat (i origin seq : Nat) (entries : List (Nat × Nat)) (s : State) : Outcome := .next (s.heartbeatIn i origin seq entries)
/-- HEARTBEAT_PERIOD (R371). -/
def execHeartbeatPeriod (s : State) : Outcome := .next s.heartbeatOut
/-- ADMISSION_REQUEST (R369). -/
def execAdmissionRequest (src poolId device serial compat : Nat) (record : Bytes) (s : State) : Outcome :=
  .next (s.admitRequest src poolId device serial compat record)
/-- ADMISSION_REPLY (R369). -/
def execAdmissionReply (src outcome : Nat) (s : State) : Outcome := .next (s.admitReply src outcome)
/-- MEMBER_LOST (R372): 300 µs after the member's sequence last advanced. -/
def execMemberLost (device : Nat) (s : State) : Outcome :=
  .next (if s.member device then (s.elapseTo ((s.peer device).at_ + usT 300)).loseMember device else s)
/-- REGISTRY_UPDATE (R373). -/
def execRegistryUpdate (src : Nat) (entries : List Bytes) (s : State) : Outcome := .next (s.registryIn src entries)
/-- WORK_CREDIT (R368): credits granted or returned to this device. -/
def execWorkCredit (src q records : Nat) (_granted : Bool) (s : State) : Outcome := .next (s.creditIn src q records)
/-- REPLICA_LOCK_REQUEST (R375). -/
def execReplicaLockRequest (src entry : Nat) (s : State) : Outcome := .next (s.lockRequest src entry)
/-- REPLICA_LOCK_REPLY (R375). -/
def execReplicaLockReply (src entry epoch status : Nat) (s : State) : Outcome := .next (s.lockReply src entry epoch status)
/-- REPLICA_LOCK_VOID (R375). -/
def execReplicaLockVoid (region : Nat) (s : State) : Outcome := .next (s.lockVoid region)
/-- SEGMENT_REQUEST (R374). -/
def execSegmentRequest (src entry epoch off len : Nat) (s : State) : Outcome := .next (s.segRequest src entry epoch off len)
/-- BUNDLE_SEGMENT (R374). -/
def execBundleSegment (src epoch off : Nat) (data : Bytes) (s : State) : Outcome :=
  .next ((s.fetchSegment src epoch off data).streamSegment src epoch off data)
/-- WEIGHT_STREAM_SEGMENT (R364). -/
def execWeightStreamSegment (src epoch off : Nat) (data : Bytes) (s : State) : Outcome := .next (s.streamSegment src epoch off data)
/-- REMOTE_WORK (R376). -/
def execRemoteWork (src : Nat) (packet : Bytes) (s : State) : Outcome := .next (s.remoteWork src packet)
/-- REMOTE_RESULT (R376). -/
def execRemoteResult (src : Nat) (packet : Bytes) (s : State) : Outcome := .next (s.remoteResult src packet)
/-- FETCH_COMPLETE (R374). -/
def execFetchComplete (s : State) : Outcome := .next s.fetchComplete

end Sys2Proof.Machine
end

