-- ==== Sys2Proof/Machine/StraitOps.lean ====
section
/-! DEFINITION. The strait's states and link flits (R362 to R367). -/
namespace Sys2Proof.Machine

/-- A write of strait.enable (R362): the state, and an abort code or 0. -/
def State.straitEnableWrite (s : State) (v : Nat) : State × Nat :=
  let v := v % 256
  let s := s.setEv Obj.straitEnable v
  (s.each (List.range 8) (fun s i =>
    if !bit v i then s.straitDisable i
    else if s.netOn && s.obj (Obj.straitState i) == 0 then s.straitTrain i else s), 0)

/-- The strait has come Up: its neighbour is asked for admission (R369; when a request is sent is a DESIGN CHOICE,
notes/assumptions/43.md). -/
def State.straitJoined (s : State) (i peer : Nat) (credits : List Nat) : State :=
  let s := s.straitUpNow i peer credits
  if s.inPool && !s.member peer && peer != s.self then s.sendAdmit peer else s

/-- The strait is in a state of R362. -/
def State.straitIn (s : State) (i st : Nat) : Bool := s.netOn && decide (i < 8) && s.obj (Obj.straitState i) == st
/-- Let the strait's deadline come. -/
def State.straitWait (s : State) (i : Nat) : State := match (s.strait i).deadline with | some t => s.elapseTo t | none => s

/-- An Init flit (R362, R364): the peer's device and buffers are taken and it is acknowledged. -/
def State.initFlit (s : State) (i : Nat) (data : Bytes) : State :=
  let peer := byteAt data 12
  let credits := [unbe (slice data 14 2), unbe (slice data 16 2), unbe (slice data 18 2)]
  if s.straitIn i 2 then
    let v := s.strait i
    let s := (s.setStrait i { v with initGot := true, cred := credits }).setObj (Obj.straitPeer i) peer
    let s := s.linkFlit i 2 0 v.ack []
    if v.initAck then s.straitJoined i peer credits else s
  else if s.straitIn i 3 then s.linkFlit i 2 0 (s.strait i).ack []
  else s

/-- A flit of kind ack in Init acknowledges this side's Init flit (R362). -/
def State.initAcked (s : State) (i : Nat) : State :=
  let v := s.strait i
  if s.straitIn i 2 then
    if v.initGot then s.straitJoined i (s.obj (Obj.straitPeer i)) v.cred else s.setStrait i { v with initAck := true }
  else s

/-- A nak (R366): every unacknowledged flit from the named sequence goes again, in order. -/
def State.nakIn (s : State) (i seq : Nat) : State := if s.straitIn i 3 then s.resend i (seq % 65536) else s

/-- A link flit (R363): 0 idle, 1 init, 2 ack, 3 nak; its acknowledge and credits count as any flit's (R365, R367). -/
def State.linkIn (s : State) (i kind : Nat) (f : Bytes) : State :=
  let ack := unbe (slice f 6 2)
  let s := if s.straitIn i 3 then s.acked i ack (unbe (slice f 8 2)) else s
  match kind with
  | 1 => s.initFlit i (slice f 16 236)
  | 2 => s.initAcked i
  | 3 => s.nakIn i (ack + 1)
  | _ => s

/-! ## Commands -/

/-- STRAIT_TRAINED (R362). -/
def execStraitTrained (strait : Nat) (s : State) : Outcome := .next (if s.straitIn strait 1 then s.straitInit strait else s)
/-- STRAIT_TRAIN_TIMEOUT (R362). -/
def execStraitTrainTimeout (strait : Nat) (s : State) : Outcome :=
  .next (if s.straitIn strait 1 then (s.straitWait strait).straitDown strait else s)
/-- STRAIT_INIT_DONE (R362, R367): the peer's device and its advertised buffers. -/
def execStraitInitDone (strait peer : Nat) (credits : List Nat) (s : State) : Outcome :=
  .next (if s.straitIn strait 2 then s.straitJoined strait (peer % 256) credits else s)
/-- STRAIT_INIT_TIMEOUT (R362). -/
def execStraitInitTimeout (strait : Nat) (s : State) : Outcome :=
  .next (if s.straitIn strait 2 && !(s.strait strait).initGot then (s.straitWait strait).straitDown strait else s)
/-- STRAIT_LINK_LOSS (R362). -/
def execStraitLinkLoss (strait : Nat) (s : State) : Outcome := .next (if s.straitIn strait 3 then s.straitDown strait else s)
/-- STRAIT_RETRAIN (R362). -/
def execStraitRetrain (strait : Nat) (s : State) : Outcome :=
  .next (if s.straitIn strait 4 then (s.straitWait strait).straitTrain strait else s)
/-- NAK_RECEIVE (R366). -/
def execNakReceive (strait seq : Nat) (s : State) : Outcome := .next (s.nakIn strait seq)
/-- REPLAY_TIMEOUT (R366). -/
def execReplayTimeout (strait : Nat) (s : State) : Outcome :=
  let v := s.strait strait
  .next (match s.straitIn strait 3, v.replay with
    | true, f :: _ => (s.elapseTo (v.sent.headD 0 + usT 2)).resend strait f.1
    | _, _ => s)
/-- ACK_IDLE_TIMEOUT (R365): 100 ns without a flit sent; in Init the Init flit goes again (DEDUCED, notes/assumptions/49.md). -/
def execAckIdleTimeout (strait : Nat) (s : State) : Outcome :=
  let s' := s.elapseTo ((s.strait strait).lastSent + 5)
  .next (if s.straitIn strait 3 then s'.linkFlit strait 2 0 (s.strait strait).ack []
    else if s.straitIn strait 2 then s'.linkFlit strait 1 0 (s.strait strait).ack s'.initPayload else s)

end Sys2Proof.Machine
end

