-- ==== Sys2Proof/Machine/Residency.lean ====
section
/-! DEFINITION. Residency of cores, quads and isles (R139 to R143), duties (R144, R145) and the isle scheduler's dispatch
(R256, R257). The residency commands stand for the ends of their timers (notes/assumptions/50.md). -/
namespace Sys2Proof.Machine

/-- Core c is in Nap or deeper. -/
def State.napping (s : State) (c : Nat) : Bool := mget (fun _ => 0) s.res.nap c != 0
/-- Quad q is in Doze. -/
def State.dozing (s : State) (q : Nat) : Bool := mget (fun _ => 0) s.res.doze q != 0
/-- A quad's floor (R140): its partition's, or res.free_floor. -/
def State.floor (s : State) (q : Nat) : Nat :=
  let p := s.partOfCore (4 * q)
  if p < 16 then s.obj (Obj.partResidencyFloor p) else s.obj Obj.resFreeFloor
/-- The state of a quad (R139): 0 Run, 1 Nap, 2 Doze, 3 Off. -/
def State.quadState (s : State) (q : Nat) : Nat :=
  if !s.domain (2 + q / 8) then 3
  else if s.dozing q then 2
  else if (List.range 4).all (fun i => s.napping (4 * q + i)) then 1 else 0
/-- The value of res.quad_state. -/
def State.quadStates (s : State) : Nat := packBits 2 ((List.range 32).map s.quadState)
/-- The core has nothing to issue. -/
def Core.idle (k : Core) : Bool := k.run != 1 && k.port.isEmpty && !k.inFlight

/-- A domain of an isle may be powered: PD-HBM is up, the isle is not fenced and the device not Restricted (R111, R128, R423). -/
def State.isleMay (s : State) (n : Nat) : Bool :=
  s.netOn && s.domain 1 && !s.objBit Obj.faultIslesFenced n && !s.restricted
/-- A wake for isle n's domain is needed (R141); the isle powers up by RESIDENCY_WAKE. -/
def State.wantIsle (s : State) (n : Nat) : State :=
  if s.domain (2 + n) then s else { s with res := { s.res with needIsle := setBit s.res.needIsle n true } }
/-- A wake for quad q (R141): an isle that is Off powers up (R130). -/
def State.wake (s : State) (q : Nat) : State :=
  let n := q / 8
  if s.domain (2 + n) then s.wakeQuad q
  else if s.isleMay n then (s.isleUp n).retryRemap else s

/-! ### Timers (R139) -/

/-- A core in Run has nothing to issue. -/
def State.idleCore (s : State) (c : Nat) : Bool := s.isleOn (c / 32) && (s.core c).idle && !s.napping c
/-- A core's stamp in a map of ticks plus 1; a core without one counts from now. -/
def stampOf (m : List (Nat × Nat)) (now k : Nat) : Nat := let t := mget (fun _ => 0) m k; if t = 0 then now else t - 1
/-- Each grain tick the cores that have nothing to issue are looked for (R139). -/
def State.watchCores (s : State) : State :=
  let new := ((List.range 128).filter s.idleCore).map (fun c => (c, stampOf s.res.idle s.clk.ticks c + 1))
  { s with res := { s.res with idle := new } }
/-- The tick at which core c enters Nap: res.nap_after core cycles of nothing to issue, 32 to a tick. -/
def State.napAt (s : State) (c : Nat) : Nat := stampOf s.res.idle s.clk.ticks c + ceilDiv (s.obj Obj.resNapAfter) 32
/-- The tick at which quad q begins its Doze entry: all four cores in Nap for res.doze_after. -/
def State.dozeAt (s : State) (q : Nat) : Nat :=
  (List.range 4).foldl (fun t i => max t (stampOf s.res.nap s.clk.ticks (4 * q + i))) 0 + usT (s.obj Obj.resDozeAfter)
/-- The tick at which isle n begins its Off entry: every quad in Doze for res.isle_off_after. -/
def State.offAt (s : State) (n : Nat) : Nat :=
  (List.range 8).foldl (fun t i => max t (stampOf s.res.doze s.clk.ticks (8 * n + i))) 0 + msT (s.obj Obj.resIsleOffAfter)
/-- Quad q can begin a Doze entry, once its time has passed (R139, R140). -/
def State.mayDoze (s : State) (q : Nat) : Bool :=
  s.isleOn (q / 8) && s.quadState q == 1 && decide (2 ≤ s.floor q) && !s.entersAt q
/-- Isle n can begin an Off entry, once its time has passed (R139, R140). -/
def State.mayOff (s : State) (n : Nat) : Bool :=
  s.isleOn n && !s.res.entering.contains (true, n) && (List.range 8).all (fun i => s.dozing (8 * n + i) && s.floor (8 * n + i) == 3)
/-- At a wake the timers of what kept its state stand at zero (R139). -/
def State.zeroTimers (s : State) : State :=
  let now := s.clk.ticks + 1
  { s with res := { s.res with nap := s.res.nap.map (fun e => (e.1, now)), doze := s.res.doze.map (fun e => (e.1, now)), idle := [] } }

/-- A core enters Nap (R139). -/
def State.nap (s : State) (c : Nat) : State :=
  if s.idleCore c then
    let s := s.elapseTo (s.napAt c)
    { s with res := { s.res with nap := mset (fun _ => 0) s.res.nap c (s.clk.ticks + 1), idle := mset (fun _ => 0) s.res.idle c 0 } }
  else s
/-- A quad begins its Doze entry (R139, R140), which takes 20 ns (R142). -/
def State.dozeEntry (s : State) (q : Nat) : State :=
  if s.mayDoze q then
    let s := s.elapseTo (s.dozeAt q)
    { s with res := { s.res with entering := s.res.entering ++ [(false, q)], ends := s.res.ends ++ [((false, q), s.clk.ticks + 1)] } }
  else s
/-- An isle begins its Off entry (R139, R140), which takes 10 µs (R142). -/
def State.offEntry (s : State) (n : Nat) : State :=
  if s.mayOff n then
    let s := s.elapseTo (s.offAt n)
    { s with res := { s.res with entering := s.res.entering ++ [(true, n)], ends := s.res.ends ++ [((true, n), s.clk.ticks + usT 10)] } }
  else s

/-! ### Entries and floors -/

/-- A floor may have become shallower than a quad's state (R141): the quad wakes to the new floor, from Doze to Nap; where residency took
its isle Off, the isle is to power up (DEDUCED, notes/assumptions/76.md). An entry under way is not interrupted (R142). -/
def State.floorWake (s : State) : State :=
  s.each (List.range 32) (fun s q =>
    if s.quadState q ≤ s.floor q || s.entersAt q then s
    else if s.domain (2 + q / 8) then { s with res := { s.res with doze := mset (fun _ => 0) s.res.doze q 0 } }
    else s.when (bit s.res.off (q / 8)) (·.wantIsle (q / 8)))
/-- The tick at which an entry under way ends. -/
def State.entryEnd (s : State) (e : Bool × Nat) : Nat := ((s.res.ends.find? (fun x => x.1 == e)).map (·.2)).getD s.clk.ticks
/-- A work queue of isle n holds a packet. -/
def State.isleWork (s : State) (n : Nat) : Bool := (List.range 16).any (fun p => !(s.queue (64 + 16 * n + p)).pkts.isEmpty)
/-- An entry completes, and a wake that arrived during it begins (R142): of the quads that are waited for, or of a floor that has become
shallower; the commands that waited for the wake follow it. -/
def State.entryDone (s : State) (isle : Bool) (u : Nat) : State :=
  if !s.res.entering.contains (isle, u) then s
  else
    let s := s.elapseTo (s.entryEnd (isle, u))
    let mine := s.res.wakes.filter (fun q => if isle then q / 8 == u else q == u)
    let s := { s with res := { s.res with entering := s.res.entering.erase (isle, u), ends := s.res.ends.filter (fun x => x.1 != (isle, u)),
                                          wakes := s.res.wakes.filter (fun q => !mine.contains q) } }
    if isle then
      let again := !mine.isEmpty || s.isleWork u
      let s := (s.isleDown u).ctr Obj.ctrIsleOffEntries
      let s := { s with res := { s.res with off := setBit s.res.off u true } }
      (s.when again (·.wantIsle u)).floorWake
    else
      let s := { s with res := { s.res with doze := mset (fun _ => 0) s.res.doze u (s.clk.ticks + 1) } }
      let s := (s.each mine State.wakeQuad).floorWake
      s.each ((List.range 4).map (4 * u + ·)) State.refillPort

/-- A write of part.quads (R143): the state, and an abort code or 0. -/
def State.partQuadsWrite (s : State) (p v : Nat) : State × Nat :=
  let old := s.obj (Obj.partQuads p)
  let added := (bitsOf 32 v).filter (fun q => !bit old q)
  let removed := (bitsOf 32 old).filter (fun q => !bit v q)
  if added.any (fun q => (List.range 16).any (fun o => o != p && s.objBit (Obj.partQuads o) q)) then (s, 0xC80C)
  else if removed.any (fun q => (List.range 4).any (fun n => s.slotState p n != 0 && bit (s.obj (Obj.partSlotQuads p n)) q)) then (s, 0xC80D)
  else if added.any (fun q => s.objBit Obj.faultIslesFenced (q / 8)) then (s, 0xC80E)
  else ((s.setEv (Obj.partQuads p) v).floorWake, 0)

/-- A quad's effective duty (R145): the lower of its isle's and the thermal duty. -/
def State.dutyOf (s : State) (q : Nat) : Nat := min (s.obj (Obj.thrIsleDuty (q / 8))) (mget (fun _ => 16) s.heat.duty q)

/-- Result of a work record that a slot refuses: one word to the record's partition's result queue (R344, R354). -/
def State.refuseWork (s : State) (n : Nat) (w : Bytes) (st : Nat) : State :=
  (s.moved (4 + n) 64).pushPacket (128 + 16 * n + byteAt w 1) [resultFor w st]

/-- The work record at the front of queue 16 n + p waits for its slot's reload (R141, R345). -/
def State.workWaits (s : State) (n p : Nat) : Bool :=
  match (s.queue (64 + 16 * n + p)).front false with
  | some (w :: _) => let m := byteAt w.bytes 2; s.slotUsed p m && !(s.slot p m).armed
  | _ => false
/-- The work queue that an isle scheduler serves next, round-robin by queue number (R256), among those whose record need not wait. -/
def State.nextWork (s : State) (n : Nat) : Option Nat :=
  ((List.range 16).map (fun i => ((s.sched n).rr + 1 + i) % 16)).find?
    (fun p => !(s.queue (64 + 16 * n + p)).pkts.isEmpty && !s.workWaits n p)

/-- The vector of a work record as isle firmware pads it: with zeros to a multiple of 64 elements (R352). -/
def paddedVec (w : Bytes) : Bytes := padTo (ceilDiv (leAt w 24 2) 64 * 128) (slice w 32 (2 * leAt w 24 2))
/-- The request tags of the commands that run or wait on isle n. -/
def State.liveTags (s : State) (n : Nat) : List Nat :=
  (s.sched n).waiting.map (·.2.tag) ++ (List.range 32).flatMap (fun i => let k := s.core (32 * n + i); k.cur.toList.map (·.tag) ++ k.port.map (·.tag))
/-- The slot's blocks that a request fetches from the slot's region (R346, rung 3). -/
def Slot.fetches (u : Slot) : Bool := match u.place with | some pl => pl.blocks.any (fun b => !b.pinned && b.rung == 3) | none => false
/-- Bytes of those blocks. -/
def Slot.fetchBytes (u : Slot) : Nat :=
  match u.place with | some pl => (pl.blocks.filter (fun b => !b.pinned && b.rung == 3)).foldl (fun n b => n + b.size) 0 | none => 0
/-- A burst of a streamed block fails its check (R348, R425): the request is issued again or withdrawn; a peer's ends with status 1. -/
def State.blockFails (s : State) (n p m : Nat) (w : Bytes) : State :=
  let g := s.region ((s.slot p m).region.getD 0)
  if recOrigin w = 0xFF then s.slotFault p m (s.reqOfTag (leAt w 8 8)) false s.now 1 4 g.stack 0 g.base
  else (s.faultRec 1 0 4 g.stack p m 0 g.base 0).refuseWork n w 1
/-- The slot's command list is dispatched for a record (R256, R257, R338, R352): its commands with the request's tag go to the cores of the slot's
quads. -/
def State.dispatch (s : State) (n p m : Nat) (w : Bytes) (poison : Bool) : State :=
  let u := s.slot p m
  let tag := leAt w 8 8
  let s := s.each (bitsOf 32 u.quads) State.wake
  let live := s.liveTags n
  let v := s.sched n
  let s := s.setSched n { v with vecs := (v.vecs.filter (fun e => live.contains e.1)) ++ [(tag, paddedVec w)],
                                 poison := v.poison.filter live.contains ++ (if poison then [tag] else []) }
  -- a poisoned record of which no core reads a word is consumed by the scheduler alone (R222)
  let s := s.when (poison && u.cmds.isEmpty) (·.faultRec 2 0 2 n p m 0x0E 0 0)
  s.each u.cmds (fun s e =>
    let c := coreAt u.quads e.1
    (s.giveCmd c { e.2 with tag := tag }).tracePacket (4 + n) (le 1 0x70 ++ le 1 c ++ le 1 p ++ le 2 e.2.layer ++ le 2 e.2.oper))
/-- An isle scheduler reads a work record, wakes the slot's quads and writes commands to their ports (R141, R256, R257). `check` is 0 good, 1 a word
of the record uncorrectable (R222), 2 a word of the isle shared SRAM that the scheduler reads uncorrectable, which fences the isle (R416);
`err` is what the stack reports of the blocks that the request fetches (R348). -/
def State.schedule (s : State) (n check : Nat) (err : Bursts) : State :=
  if n ≥ 4 ∨ s.netOn = false ∨ bit s.obs.halted n then s
  else if s.isleOn n = false then (if s.isleWork n then s.wantIsle n else s)
  else if s.res.entering.contains (true, n) then s
  else if check = 2 then
    let x := s.fresh
    (x.2.ctr Obj.ctrEccUncorrectableOther).fenceIsle n 1 2 (isleSram n + x.1 % 0x1000000)
  else match s.nextWork n with
  | none => s
  | some p =>
    let r := s.pop (64 + 16 * n + p) (b2n (check == 1)) 0
    let s := r.2
    let s := s.setSched n { s.sched n with rr := p, last := s.clk.ticks }
    match r.1 with
    | none => s
    | some (ws, poison) =>
      let w := ws.flatten
      let m := byteAt w 2
      let s := ((s.moved (4 + n) (64 * ws.length)).creditBack (16 * n + p) w).flushWork
      let s := s.tracePacket (4 + n) (le 1 0x80 ++ le 1 (16 * n + p) ++ le 4 (leAt w 8 4))
      if s.slotState p m = 6 ∨ !s.slotUsed p m then
        (s.refuseWork n w (if s.slotState p m = 6 then 2 else 3)).when poison (·.faultRec 2 0 2 n p m 0x0E 0 0)
      else
        let f := (s.slot p m).fetches
        let s := s.when f (fun s => (s.moved (s.region ((s.slot p m).region.getD 0)).stack (s.slot p m).fetchBytes).stackCount err)
        if f && err.failed then s.blockFails n p m w else s.dispatch n p m w poison

/-! ## Commands -/

/-- NAP_ENTRY (R139). -/
def execNapEntry (core : Nat) (s : State) : Outcome := .next (s.nap core)
/-- DOZE_ENTRY (R139). -/
def execDozeEntry (quad : Nat) (s : State) : Outcome := .next (s.dozeEntry quad)
/-- ISLE_OFF_ENTRY (R139). -/
def execIsleOffEntry (isle : Nat) (s : State) : Outcome := .next (s.offEntry isle)
/-- RESIDENCY_ENTRY_DONE (R142). -/
def execResidencyEntryDone (isle : Bool) (unit : Nat) (s : State) : Outcome := .next (s.entryDone isle unit)
/-- RESIDENCY_WAKE (R141). -/
def execResidencyWake (quad : Nat) (s : State) : Outcome := .next (if quad < 32 then s.wake quad else s)
/-- SCHEDULER_DISPATCH (R256). -/
def execSchedulerDispatch (isle check : Nat) (err : Bursts) (s : State) : Outcome := .next (s.schedule isle check err)

end Sys2Proof.Machine
end

