-- ==== Sys2Proof/Machine/Optics.lean ====
section
/-! DEFINITION. Optical engines and laser cartridges (spec/14): occupation, authentication, install, light, monitors and life
accounting (R378 to R394). -/
namespace Sys2Proof.Machine

/-- Cartridge slot e. -/
def State.cart (s : State) (e : Nat) : Cart := mget (fun _ => ({} : Cart)) s.carts e
/-- Replace cartridge slot e. -/
def State.setCart (s : State) (e : Nat) (c : Cart) : State := { s with carts := mset (fun _ => ({} : Cart)) s.carts e c }
/-- The cartridge in slot e is lit (R384). -/
def State.lit (s : State) (e : Nat) : Bool := s.objBit Obj.cartLit e

/-- The line ports that engine e carries (R378). -/
def State.enginePorts (s : State) (e : Nat) : List Nat := ((List.range 4).map (fun i => s.portOfLane (32 + 4 * e + i))).eraseDups
/-- The engines that a line port needs (R378, R379). -/
def State.portEngines (s : State) (q : Nat) : List Nat :=
  let e := (q - 32) / 4
  if s.groupMode q = 3 then [e / 2 * 2, e / 2 * 2 + 1] else [e]
/-- Every engine of a line port is lit and its light usable (R379, R388). -/
def State.lightOk (s : State) (q : Nat) : Bool := (s.portEngines q).all (fun e => s.lit e && (s.cart e).usable)

/-! ## Light (R384, R386 to R388) -/

/-- The conditions of R384, but for a light loss (R387). -/
def State.mayLight (s : State) (e : Nat) : Bool :=
  let c := s.cart e
  c.phase == 3 && c.known && (s.obj (Obj.cartAuth e) == 1 || s.obj Obj.cartAllowUnauth == 1) && !c.restr &&
  decide (s.obj (Obj.cartLifeStage e) < 3) && !c.released && s.running &&
  ((s.enginePorts e).any s.enabled || s.obj Obj.cartIdleDark == 0)
/-- The state that cart.e.state shows. -/
def State.cartCode (s : State) (e : Nat) : Nat :=
  let c := s.cart e
  if c.phase = 0 then 0 else if c.phase = 1 then 1 else if c.phase = 2 then 2 else if c.phase = 4 then 5
  else if s.lit e then 6 else if c.released then 8 else if s.obj (Obj.cartLifeStage e) = 3 then 9 else if c.loss.isSome then 10
  else if s.obj (Obj.cartAuth e) ≠ 1 ∧ s.obj Obj.cartAllowUnauth = 0 then 3 else if c.restr then 4 else 7
/-- Show the state. -/
def State.showCart (s : State) (e : Nat) : State := s.setEv (Obj.cartState e) (s.cartCode e)

/-- Raise LC_EN and set control [0] (R384, R388). -/
def State.lightOn (s : State) (e : Nat) : State :=
  let c := s.cart e
  let s := s.setCart e { c with lightAt := s.clk.ticks, usable := false, unauth := c.unauth || s.obj (Obj.cartAuth e) != 1 }
  let s := (s.emit (.cartWrite e 0x1B [BitVec.ofNat 8 (s.obj (Obj.cartDrivePct e))])).emit (.cartWrite e 0x1A [1])
  s.setEvBit Obj.cartLit e true
/-- Clear control [0] and lower LC_EN: the engine's ports lose their link and a life record is due (R379, R384, R392). -/
def State.lightOff (s : State) (e : Nat) : State :=
  if !s.lit e then s
  else
    let s := s.setCart e { s.cart e with usable := false, recDue := true }
    let s := (s.emit (.cartWrite e 0x1A [0])).setEvBit Obj.cartLit e false
    s.when s.netOn (fun s => s.each (s.enginePorts e) State.linkDrop)
/-- Bring the light in line with R384. -/
def State.settleLight (s : State) (e : Nat) : State :=
  let s := if s.lit e then (if s.mayLight e then s else s.lightOff e)
    else if s.mayLight e && (s.cart e).loss.isNone then s.lightOn e else s
  s.showCart e
/-- All slots. -/
def State.settleLights (s : State) : State := s.each (List.range 8) State.settleLight
/-- Light loss (R386, R412): recorded, counted, the light off. -/
def State.lightLoss (s : State) (e : Nat) : State :=
  if !s.lit e then s
  else
    let s := (s.ctr Obj.ctrCartLightLoss).setObj (Obj.cartLightLosses e) ((s.obj (Obj.cartLightLosses e) + 1) % 2 ^ 32)
    let s := s.faultRec 7 9 7 e 0xFF 0xFF 0 0 0
    let s := s.lightOff e
    (s.setCart e { s.cart e with loss := some (s.clk.ticks, 0) }).showCart e

/-! ## Occupation and authentication (R381, R383, R385) -/

/-- Start the wait for ready (R383 step 1); the control cores run on core clock only (R127; notes/assumptions/51.md). -/
def State.beginAuth (s : State) (e : Nat) : State :=
  let c := s.cart e
  let s := s.setCart e { c with phase := 1, deadline := if s.pwr.coreClock then some (s.clk.ticks + msT 500) else none }
  s.showCart e
/-- Authentications that wait for the core clock begin (R90 step 7); an install that a trip stopped has failed. -/
def State.resumeAuth (s : State) : State :=
  s.each (List.range 8) (fun s e =>
    let c := s.cart e
    if c.deadline.isNone && (c.phase == 1 || c.phase == 2 || c.phase == 4) then
      (s.when (c.phase == 4) (·.ctr Obj.ctrCartFwInstallFail)).beginAuth e
    else s)
/-- The core clock has stopped: authentications and installs stop with it. -/
def State.haltAuth (s : State) : State :=
  s.each (List.range 8) (fun s e => if (s.cart e).phase = 0 then s else s.setCart e { s.cart e with deadline := none })

/-- A slot with no cartridge account: what remains belongs to the start (R385) and to the engine's monitors (R380). -/
def Cart.cleared (c : Cart) : Cart := { tried := c.tried, alarms := c.alarms, mon := c.mon, rx := c.rx, tx := c.tx }
/-- A slot becomes occupied (R381). -/
def State.occupied (s : State) (e : Nat) : State :=
  if !s.on || decide (8 ≤ e) || (s.cart e).phase != 0 then s
  else ((s.setCart e (s.cart e).cleared).setEvBit Obj.cartPresent e true).beginAuth e
/-- The objects that show a cartridge. -/
def cartShown (e : Nat) : List Nat :=
  [Obj.cartSerial e, Obj.cartFirmware e, Obj.cartAuth e, Obj.cartRatedHours e, Obj.cartAcc e, Obj.cartLifePct e, Obj.cartCycles e, Obj.cartTemp e,
   Obj.cartRemainingHours e, Obj.cartRecordLost e]
/-- A slot is vacated (R381, R387). -/
def State.vacated (s : State) (e : Nat) : State :=
  let c := s.cart e
  if !s.on || c.phase == 0 then s
  else
    let s := s.when (!c.released) (·.ctr Obj.ctrCartSurpriseRemoval)
    let s := s.lightLoss e
    let s := s.setCart e (s.cart e).cleared
    let s := s.each (cartShown e) (fun s k => s.setObj k 0)
    let s := (s.setEv (Obj.cartLifeStage e) 0).dropPair (16 + e)
    (s.setEvBit Obj.cartPresent e false).showCart e

/-- The stage that an account has reached (R390). -/
def lifeStage (acc h : Nat) : Nat :=
  if 120 * h * 3600 ≤ acc then 3 else if 100 * h * 3600 ≤ acc then 2 else if 85 * h * 3600 ≤ acc then 1 else 0
/-- A life record copy checks (R392). -/
def lifeOk (r : Bytes) : Bool := decide (beAt r 60 4 = crc32c (slice r 0 60))
/-- Set the account: percentage and stage follow (R390); with a rated life of 0 the percentage is not stated and is free. -/
def State.setAcc (s : State) (e acc : Nat) : State :=
  let h := s.obj (Obj.cartRatedHours e)
  let old := s.obj (Obj.cartLifeStage e)
  let st := max old (lifeStage acc h)
  let s := s.setObj (Obj.cartAcc e) acc
  let f := if h = 0 then s.fresh else (1000 * acc / (h * 360000), s)
  let s := (f.2.setObj (Obj.cartLifePct e) (f.1 % 65536)).setEv (Obj.cartLifeStage e) st
  s.when (st != old) (fun s => s.setCart e { s.cart e with recDue := true })
/-- Take the account from the cartridge's records (R392). -/
def State.readLife (s : State) (e : Nat) (r0 r1 : Bytes) : State :=
  let pick := match lifeOk r0, lifeOk r1 with
    | true, true => if beAt r1 0 4 ≤ beAt r0 0 4 then some (r0, 0) else some (r1, 1)
    | true, false => some (r0, 0)
    | false, true => some (r1, 1)
    | false, false => none
  match pick with
  | none => ((s.setObj (Obj.cartRecordLost e) 1).setCart e { s.cart e with recAt := s.clk.ticks + secT (s.obj Obj.cartRecordInterval) }).setAcc e 0
  | some (r, k) =>
    let c := s.cart e
    let s := s.setCart e { c with seq := beAt r 0 4, copy := k, litSecs := beAt r 16 4, high := toSigned 16 (beAt r 20 2), unauth := bit (byteAt r 23) 0,
                                  base := beAt r 12 4, recAt := s.clk.ticks + secT (s.obj Obj.cartRecordInterval) }
    let s := (s.setObj (Obj.cartCycles e) (beAt r 12 4)).setEv (Obj.cartLifeStage e) (min 3 (byteAt r 22))
    s.setAcc e (beAt r 4 8)

/-- An authentication ends without reaching step 6, or after it: the light is decided (R384). -/
def State.authEnd (s : State) (e : Nat) : State := (s.setCart e { s.cart e with phase := 3, deadline := none }).settleLight e
/-- A step of R383 fails: the first cause stays, one count for each cartridge. -/
def State.authFail (s : State) (e cause : Nat) : State :=
  if s.obj (Obj.cartAuth e) = 0 then (s.setObj (Obj.cartAuth e) cause).ctr Obj.ctrCartAuthFail else s

/-- The writes that install an image through page 16 (R382, R385). -/
def State.installWrites (s : State) (e : Nat) (img : Bytes) : State :=
  let s := s.emit (.cartWrite e 0x7F [16])
  let s := s.each (List.range (ceilDiv img.length 120)) (fun s k =>
    let d := (img.drop (120 * k)).take 120
    s.emit (.cartWrite e 0x80 (be 4 (120 * k) ++ be 1 d.length ++ d)))
  s.emit (.cartWrite e 0x1A [4])
/-- Step 6 of R383, then R385: the firmware is measured, the pair decided, and an image installed where R385 says so. -/
def State.authStep6 (s : State) (e : Nat) : State :=
  let c := s.cart e
  let serial := s.obj (Obj.cartSerial e)
  let fw := s.obj (Obj.cartFirmware e)
  let s := s.extend 4 serial c.digest
  let r := s.decidePair (16 + e) s.harbourRecord (patch (recTrim (Config.cartCertRecord c.cert)) 4 (be 3 fw)) true
  let s := r.1.setCart e { c with restr := r.2 == 2 }
  let ver := s.obj Obj.imgCartridgeVersion
  let img := s.boot.cart
  if ver ≠ 0 ∧ ver ≠ fw ∧ pairOutcome s.harbourRecord (recTrim (slice img 16 528)) ≠ 2 ∧ (List.range 8).all (fun i => !(s.cart i).tried.contains serial) then
    let c := s.cart e
    let s := s.setCart e { c with phase := 4, deadline := some (s.clk.ticks + secT 15), tried := serial :: c.tried }
    (s.installWrites e img).showCart e
  else s.authEnd e

/-- The cartridge is ready (R383 steps 1 to 4): identity and certificate are read and checked and the nonce is written. After
an install its outcome shows (R385). A failed step does not end the procedure while a later step can run (DEDUCED,
notes/assumptions/52.md). -/
def State.cartReady (s : State) (e : Nat) (r : CartRegs) : State :=
  let c := s.cart e
  match c.deadline with
  | none => s
  | some t =>
    if (c.phase ≠ 1 ∧ c.phase ≠ 4) ∨ t < s.clk.ticks then s
    else
      let s := if c.phase = 4 then s.ctr (if r.fw % 2 ^ 24 = s.obj Obj.imgCartridgeVersion then Obj.ctrCartFwInstalled else Obj.ctrCartFwInstallFail) else s
      let s := ((s.setObj (Obj.cartSerial e) r.serial).setObj (Obj.cartFirmware e) (r.fw % 2 ^ 24)).setObj (Obj.cartRatedHours e) r.rated
      let s := (s.setObj (Obj.cartTemp e) (ofSigned 16 r.temp)).setObj (Obj.cartAuth e) 0
      let s := if c.known then s else s.readLife e r.life0 r.life1
      let s := if Config.cartCertGood r.cert && Config.cartCertSerial r.cert == r.serial then s else s.authFail e 2
      let n := Config.freeNonce s.free
      let s := { s with free := s.free + 1 }
      let s := s.setCart e { s.cart e with phase := 2, deadline := some (s.clk.ticks + msT 50), digest := padTo 48 r.digest, cert := r.cert,
                                           nonce := n, known := true, nominal := r.nominal }
      (s.emit (.cartWrite e 0x20 n)).showCart e
/-- No ready status within 500 ms (R383 step 1). -/
def State.readyLate (s : State) (e : Nat) : State :=
  match (s.cart e).phase, (s.cart e).deadline with
  | 1, some t => ((s.elapseTo t).authFail e 4).authEnd e
  | _, _ => s
/-- The challenge is answered (R383 steps 5 and 6). -/
def State.challenged (s : State) (e : Nat) (response : Bytes) : State :=
  let c := s.cart e
  match c.phase, c.deadline with
  | 2, some t =>
    if t < s.clk.ticks then s
    else
      let ok := Config.ecdsaVerify (Config.cartCertKey c.cert) (c.nonce ++ be 8 (s.obj (Obj.cartSerial e)) ++ c.digest) (slice response 0 64)
      let s := if ok then (if s.obj (Obj.cartAuth e) = 0 then s.setObj (Obj.cartAuth e) 1 else s) else s.authFail e 3
      s.authStep6 e
  | _, _ => s
/-- No challenge-done status within 50 ms (R383 step 4). -/
def State.challengeLate (s : State) (e : Nat) : State :=
  match (s.cart e).phase, (s.cart e).deadline with
  | 2, some t => ((s.elapseTo t).authFail e 4).authEnd e
  | _, _ => s
/-- An install over time (R385): the cartridge stays on its own firmware. -/
def State.installLate (s : State) (e : Nat) : State :=
  match (s.cart e).phase, (s.cart e).deadline with
  | 4, some t => ((s.elapseTo t).ctr Obj.ctrCartFwInstallFail).authEnd e
  | _, _ => s

/-! ## Monitors (R380) -/

/-- Update one monitor of lane l of engine e: beyond its threshold, at least 0.5 dB inside it. The flag tells an entry. -/
def State.monitor (s : State) (e l m : Nat) (beyond inside : Bool) : State × Bool :=
  let c := s.cart e
  let n := mget (fun _ => (0, 0)) c.mon (6 * l + m)
  let n' : Nat × Nat := if beyond then (min 3 (n.1 + 1), 0) else if inside then (0, min 3 (n.2 + 1)) else (0, 0)
  let b := c.alarms.getD l 0
  let on := bit b m
  let enter := !on && n'.1 == 3
  let leave := on && n'.2 == 3
  let c := { c with mon := mset (fun _ => (0, 0)) c.mon (6 * l + m) n', alarms := setAt c.alarms l (setBit b m ((on || enter) && !leave)) }
  (s.setCart e c, enter)
/-- A monitor that alarms below (`low`) or above a threshold object. -/
def State.monitorBy (s : State) (e l m k : Nat) (low act : Bool) (v : Int) : State × Bool :=
  let t := toSigned 16 (s.obj k)
  if low then s.monitor e l m (act && decide (v < t)) (decide (t + 50 ≤ v)) else s.monitor e l m (act && decide (t < v)) (decide (v ≤ t - 50))
/-- Count an entry. -/
def countEntry (r : State × Bool) : State := r.1.when r.2 (·.ctr Obj.ctrOptAlarms)
/-- The five lane monitors of lane l. -/
def State.laneMonitors (s : State) (e l : Nat) (rx tx : Int) : State :=
  let lit := s.lit e
  let s := countEntry (s.monitorBy e l 0 Obj.optRxLowWarn true true rx)
  let s := countEntry (s.monitorBy e l 1 Obj.optRxLowAlarm true true rx)
  let s := countEntry (s.monitorBy e l 2 Obj.optRxHighAlarm false true rx)
  let s := countEntry (s.monitorBy e l 3 Obj.optTxLowAlarm true lit tx)
  countEntry (s.monitorBy e l 4 Obj.optTxHighAlarm false true tx)
/-- Drive above 120% of nominal (R386). -/
def overDrive (drive nominal : Nat) : Bool := decide (120 * nominal < 100 * drive)
/-- A 1 ms sample of engine e (R380, R386). The light input is one monitor, shown on the engine's four lanes. -/
def State.optSample (s : State) (e : Nat) (m : OptSample) : State :=
  if !s.netOn || decide (8 ≤ e) then s
  else
    let old := (s.cart e).alarms
    let c := s.cart e
    let s := s.setCart e { c with rx := (List.range 4).map (m.rx.getD · 0), tx := (List.range 4).map (m.tx.getD · 0), drive := m.drive }
    let s := s.each (List.range 4) (fun s l => s.laneMonitors e l (m.rx.getD l 0) (m.tx.getD l 0))
    let r := s.monitorBy e 0 5 Obj.optCwLowAlarm true (s.lit e) m.cw
    let s := countEntry r
    let c := s.cart e
    let b := bit (c.alarms.getD 0 0) 5
    let s := s.setCart e { c with alarms := c.alarms.map (fun a => setBit a 5 b) }
    let s := s.when ((s.cart e).alarms != old) (·.event Obj.optLaneAlarms)
    if r.2 || bit m.status 2 || bit m.status 3 || overDrive m.drive m.nominal then s.lightLoss e else s

/-- A relight attempt (R387) with the sample of its checks: 50 ms of stabilisation, then the light stays or goes
(notes/assumptions/53.md). -/
def State.relight (s : State) (e : Nat) (m : OptSample) : State :=
  match (s.cart e).loss with
  | none => s
  | some (t, k) =>
    if 3 ≤ k ∨ s.mayLight e = false then s
    else
      let s := (s.elapseTo (t + secT (2 ^ k))).lightOn e
      let s := s.elapseTo ((s.cart e).lightAt + msT 50)
      let bad := decide (m.cw < toSigned 16 (s.obj Obj.optCwLowAlarm)) || bit m.status 2 || bit m.status 3 || overDrive m.drive m.nominal
      let s := if bad then (let s := s.lightOff e; s.setCart e { s.cart e with loss := some (t, k + 1) })
        else s.setCart e { s.cart e with loss := none, usable := true }
      s.showCart e

/-- Light is usable 50 ms after control [0] is set (R388). -/
def State.lightReady (s : State) (e : Nat) : State :=
  if s.lit e && !(s.cart e).usable then
    let s := s.elapseTo ((s.cart e).lightAt + msT 50)
    s.setCart e { s.cart e with usable := true }
  else s

/-! ## Life accounting (R389 to R393) -/

/-- a_t in hundredths for a case temperature in 1/256 °C; none above 80 °C (R389). -/
def lifeT (t : Int) : Option Nat :=
  (([30, 35, 40, 45, 50, 55, 60, 65, 70, 75, 80].zip [40, 50, 63, 79, 100, 126, 159, 200, 252, 317, 400] : List (Int × Nat)).find?
    (fun r => decide (t ≤ r.1 * 256))).map (·.2)
/-- a_i in hundredths; none above 120% of nominal. -/
def lifeI (drive nominal : Nat) : Option Nat :=
  (([90, 100, 110, 120].zip [80, 100, 125, 156] : List (Nat × Nat)).find? (fun r => decide (100 * drive ≤ r.1 * nominal))).map (·.2)
/-- n ÷ d rounded to nearest with ties to even. -/
def roundEven (n d : Nat) : Nat :=
  let q := n / d
  let r := n % d
  if 2 * r < d then q else if d < 2 * r then q + 1 else q + q % 2
/-- The cycle counting of R391 on one sample: direction (true up), extreme and halves after it. -/
def cycleStep (swing : Int) (up : Bool) (ext : Option Int) (half : Nat) (t : Int) : Bool × Option Int × Nat :=
  match ext with
  | none => (up, some t, half)
  | some x =>
    if up then (if x < t then (up, some t, half) else if swing ≤ x - t then (false, some t, half + 1) else (up, ext, half))
    else (if t < x then (up, some t, half) else if swing ≤ t - x then (true, some t, half + 1) else (up, ext, half))

/-- The projection of R393: `fa` the factor of the present drive, `ft` that of the forecast temperature. -/
def State.project (s : State) (e fi ft : Nat) : State :=
  let c := s.cart e
  let h := s.obj (Obj.cartRatedHours e)
  let target := (if s.obj (Obj.cartLifeStage e) < 2 then 100 else 120) * h * 3600
  let rem := target - s.obj (Obj.cartAcc e)
  let n := c.factors.length
  let sum := c.factors.foldl (· + ·) 0
  -- a_proj = num ÷ (10,000 × den)
  let a : Nat × Nat := if ft * fi * n ≤ sum ∧ 0 < n then (sum, n) else (ft * fi, 1)
  s.setObj (Obj.cartRemainingHours e) (rem * 10000 * a.2 / (360000 * a.1) % 2 ^ 32)

/-- The second's projection (R393). A forecast above the last row of R389 has no factor: its value is free (notes/assumptions/139.md). -/
def State.projectNow (s : State) (e fi : Nat) : State :=
  match lifeT (mget (fun _ => 0) s.heat.fc (100 + e)) with
  | some ft => s.project e fi ft
  | none => s.fresh.2.project e fi s.fresh.1
/-- The second's sample of cartridge e (R389 to R391, R393). A lit cartridge outside the tables loses its light and does not
accrue (DEDUCED, notes/assumptions/54.md). -/
def State.lifeSecond (s : State) (e : Nat) (temp : Int) (drive nominal : Nat) : State :=
  let c := s.cart e
  if !s.on || c.phase == 0 || !c.known then s
  else
    let y := cycleStep (20 * 256) c.up c.ext c.half temp
    let s := s.setCart e { c with up := y.1, ext := y.2.1, half := y.2.2, high := max c.high temp, nominal := nominal, drive := drive }
    let s := (s.setObj (Obj.cartTemp e) (ofSigned 16 temp)).setObj (Obj.cartCycles e) ((c.base + y.2.2 / 2) % 2 ^ 32)
    if !s.lit e then (match lifeI drive nominal with | some fi => s.projectNow e fi | none => s)
    else match lifeT temp, lifeI drive nominal with
      | some ft, some fi =>
        let c := s.cart e
        let s := s.setCart e { c with litSecs := (c.litSecs + 1) % 2 ^ 32, factors := (ft * fi :: c.factors).take 86400 }
        let s := s.setAcc e ((s.obj (Obj.cartAcc e) + roundEven (ft * fi) 100) % 2 ^ 64)
        (s.projectNow e fi).settleLight e
      | _, _ => s.lightLoss e

/-- A life record (R392). -/
def State.lifeRecord (s : State) (e seq : Nat) : Bytes :=
  let c := s.cart e
  let b := be 4 seq ++ be 8 (s.obj (Obj.cartAcc e)) ++ be 4 (s.obj (Obj.cartCycles e)) ++ be 4 c.litSecs ++ be 2 (ofSigned 16 c.high) ++
    be 1 (s.obj (Obj.cartLifeStage e)) ++ be 1 (b2n c.unauth) ++ zeros 36
  b ++ be 4 (crc32c b)
/-- The older copy is written (R392): when due, else at the end of the interval. -/
def State.lifeWrite (s : State) (e : Nat) (ok : Bool) : State :=
  let c := s.cart e
  if !s.on || c.phase == 0 || !c.known then s
  else
    let s := if c.recDue then s else s.elapseTo c.recAt
    let k := 1 - c.copy
    let n := (c.seq + 1) % 2 ^ 32
    let s := (s.emit (.cartWrite e 0x7F [9])).emit (.cartWrite e (0x80 + 64 * k) (s.lifeRecord e n))
    let at_ := s.clk.ticks + secT (s.obj Obj.cartRecordInterval)
    if ok then s.setCart e { s.cart e with seq := n, copy := k, recDue := false, recAt := at_ }
    else (s.setCart e { s.cart e with recDue := false, recAt := at_ }).ctr Obj.ctrCartRecordWriteFail

/-! ## Writes -/

/-- The slot is absent or its cartridge retired (0xC410). -/
def State.cartGone (s : State) (e : Nat) : Bool := (s.cart e).phase == 0 || s.obj (Obj.cartLifeStage e) == 3
/-- A write of cart.e.release (R394): the state, and an abort code or 0. -/
def State.cartReleaseWrite (s : State) (e v : Nat) : State × Nat :=
  if s.cartGone e then (s, 0xC410)
  else if v = 0 then (s, 0)
  else ((s.setCart e { s.cart e with released := true, loss := none }).settleLight e, 0)
/-- A write of cart.e.drive_pct (R388). -/
def State.cartDriveWrite (s : State) (e v : Nat) : State × Nat :=
  if s.cartGone e then (s, 0xC410)
  else ((s.setObj (Obj.cartDrivePct e) v).emit (.cartWrite e 0x1B [BitVec.ofNat 8 v]), 0)
/-- A write of a threshold object keeps each low alarm at or below its high alarm (0xC411). -/
def State.optThresholdWrite (s : State) (k v : Nat) : State × Nat :=
  let t := s.setObj k v
  let g := fun k => toSigned 16 (t.obj k)
  if g Obj.optRxHighAlarm < g Obj.optRxLowAlarm ∨ g Obj.optTxHighAlarm < g Obj.optTxLowAlarm then (s, 0xC411) else (t, 0)

/-- The value of opt.lane_alarms. -/
def State.laneAlarms (s : State) : Bytes := (List.range 8).flatMap (fun e => ((s.cart e).alarms.map (BitVec.ofNat 8)))
/-- The value of opt.lane_power. -/
def State.lanePower (s : State) : Bytes :=
  (List.range 8).flatMap (fun e => (List.range 4).flatMap (fun l =>
    le 2 (ofSigned 16 ((s.cart e).rx.getD l 0)) ++ le 2 (ofSigned 16 ((s.cart e).tx.getD l 0))))

/-! ## Commands -/

/-- CARTRIDGE_OCCUPIED (R381). -/
def execCartridgeOccupied (e : Nat) (s : State) : Outcome := .next (s.occupied e)
/-- CARTRIDGE_VACATED (R381). -/
def execCartridgeVacated (e : Nat) (s : State) : Outcome := .next (s.vacated e)
/-- CARTRIDGE_READY (R383). -/
def execCartridgeReady (e : Nat) (regs : CartRegs) (s : State) : Outcome := .next (s.cartReady e regs)
/-- CARTRIDGE_READY_TIMEOUT (R383). -/
def execCartridgeReadyTimeout (e : Nat) (s : State) : Outcome := .next (s.readyLate e)
/-- CHALLENGE_DONE (R383). -/
def execChallengeDone (e : Nat) (response : Bytes) (s : State) : Outcome := .next (s.challenged e response)
/-- CHALLENGE_TIMEOUT (R383). -/
def execChallengeTimeout (e : Nat) (s : State) : Outcome := .next (s.challengeLate e)
/-- CARTRIDGE_FW_INSTALL_TIMEOUT (R385). -/
def execCartridgeFwInstallTimeout (e : Nat) (s : State) : Outcome := .next (s.installLate e)
/-- OPTICAL_MONITOR_SAMPLE (R380). -/
def execOpticalMonitorSample (e : Nat) (m : OptSample) (s : State) : Outcome := .next (s.optSample e m)
/-- RELIGHT_ATTEMPT (R387). -/
def execRelightAttempt (e : Nat) (m : OptSample) (s : State) : Outcome := .next (s.relight e m)
/-- LIGHT_USABLE (R388). -/
def execLightUsable (e : Nat) (s : State) : Outcome := .next (s.lightReady e)
/-- LIFE_ACCRUAL (R389, R391, R393). -/
def execLifeAccrual (e : Nat) (temp : Int) (drive nominal : Nat) (s : State) : Outcome := .next (s.lifeSecond e temp drive nominal)
/-- LIFE_RECORD_WRITE (R392). -/
def execLifeRecordWrite (e : Nat) (ok : Bool) (s : State) : Outcome := .next (s.lifeWrite e ok)

end Sys2Proof.Machine
end

