-- ==== Sys2Proof/Machine/Power.lean ====
section
/-! DEFINITION. Power domains and rails, start triggers, start steps 6 to 9, the stop and the trip (R95, R100, R123, R127 to R138,
R405 to R407, R458 to R461). Powering takes no time of its own in the model (notes/assumptions/63.md). -/
namespace Sys2Proof.Machine

/-! ## Images (R98 to R100) -/

/-- First flash address and size of a bank of an image kind: 1 harbour, 2 isle, 3 cartridge (R98). -/
def bankAt (kind bank : Nat) : Nat × Nat :=
  if kind = 1 then (0x100000 + bank * 0x200000, 0x200000)
  else if kind = 2 then (0x500000 + bank * 0x100000, 0x100000)
  else (0x700000 + bank * 0x80000, 0x80000)
/-- The header of a bank. -/
def State.bankHead (s : State) (kind bank : Nat) : Bytes := s.flashRead (bankAt kind bank).1 640
/-- The bank's image carries the magic and the kind (R100). -/
def State.bankMagic (s : State) (kind bank : Nat) : Bool :=
  let h := s.bankHead kind bank
  leAt h 0 4 == 0x474D4947 && byteAt h 4 == kind
/-- The image of a bank, header and body. -/
def State.bankImage (s : State) (kind bank : Nat) : Bytes :=
  let a := bankAt kind bank
  s.flashRead a.1 (min a.2 (640 + leAt (s.bankHead kind bank) 12 4))
/-- An image's signature verifies under the image key (R99). -/
def State.imageSigned (s : State) (img : Bytes) : Bool :=
  decide (640 + leAt img 12 4 ≤ img.length) && Config.ecdsaVerify s.dev.romKey (imageDigest img) (slice img 544 96)
/-- The security version is at least the fused floor. -/
def State.imageSecure (s : State) (img : Bytes) : Bool := decide (s.dev.securityFloor ≤ leAt img 24 2)
/-- A bank passes (R100). -/
def State.bankOk (s : State) (kind bank : Nat) : Bool :=
  let img := s.bankImage kind bank
  s.bankMagic kind bank && s.imageSigned img && s.imageSecure img
/-- The order in which the banks are tried (R100). -/
def State.bankOrder (s : State) (kind : Nat) : List Nat :=
  let g := fun b => leAt (s.bankHead kind b) 8 4
  match s.bankMagic kind 0, s.bankMagic kind 1 with
  | true, true => if g 0 < g 1 then [1, 0] else [0, 1]
  | false, true => [1, 0]
  | _, _ => [0, 1]
/-- Select a bank (R100): measured first where `m` says so (R102), start.fallback set as R100 says; the image of the bank that
passed. -/
def State.selectBank (s : State) (kind : Nat) (m : Bool) : State × Option Bytes :=
  let tried := match s.bankOrder kind with
    | [a, b] => if s.bankOk kind a then [a] else [a, b]
    | bs => bs
  let s' := s.each tried (fun t b => if m && s.bankMagic kind b then t.extend 1 b (imageDigest (s.bankImage kind b)) else t)
  let bad := tried.any (fun b => s.bankMagic kind b && !s.bankOk kind b)
  let none_ := kind != 3 && !s.bankMagic kind 0 && !s.bankMagic kind 1
  let s' := s'.when (bad || none_) (·.setObj Obj.startFallback 1)
  let ok := tried.find? (s.bankOk kind)
  let ps := s'.boot.passed.filter (fun x => x.1 != kind) ++ [(kind, ok.getD 2)]
  ({ s' with boot := { s'.boot with passed := ps } }, ok.map (s.bankImage kind))

/-! ## Plain crossing (R94, R95) -/

/-- Enter or leave plain crossing. -/
def State.plainUpdate (s : State) : State :=
  s.setEv Obj.startPlainCrossing (b2n (s.obj Obj.startInference != 1 || s.restricted))
/-- The device becomes Restricted (R115). -/
def State.restrict (s : State) : State := (s.setEv Obj.startRestricted 1).plainUpdate

/-! ## Domains down (R128 to R130, R136) -/

/-- A domain bit. -/
def State.setDomain (s : State) (d : Nat) (b : Bool) : State := s.setEvBit Obj.powerDomains d b
/-- PD-HBM powers down: stacks and sounds go, and what the stacks held is lost (R129). -/
def State.hbmDown (s : State) : State :=
  if !s.domain 1 then s
  else
    let s := s.each (List.range 4) State.isleDown
    let s := s.each (List.range 4) State.loseStack
    let s := { s with obs := { s.obs with ext := [] } }
    ((((s.setEv Obj.machineSoundsUp 0).memLose 0 0x1800000000).setDomain 1 false).loseSections)
/-- What is left of the meters when PD-NET powers down: their colour counts, as counters lie in AON (R431). -/
def State.keptMeters (s : State) : List (Nat × Meter) :=
  s.x.meters.foldl (fun m e => mset (fun _ => Meter.initial) m e.1
    { Meter.initial with green := e.2.green, yellowN := e.2.yellowN, red := e.2.red }) []
/-- What is left of the flow table's part when PD-NET powers down: the fencing epochs of the 64 lock owner tags, each of which has moved on by
one when the table is powered again (spec/16: a trip with descriptors in flight). -/
def Flow.afterDown (f : Flow) : Flow :=
  { Flow.init with tags := (List.range 64).foldl (fun m t =>
      mset (fun _ => ({} : LTag)) m t { epoch := ((mget (fun _ => ({} : LTag)) f.tags t).epoch + 1) % 65536 }) [] }
/-- PD-NET powers down: ports and straits go with the table, the queues and what else it held (R127, R129). -/
def State.netDown (s : State) : State :=
  if !s.domain 0 then s
  else
    let s := s.each (List.range 64) (fun s q => s.when (s.portState q == 2) (fun s => let c := s.fresh; c.2.portDown q false (c.1 % 2 == 1)))
    let s := s.each (List.range 64) (fun s q => s.setEv (portObj q 1) 1)
    let s := s.deregisterIf (fun ep => match ep with | .strait _ => true | _ => false)
    let s := s.each (List.range 8) (fun s i => (s.setEv (Obj.straitState i) 0).setEvBit Obj.straitUp i false)
    let s := s.fetchEnd 4
    let s := s.each (List.range 4) (fun s g => s.setEvBit Obj.queueXoffOut g false)
    let s := s.setObj Obj.queueWorkHighState 0
    -- the mailboxes' pointers, enables and what waits in them go with PD-NET; only the doorbell latches lie in AON (R127)
    let s := { s with cu := { s.cu with mbox := [] } }
    let s := { s with flow := s.flow.afterDown, queues := [], st := [], x := { ports := [], egress := [], meters := s.keptMeters, holds := [] },
                      t1 := { s.t1 with reqs := [], recs := [], fetches := [], cache := [], ens := [] }, m := { s.m with out2 := [], waiting := [] },
                      pool := { s.pool with adv := [] }, obs := { s.obs with srcs := [], ring := [] } }
    s.setDomain 0 false

/-- Enables of a domain in the order they drop (R460): EN_CORE goes with EN_SRAM. -/
def dropOrder (d : Nat) : List Nat := if d = 1 then [6, 5, 4] else [3, 2, 1]
/-- An enable falls, EN_CORE with EN_SRAM. -/
def State.dropRail (s : State) (r : Nat) : State :=
  let e := setBit s.pwr.en r false
  { s with pwr := { s.pwr with en := if r = 1 then setBit e 0 false else e } }
/-- Begin to drop the enables of a domain (R460). -/
def State.dropRails (s : State) (d : Nat) : State :=
  match s.pwr.down ++ dropOrder d with
  | [] => s
  | r :: rest =>
    if s.pwr.down.isEmpty then
      let s := s.dropRail r
      { s with pwr := { s.pwr with down := rest, downAt := s.clk.ticks + msT 2 } }
    else { s with pwr := { s.pwr with down := r :: rest } }
/-- The next enable falls, once the power-good of the one dropped before it has fallen or 2 ms have passed (R460). -/
def State.nextDrop (s : State) (rail : Nat) : State :=
  match s.pwr.down with
  | [] => s
  | r :: rest =>
    if r ≠ rail then s
    else
      let s := if s.objBit Obj.elecRailPg (r + 1) then s.elapseTo s.pwr.downAt else s
      let s := s.dropRail r
      { s with pwr := { s.pwr with down := rest, downAt := s.clk.ticks + msT 2 } }

/-! ## Domains up (R90 steps 7 to 9, R130, R137) -/

/-- Raise enables; their power-goods are due within 10 ms (R461). -/
def State.raise (s : State) (rs : List Nat) : State :=
  let en := rs.foldl (fun e r => setBit e r true) s.pwr.en
  let w := s.pwr.waits ++ rs.map (fun r => (r, s.clk.ticks + msT 10))
  { s with pwr := { s.pwr with en := en, waits := w } }
/-- Begin to power a domain up; enables that were still to drop fall first. -/
def State.beginUp (s : State) (d : Nat) : State :=
  let s := s.each s.pwr.down State.dropRail
  let s := { s with pwr := { s.pwr with up := some d, down := [], waits := [] } }
  if d = 0 then s.raise [0, 1] else s.raise [4]

/-- The powered domains' clocks run (R90 step 7): ports, straits, cartridges and notifications go on. -/
def State.netResume (s : State) : State :=
  let s := s.plainUpdate.syncPorts
  let s := s.each (List.range 8) (fun s i =>
    if s.objBit Obj.straitEnable i && s.obj (Obj.straitState i) == 0 then s.straitTrain i else s)
  let s := s.resumeAuth.settleLights.recheck
  s.each (List.range 8) (State.pump 65)

/-- The isles that may be powered power up (R90 step 9, R137): not those that residency took Off or that are fenced. -/
def State.islesUp (s : State) : State :=
  let s := s.each (List.range 4) (fun s n =>
    if s.domain (2 + n) || bit s.res.off n || s.objBit Obj.faultIslesFenced n then s else s.isleUp n)
  (s.setObj Obj.startPhase 4).retryRemap
/-- Highest bundle format that an isle record lists as tested. -/
def bundleFormat (r : Bytes) : Nat :=
  (List.range (leAt r 2 2)).foldl (fun m i =>
    let e := slice r (16 + 8 * i) 8
    if byteAt e 0 = 4 ∧ bit (byteAt e 1) 0 = false then max m (byteAt e 2 * 65536 + byteAt e 3 * 256 + byteAt e 5) else m) 0
/-- The isle image is read and verified and its pair decided (R90 step 9, R100, R111). -/
def State.isleImage (s : State) : State :=
  let r := s.selectBank 2 false
  let s := { r.1 with pwr := { r.1.pwr with isleUsed := true } }
  match r.2 with
  | none => (s.setPair 2 2 (imageCode s.harbourRecord) (2 * 2 ^ 24)).restrict
  | some img =>
    let rec_ := recTrim (slice img 16 528)
    let s := (s.setObj Obj.imgIsleVersion (recVersion rec_)).setObj Obj.imgBundleFormat (bundleFormat rec_)
    let d := s.decidePair 2 s.harbourRecord rec_ false
    let s := { d.1 with boot := { d.1.boot with isle := img } }
    s.when (d.2 == 2) State.restrict
/-- A slot without quads whose region's contents PD-HBM's power-down has lost becomes Empty with status 8 (R345). -/
def State.dropBare (s : State) : State :=
  s.each (List.range 64) (fun s i =>
    let p := i / 4
    let n := i % 4
    if s.slotUsed p n && (s.slot p n).lost && (s.slotIsle p n).isNone then (s.setEv (Obj.partSlotLoadStatus p n) 8).emptySlot p n else s)
/-- PD-HBM is up (R90 steps 8 and 9): stacks behind good sounds are reachable; after a later power-up their contents are
undefined, flow records start empty and slots without quads become Empty as R345 says. -/
def State.hbmUp (s : State) : State :=
  let s := { s with pwr := { s.pwr with up := none, hbmUsed := true } }
  let s := s.setDomain 1 true
  let good := (List.range 4).foldl (fun m n => setBit m n (!bit s.pwr.soundBad n)) 0
  let s := (s.setEv Obj.machineSoundsUp good).setEv Obj.machineStacksUp good
  let s := { s with t1 := { s.t1 with recs := [], fetches := [], cache := [] } }
  let s := s.dropBare
  let s := if s.pwr.isleUsed then s else s.isleImage
  if s.restricted then s.hbmDown.dropRails 1 else s.islesUp
/-- The cartridge image is selected (R100), once in a start. -/
def State.cartImage (s : State) : State :=
  if s.boot.firstDone then s
  else
    let r := s.selectBank 3 false
    let img := r.2.getD []
    let s := { r.1 with boot := { r.1.boot with firstDone := true, cart := img } }
    s.setObj Obj.imgCartridgeVersion (if img.isEmpty then 0 else recVersion (slice img 16 528))
/-- PD-NET's clocks run: what follows is PD-HBM and the isles (R90 steps 7 to 9). -/
def State.netReady (s : State) : State :=
  let s := (s.setObj Obj.startPhase 3).cartImage
  let s := s.netResume
  if s.restricted then s
  else if !s.domain 1 then s.beginUp 1
  else s.islesUp
/-- The node cache is filled again from the regions that PD-HBM has kept (R246; DEDUCED, notes/assumptions/129.md). -/
def State.repin (s : State) : State :=
  s.each (List.range 64) (fun s i =>
    let u := s.slot (i / 4) (i % 4)
    if u.ens != 0 && (match u.region with | some r => s.regionUp r | none => false) then (s.movedStack (ensStack u.ens) u.ensLen).pinEns (s.memRead u.ens u.ensLen) u.ensDigest else s)
/-- PD-NET is up: its table and queues are clear (R90 step 7, R130). -/
def State.netUp (s : State) : State :=
  let s := { s with pwr := { s.pwr with up := none } }
  (s.setDomain 0 true).repin.netReady

/-- A power-good arrives (R460): the next enable of the domain's sequence rises, or the domain is up. -/
def State.powerGood (s : State) (r : Nat) : State :=
  if !s.on || decide (7 ≤ r) then s
  else
    let s := s.setEvBit Obj.elecRailPg r true
    if !s.pwr.waits.any (fun w => w.1 == r) then s
    else
      let ws := s.pwr.waits.filter (fun w => w.1 != r)
      let s := { s with pwr := { s.pwr with waits := ws } }
      if !ws.isEmpty then s
      else match s.pwr.up with
        | some 0 => if !bit s.pwr.en 2 then s.raise [2] else if !bit s.pwr.en 3 then s.raise [3] else s.netUp
        | some 1 => if !bit s.pwr.en 5 then s.raise [5] else if !bit s.pwr.en 6 then s.raise [6] else s.hbmUp
        | _ => s

/-! ## Start triggers and the core clock (R123, R133, R138) -/

/-- The device is in Berth (R131). -/
def State.berth (s : State) : Bool := s.on && s.obj Obj.powerState == 1
/-- A start trigger arrives (R133): kept while the device is in Berth, not in ROM recovery and no trip is in effect (R407). In the tick in
which the idle time ends it prevents the stop and restarts the idle time (R138). -/
def State.trigger (s : State) (reason : Nat) : State :=
  if s.running && (match s.pwr.idleAt with | some t => decide (t + msT (s.obj Obj.powerIdleTime) ≤ s.clk.ticks) | none => false) then
    { s with pwr := { s.pwr with idleAt := some s.clk.ticks } }
  else if s.berth && s.boot.served && !s.boot.recovery && s.obj Obj.thermTripped == 0 && s.pwr.trigger.isNone then
    { s with pwr := { s.pwr with trigger := some reason } }
  else s
/-- Step 6 of R90: the PLL locks, or the lock fails and is tried again (R123). -/
def State.coreStart (s : State) (reason : Nat) (locks : Bool) : State :=
  if !locks then
    let s := { s with pwr := { s.pwr with trigger := some reason, pllRetry := some (s.clk.ticks + msT 10) } }
    (s.setObj Obj.powerWakeReason reason).setEv Obj.powerPllFail 1
  else
    let s := ({ s with pwr := { s.pwr with trigger := none, pllRetry := none, coreClock := true, idleAt := none } } : State).zeroTimers
    let s := ((s.setEv Obj.powerPllFail 0).setObj Obj.powerWakeReason reason).ctr Obj.ctrCoreWakes
    let s := (s.setObj Obj.startPhase 2).setEv Obj.powerState 2
    if s.domain 0 then s.netReady else s.beginUp 0
/-- CORE_CLOCK_START: the trigger that waits, or the one the command brings, is acted on (notes/assumptions/57.md). -/
def State.clockStart (s : State) (reason : Nat) (locks : Bool) : State :=
  let s := if 1 ≤ reason ∧ reason ≤ 6 then s.trigger reason else s
  match s.berth, s.pwr.trigger with
  | true, some r => if s.pwr.pllRetry.isSome then s else s.coreStart r locks
  | _, _ => s
/-- A retry of the lock (R123). -/
def State.pllRetryNow (s : State) (locks : Bool) : State :=
  match s.pwr.pllRetry, s.pwr.trigger with
  | some t, some r => (s.elapseTo t).coreStart r locks
  | _, _ => s

/-- The lane belongs to an enabled port or strait (R133): host lanes 0 to 31, line lanes 32 to 63, strait i from 64 + 8 i. -/
def State.laneEnabled (s : State) (l : Nat) : Bool :=
  if l < 64 then s.present (s.portOfLane l) && s.enabled (s.portOfLane l) else decide (l < 128) && s.objBit Obj.straitEnable ((l - 64) / 8)
/-- Receive signal has been there for 1 ms on a lane (R133, R134). -/
def State.rxSignal (s : State) (l : Nat) : State :=
  if !s.laneEnabled l || s.pwr.backoff.any (fun b => b.1 == l && decide (s.clk.ticks < b.2.2)) then s
  else
    let fresh := s.pwr.trigger.isNone
    let t := s.trigger 4
    if ((fresh && t.pwr.trigger.isSome) || s.pwr.trigger == some 4) && !s.pwr.wakeLanes.contains l then
      { t with pwr := { t.pwr with wakeLanes := t.pwr.wakeLanes ++ [l] } }
    else t
/-- Put the lanes that woke the device in vain in backoff (R134). -/
def State.backOff (s : State) : State :=
  s.each s.pwr.wakeLanes (fun s l =>
    let old := s.pwr.backoff.find? (fun b => b.1 == l)
    let ms := match old with | some b => min 64000 (2 * b.2.1) | none => s.obj Obj.powerRedetectBackoff
    let bs := s.pwr.backoff.filter (fun b => b.1 != l) ++ [(l, ms, s.clk.ticks + msT ms)]
    { s with pwr := { s.pwr with backoff := bs } })

/-! ## The stop (R135, R136) -/

/-- Slot n of partition p, in use, waits for its reload on a powered isle (R345, R426). -/
def State.reloads (s : State) (p n : Nat) : Bool :=
  s.slotUsed p n && (s.slot p n).tier2 && !(s.slot p n).armed &&
    (match s.slotIsle p n with | some i => s.domain (2 + i) && !s.objBit Obj.faultIslesFenced i | none => false) &&
    s.obj (Obj.partRecoveryState p) != 3
/-- The conditions of R135 hold now. -/
def State.idleNow (s : State) : Bool :=
  !s.anyUp && (List.range 8).all (fun i => !s.straitUp i) &&
  s.cu.mbox.all (fun b => b.2.reqs.isEmpty && b.2.waiting.isEmpty) &&
  (List.range 8).all (fun n => match s.agent n with | some a => a.claims.isEmpty || a.ep.box.isNone | none => true) &&
  s.flow.rings.all (fun r => !r.2.en || r.2.sp == r.2.sc) && s.flow.bring.all (fun r => !r.2.en || r.2.sp == r.2.sc) &&
  s.queues.all (fun q => !(isCollector q.1 || isResult q.1) || q.2.pkts.isEmpty) &&
  (List.range 64).all (fun i => (s.slot (i / 4) (i % 4)).load.isNone && !(s.slot (i / 4) (i % 4)).arming) &&
  (List.range 64).all (fun i => !s.reloads (i / 4) (i % 4)) &&
  (List.range 16).all (fun p => s.obj (Obj.partSwapState p) == 0) &&
  s.boot.prog.isNone && s.cu.handles.all (fun h => !(h.write && h.dead.isNone && h.idx == 0x1250)) &&
  s.t1.reqs.isEmpty && s.m.out2.isEmpty && s.pwr.up.isNone && s.boot.restartAt.isNone &&
  s.carts.all (fun c => c.2.phase == 0 || c.2.phase == 3 || c.2.deadline.isNone)
/-- The core clock stops (R136); domains that power.berth_keep does not keep power down, isles first. -/
def State.stopNow (s : State) : State :=
  let keep := s.obj Obj.powerBerthKeep
  -- lights off first; the state then reads dark idle
  let s := s.each (List.range 8) State.lightOff
  let s := s.each (s.res.entering.filter (·.1)) (fun s e => s.entryDone true e.2)
  let s := s.each (List.range 4) (fun s n => if s.domain (2 + n) && !bit keep (2 + n) then s.isleDown n else s)
  let s := if s.domain 1 && !bit keep 1 then s.hbmDown.dropRails 1 else s
  let s := if s.domain 0 && !bit keep 0 then s.netDown.dropRails 0 else s
  let s := { s with pwr := { s.pwr with coreClock := false, pllRetry := none, idleAt := none } }
  let s := (s.haltAuth.setObj Obj.startPhase 1).setEv Obj.powerState 1
  let s := ((s.backOff.ctr Obj.ctrCoreStops).setEv Obj.queueXoffOut 0).each (List.range 8) State.showCart
  { s with pwr := { s.pwr with wakeLanes := [] } }
/-- Each grain tick the stop conditions are looked at (R135; notes/assumptions/59.md). -/
def State.watchIdle (s : State) : State :=
  { s with pwr := { s.pwr with idleAt := if s.running && s.idleNow then some (s.pwr.idleAt.getD s.clk.ticks) else none } }
/-- The end of power.idle_time, through which the conditions have held (R135; notes/assumptions/59.md). -/
def State.clockStop (s : State) : State :=
  if s.running && s.obj Obj.powerAutoStop == 1 && s.obj Obj.powerCoreHold == 0 && s.idleNow then
    (s.elapseTo (s.pwr.idleAt.getD s.clk.ticks + msT (s.obj Obj.powerIdleTime))).stopNow
  else s

/-! ## The trip (R405 to R407, R461) -/

/-- Frames held in egress queues and hold units. -/
def State.heldFrames (s : State) : Nat :=
  s.x.egress.foldl (fun n e => n + e.2.frames.length) 0 + s.x.holds.foldl (fun n h => n + h.2.foldl (fun m k => m + k.frames.length) 0) 0
/-- Every slot becomes Empty with status 8 (R406). -/
def State.emptyAll (s : State) : State :=
  s.each (List.range 64) (fun s i =>
    let p := i / 4
    let n := i % 4
    let s := if s.slotState p n = 0 then s else (s.setEv (Obj.partSlotLoadStatus p n) 8).emptySlot p n
    s.setSlot p n { ({} : Slot) with fence := (s.slot p n).fence })
/-- Every die reads at or below therm.resume_temp. -/
def State.allCool (s : State) : Bool :=
  s.heat.sensors.all (fun e => decide (88 ≤ e.1) || bit s.heat.failed e.1 || decide (e.2.val ≤ (s.obj Obj.thermResumeTemp : Int) * 256))
/-- The trip (R405, R406): lights off, every switched domain down, the core clock stopped. `cause` is the sensor, or 0xFE with
its source (R461). -/
def State.trip (s : State) (cause source : Nat) : State :=
  if s.obj Obj.thermTripped = 1 then s
  else
    let s := (s.addCtr Obj.ctrTripFramesLost s.heldFrames).addCtr Obj.ctrFaultFramesLost s.heldFrames
    let s := s.each (List.range 8) State.lightOff
    let s := (s.setObj Obj.thermTripCause cause).setObj Obj.elecTripSource source
    let s := s.setEv Obj.thermTripped 1
    let s := s.faultRec 10 0 0 0 0xFF 0xFF 0 0 0
    let s := s.emptyAll
    let s := (s.each (List.range 4) State.isleDown).hbmDown.netDown
    let s := { s with pwr := { s.pwr with coreClock := false, pllRetry := none, trigger := none, idleAt := none, up := none, en := 0, waits := [], down := [],
                                          wakeLanes := [], tripCool := if s.allCool then some s.clk.ticks else none,
                                          tripAt := s.clk.ticks + 1 } }
    let s := (s.haltAuth.setObj Obj.startPhase 1).setEv Obj.powerState 1
    s.each (List.range 8) State.showCart
/-- The trip clears (R407). -/
def State.clearTrip (s : State) : State :=
  if s.obj Obj.thermTripped = 0 then s
  else
    let s := { s with pwr := { s.pwr with tripCool := none, tripAt := 0 } }
    let s := s.setEv Obj.thermTripped 0
    s.when (s.obj Obj.powerCoreHold == 1) (·.trigger 2)

/-- A power-good is missing 10 ms after its enable (R461). -/
def State.railLate (s : State) (r : Nat) : State :=
  match s.pwr.waits.find? (fun w => w.1 == r) with
  | none => s
  | some w =>
    let s := (s.elapseTo w.2).setEv Obj.elecRailFault (2 ^ r)
    (s.ctr Obj.ctrRailFaults).trip 0xFE 2
/-- A power-good falls (R461): a trip where its enable is high. In the tick of a trip, which has dropped every enable itself, the
rail's bit is set and counted, and the rail is the source of a trip for lock; a later fall is that of an enable the trip dropped
(DEDUCED, notes/assumptions/73.md). -/
def State.railFall (s : State) (r : Nat) : State :=
  if !s.on || decide (7 ≤ r) then s
  else
    let s := s.setEvBit Obj.elecRailPg r false
    if s.obj Obj.thermTripped = 1 then
      if s.pwr.tripAt ≠ s.clk.ticks + 1 ∨ s.objBit Obj.elecRailFault r then s
      else
        let s := (s.setEvBit Obj.elecRailFault r true).ctr Obj.ctrRailFaults
        s.when (s.obj Obj.elecTripSource == 3) (·.setObj Obj.elecTripSource 2)
    else if bit s.pwr.en r then ((s.setEv Obj.elecRailFault (2 ^ r)).ctr Obj.ctrRailFaults).trip 0xFE 2
    else s
/-- The PLL loses lock while the core clock runs (R123, R461). -/
def State.pllLost (s : State) : State :=
  if !s.pwr.coreClock then s
  else ((s.setEv Obj.powerPllFail 1).ctr Obj.ctrPllLockLosses).trip 0xFE 3

/-! ## Ports (R134, R149, R177, R388) -/

/-- A port has alignment and codeword lock, and on the host side training (R149); a line port needs its engines' light (R388). -/
def State.portLink (s : State) (q : Nat) : State :=
  if 32 ≤ q && !s.lightOk q then s
  else
    let s := s.linkUp q
    if s.portState q = 2 then s.lanesUp q (s.portLanes q) else s
/-- A write of port.host_enable or port.line_enable (R133, R177): the state, and an abort code or 0. -/
def State.portEnableWrite (s : State) (line : Bool) (v : Nat) : State × Nat :=
  let k := if line then Obj.portLineEnable else Obj.portHostEnable
  let old := s.obj k
  let s := s.setEv k v
  let base := if line then 32 else 0
  let changed := (List.range 32).filter (fun i => bit old i != bit v i)
  let s := if s.netOn then s.each changed (fun s i => if s.present (base + i) then s.syncPort (base + i) else s) else s
  let s := s.settleLights
  (s.when (changed.any (fun i => bit v i && s.present (base + i))) (·.trigger 5), 0)
/-- A write of a port mode (R147): the state, and an abort code or 0. -/
def State.portModeWrite (s : State) (line : Bool) (g v : Nat) : State × Nat := ((s.modeWrite line g v).settleLights, 0)

/-! ## Writes -/

/-- A write of power.core_hold (R133). -/
def State.coreHoldWrite (s : State) (v : Nat) : State × Nat :=
  let s := s.setObj Obj.powerCoreHold v
  (s.when (v == 1) (·.trigger 2), 0)
/-- A write of start.inference (R95). While the core clock does not run, plain crossing follows it at the next start of the clock; after the
first step 7 a later power-up of PD-NET enters plain crossing no more than that asks (DESIGN CHOICE, notes/assumptions/120.md). -/
def State.inferenceWrite (s : State) (v : Nat) : State × Nat :=
  let s := s.setObj Obj.startInference v
  (s.when s.netOn State.plainUpdate, 0)
/-- A write of power.berth_keep (R137): no domain is kept whose base is dropped (R128). -/
def State.berthKeepWrite (s : State) (v : Nat) : State × Nat :=
  let isles := (List.range 4).any (fun n => bit v (2 + n))
  if (isles && !bit v 1) || (bit v 1 && !bit v 0) then (s, 0xC130) else (s.setObj Obj.powerBerthKeep v, 0)
/-- A write of strait.enable also starts the core clock (R133). -/
def State.straitWrite (s : State) (v : Nat) : State × Nat :=
  let old := s.obj Obj.straitEnable
  let r := s.straitEnableWrite v
  (r.1.when ((List.range 8).any (fun i => bit v i && !bit old i)) (·.trigger 5), r.2)

/-! ## Commands -/

/-- CORE_CLOCK_START (R133). -/
def execCoreClockStart (reason : Nat) (pllLocks : Bool) (s : State) : Outcome := .next (s.clockStart reason pllLocks)
/-- RX_SIGNAL_DETECT (R133). -/
def execRxSignalDetect (lane : Nat) (s : State) : Outcome := .next (s.rxSignal lane)
/-- PLL_LOCK_RETRY (R123). -/
def execPllLockRetry (locks : Bool) (s : State) : Outcome := .next (s.pllRetryNow locks)
/-- CORE_CLOCK_STOP (R136). -/
def execCoreClockStop (s : State) : Outcome := .next s.clockStop
/-- LINK_UP (R149, R177). -/
def execLinkUp (port : Nat) (s : State) : Outcome := .next (s.portLink port)
/-- POWER_GOOD_ARRIVE (R460). -/
def execPowerGoodArrive (rail : Nat) (s : State) : Outcome := .next (s.powerGood rail)
/-- POWER_GOOD_TIMEOUT (R461). -/
def execPowerGoodTimeout (rail : Nat) (s : State) : Outcome := .next (s.railLate rail)
/-- POWER_GOOD_FALL (R461). -/
def execPowerGoodFall (rail : Nat) (s : State) : Outcome := .next (s.railFall rail)
/-- PLL_LOCK_LOSS (R461). -/
def execPllLockLoss (s : State) : Outcome := .next s.pllLost
/-- DETECTOR_BACKOFF_END (R134). -/
def execDetectorBackoffEnd (lane : Nat) (s : State) : Outcome :=
  .next (match s.pwr.backoff.find? (fun b => b.1 == lane) with | some b => s.elapseTo b.2.2 | none => s)
/-- REVERSE_ENABLE_DROP (R460). -/
def execReverseEnableDrop (rail : Nat) (s : State) : Outcome := .next (s.nextDrop rail)
/-- EXTERNAL_TRIP (R405, R474): THERM_TRIP_N is driven low from outside. -/
def execExternalTrip (s : State) : Outcome :=
  .next (if s.on && s.obj Obj.thermTripped == 0 then (s.ctr Obj.ctrThermTrips).trip 0xFE 1 else s)
/-- TRIP_AUTO_RESUME (R407): every die has been cool for 1 s. -/
def execTripAutoResume (s : State) : Outcome :=
  .next (match s.obj Obj.thermTripped == 1 && s.obj Obj.thermAutoResume == 1, s.pwr.tripCool with
    | true, some t => (s.elapseTo (t + secT 1)).clearTrip
    | _, _ => s)

end Sys2Proof.Machine
end

