-- ==== Sys2Proof/Machine/Heat.lean ====
section
/-! DEFINITION. Heat (spec/15): sensors, the forecaster's outputs, rotation, thermal duty, the trip's sensor and the thermal
cycle counts (R395 to R409). -/
namespace Sys2Proof.Machine

/-- Sensor n. -/
def State.sensor (s : State) (n : Nat) : Sensor := mget (fun _ => ({} : Sensor)) s.heat.sensors n
/-- Replace sensor n. -/
def State.setSensor (s : State) (n : Nat) (v : Sensor) : State :=
  { s with heat := { s.heat with sensors := mset (fun _ => ({} : Sensor)) s.heat.sensors n v } }
/-- Sensor n is failed or lost (R396). -/
def State.sensorBad (s : State) (n : Nat) : Bool := bit s.heat.failed n
/-- Mark a sensor; a change raises an event on therm.sensor_failed. -/
def State.markSensor (s : State) (n : Nat) (b : Bool) : State :=
  if s.sensorBad n = b then s
  else ({ s with heat := { s.heat with failed := setBit s.heat.failed n b } } : State).event Obj.thermSensorFailed
/-- The die of a sensor is powered (R396): the harbour die from the start on (DEDUCED, notes/assumptions/64.md). -/
def State.diePowered (s : State) (n : Nat) : Bool := if n < 64 then s.domain (2 + n / 16) else s.on
/-- Sensors of a die or stack, as units of therm.cycles: 0 the harbour die, 1 + n isle n, 5 + n stack n. -/
def unitSensors (u : Nat) : List Nat :=
  if u = 0 then (List.range 24).map (64 + ·) else if u < 5 then (List.range 16).map (16 * (u - 1) + ·) else [88 + (u - 5)]
/-- The highest reading of a unit's sensors that have been read and are not failed; none where there is none (R395, R396). -/
def State.hotSpot (s : State) (u : Nat) : Option Int :=
  if 5 ≤ u ∧ s.domain 1 = false then none
  else (unitSensors u).foldl (fun m n => if s.sensorBad n || !(s.sensor n).read then m else some (match m with | some x => max x (s.sensor n).val | none => (s.sensor n).val)) none
/-- The hot value of quad q (R395, R396); the die's hot spot where both its sensors have failed. -/
def State.hotValue (s : State) (q : Nat) : Int :=
  let a := 2 * q
  match s.sensorBad a, s.sensorBad (a + 1) with
  | false, false => max (s.sensor a).val (s.sensor (a + 1)).val
  | false, true => (s.sensor a).val
  | true, false => (s.sensor (a + 1)).val
  | true, true => (s.hotSpot (1 + q / 8)).getD 0
/-- The thermal duty of isle n's quads is held at 8 (R396). -/
def State.dutyHeld (s : State) (n : Nat) : Bool := s.sensorBad (88 + n) || (unitSensors (1 + n)).all s.sensorBad

/-- Thermal duty of quad q. -/
def State.duty (s : State) (q : Nat) : Nat := mget (fun _ => 16) s.heat.duty q
/-- Set it. -/
def State.setDuty (s : State) (q v : Nat) : State := { s with heat := { s.heat with duty := mset (fun _ => 16) s.heat.duty q v } }
/-- Held isles have every quad at 8. -/
def State.holdDuties (s : State) : State :=
  s.each (List.range 32) (fun s q => if s.dutyHeld (q / 8) then s.setDuty q 8 else s)

/-- A die sensor's sample (R396): the watch on range and on change. -/
def State.dieSample (s : State) (n : Nat) (v : Int) : State :=
  let x := s.sensor n
  let t := s.clk.ticks
  let pow := s.diePowered n
  let inR := decide (-40 * 256 ≤ v) && decide (v ≤ 150 * 256)
  let changed := x.read && v != x.val
  let same := if changed || !x.read || !pow then t else x.same
  let good := if !inR || !pow then t else if x.read then x.good else t
  let moved := (inR && pow && x.moved) || (changed && inR && pow)
  let restart := good == t
  let y : Sensor := { x with val := v, same := same, good := good, moved := if restart then false else moved, read := true }
  let s := s.setSensor n y
  if s.sensorBad n then
    if inR && pow && y.moved && decide (good + secT 1 ≤ t) then s.markSensor n false
    else if inR && pow && decide (good + secT 1 ≤ t) then s.setSensor n { y with good := t, moved := false }
    else s
  else if !inR || decide (same + secT 1 ≤ t) then (s.markSensor n true).setSensor n { y with good := t, moved := false }
  else s
/-- A stack's readout (R396): lost after three failed samples in a row, restored at its first good one. -/
def State.stackSample (s : State) (n : Nat) (v : Option Int) : State :=
  if !s.domain 1 then s
  else match v with
  | some t => (s.setSensor n { s.sensor n with val := t, bad := 0, read := true }).markSensor n false
  | none =>
    let b := min 3 ((s.sensor n).bad + 1)
    let s := s.setSensor n { s.sensor n with bad := b }
    if b = 3 then s.markSensor n true else s
/-- Track since when every die is cool, for R407. -/
def State.coolWatch (s : State) : State :=
  let c := if s.obj Obj.thermTripped = 0 ∨ s.allCool = false then none
    else match s.pwr.tripCool with | some t => some t | none => some s.clk.ticks
  { s with pwr := { s.pwr with tripCool := c } }
/-- A sample of sensor n (R395, R396, R405); a readout that fails leaves a die, engine or cartridge sensor as it was. -/
def State.sample (s : State) (n : Nat) (v : Option Int) : State :=
  if !s.on || decide (108 ≤ n) then s
  else
    let s := if 88 ≤ n ∧ n < 92 then s.stackSample n v
      else match v with
        | none => s
        | some t => if n < 88 then s.dieSample n t
                    else if 100 ≤ n ∧ (s.cart (n - 100)).phase = 0 then s
                    else s.setSensor n { s.sensor n with val := t, read := true }
    let s := s.holdDuties
    let hot := match v with
      | some t => !s.sensorBad n && ((decide (n < 88) && decide (115 * 256 ≤ t)) || (decide (88 ≤ n) && decide (n < 92) && s.domain 1 && decide (105 * 256 ≤ t)))
      | none => false
    let s := if hot && s.obj Obj.thermTripped == 0 then (s.ctr Obj.ctrThermTrips).trip n 0 else s
    s.coolWatch

/-! ## The forecaster (R397 to R399) -/

/-- The present readings. -/
def State.readings (s : State) : List Int := (List.range 108).map (fun n => (s.sensor n).val)
/-- The peak of a unit, in 1/256 °C. -/
def State.peakOf (s : State) (u : Nat) : Int := mget (fun _ => 0) s.heat.peak u
/-- The core cycles that isle n's scheduler holds queued for quad q (R398): each queued work record at the command cost recorded for its slot. An
isle that does not run reports none. -/
def State.queuedWork (s : State) (q : Nat) : Nat :=
  let n := q / 8
  if !s.isleOn n then 0
  else ((List.range 16).flatMap (fun p => (s.queue (64 + 16 * n + p)).heads.map (fun w => s.slot p (byteAt w 2)))).foldl
    (fun t u => if bit u.quads q then t + u.cost else t) 0
/-- The light counters that the forecaster reads: bundles by quad, then frames accepted by 32 + pipe (R398, R433). -/
def heatLight (i : Nat) : Nat := if i < 32 then 0x0940 + i * 8 else pipeLight (i - 32) 0
/-- What such a counter has counted since the latest step. -/
def State.sinceStep (s : State) (i : Nat) : Nat := (s.light (heatLight i) + 2 ^ 64 - mget (fun _ => 0) s.heat.seen i) % 2 ^ 64
/-- The forecaster's inputs (R397, R398); an engine is lit on all four lanes or on none. -/
def State.forecastIn (s : State) : ForecastIn :=
  { readings := s.readings
    quads := (List.range 32).map (fun q => { state := s.quadState q, duty := s.dutyOf q, issued := s.sinceStep q, queued := s.queuedWork q })
    frames := (List.range 8).map (fun i => s.sinceStep (32 + i))
    stackBytes := (List.range 4).map (mget (fun _ => 0) s.heat.moved)
    soundBytes := (List.range 4).map (fun k => mget (fun _ => 0) s.heat.moved (4 + k))
    light := (List.range 8).map (fun e => ((s.cart e).drive, if s.lit e then 4 else 0)) }
/-- The outputs of a step: values of the forecaster, whose parameters no object gives (notes/assumptions/11.md). The schedulers report the queued
work at each step, and the counts of the next 250 µs begin. -/
def State.forecastNow (s : State) : State :=
  let k := s.heat.step
  let r := s.forecastIn
  let fc := (List.range 108).foldl (fun m n => mset (fun _ => 0) m n (Config.forecast k r n)) []
  let pk := (List.range 9).foldl (fun m u => mset (fun _ => 0) m u (Config.forecastPeak k r u)) []
  let seen := (List.range 40).foldl (fun m i => mset (fun _ => 0) m i (s.light (heatLight i))) []
  let qd := (List.range 32).foldl (fun m q => mset (fun _ => 0) m q (s.queuedWork q)) []
  { s with heat := { s.heat with step := k + 1, fc := fc, peak := pk, seen := seen, moved := [], queued := qd } }

/-! ## Rotation (R400 to R402) -/

/-- The partner of partition p's Active slot (R400): the lowest-numbered Resident slot with the same bundle digest. -/
def State.partner (s : State) (p : Nat) : Option Nat :=
  let a := s.obj (Obj.partT2Active p)
  if 4 ≤ a ∨ s.slotState p a ≠ 4 ∨ (s.slot p a).tier2 = false then none
  else (List.range 4).find? (fun n => n != a && s.slotState p n == 3 && (s.slot p n).tier2 && (s.slot p n).digest == (s.slot p a).digest)
/-- The peak of the isle of slot n of partition p. -/
def State.slotPeak (s : State) (p n : Nat) : Option (Nat × Int) := (s.slotIsle p n).map (fun i => (i, s.peakOf (1 + i)))
/-- The bounds of R401 and R403 in 1/256 °C. -/
def State.limitT (s : State) : Int := (s.obj Obj.thermForecastLimit : Int) * 256
/-- The release bound. -/
def State.releaseT (s : State) : Int := ((s.obj Obj.thermForecastLimit : Int) - (s.obj Obj.thermHysteresis : Int)) * 256
/-- Exchange the roles (R401): new records name the other slot, whose quads wake (R402). -/
def State.exchange (s : State) (p : Nat) (r : Rot) : State :=
  let other := if r.serving = r.active then r.partner else r.active
  let s := (s.setRot p (some { r with serving := other, on := true, next := s.clk.ticks + msT (s.obj Obj.thermRotationPeriod) })).ctr Obj.ctrThermRotations
  s.each (bitsOf 32 (s.slot p other).quads) (fun s q => if s.domain (2 + q / 8) then s.wakeQuad q else s.wantIsle (q / 8))
/-- Neither slot's isle has a peak above the release bound. -/
def State.rotQuiet (s : State) (p : Nat) (r : Rot) : Bool :=
  [r.active, r.partner].all (fun n => match s.slotPeak p n with | some (_, t) => decide (t ≤ s.releaseT) | none => true)
/-- Rotation at a step for partition p: engagement, and the isle it engages for. -/
def State.rotateStep (s : State) (p : Nat) : State × Option Nat :=
  let r? := match s.rotOf p with
    | some r => some r
    | none => (s.partner p).map (fun n => { active := s.obj (Obj.partT2Active p), partner := n, serving := s.obj (Obj.partT2Active p), on := false,
                                            next := 0, hot := s.clk.ticks })
  match r? with
  | none => (s, none)
  | some r =>
    if r.on then (s.setRot p (some { r with hot := if s.rotQuiet p r then r.hot else s.clk.ticks }), none)
    else match s.slotPeak p r.serving with
      | some (i, t) =>
        if s.objBit Obj.thermRotateMask p && decide (s.limitT ≤ t) then
          ((s.exchange p { r with hot := s.clk.ticks }).setEvBit Obj.thermRotating p true, some i)
        else (s, none)
      | none => (s, none)
/-- An exchange boundary (R401): roles are exchanged, or rotation disengages after a whole quiet period and the serving slot keeps
serving. -/
def State.rotBoundary (s : State) (p : Nat) : State :=
  match s.rotOf p with
  | none => s
  | some r =>
    if !r.on then s
    else
      let s := s.elapseTo r.next
      if r.hot + msT (s.obj Obj.thermRotationPeriod) ≤ s.clk.ticks ∨ s.objBit Obj.thermRotateMask p = false then
        let s := s.setRot p (if r.serving = r.active then none else some { r with on := false })
        s.setEvBit Obj.thermRotating p false
      else s.exchange p r

/-! ## Throttling (R403, R404) -/

/-- The quad of isle n to lower: the highest hot value among duties above 2; ties to the lower number. -/
def State.lowerQuad (s : State) (n : Nat) : Option Nat :=
  ((List.range 8).map (8 * n + ·)).foldl (fun (b : Option Nat) q =>
    if s.duty q ≤ 2 then b else match b with
      | some x => if s.hotValue x < s.hotValue q then some q else b
      | none => some q) none
/-- The quad of isle n to raise: the lowest duty below 16; ties to the lower number. -/
def State.raiseQuad (s : State) (n : Nat) : Option Nat :=
  ((List.range 8).map (8 * n + ·)).foldl (fun (b : Option Nat) q =>
    if 16 ≤ s.duty q then b else match b with
      | some x => if s.duty q < s.duty x then some q else b
      | none => some q) none
/-- One step's change for isle n (R403, R404); `engaged` when a rotation engaged for it in this step. -/
def State.throttle (s : State) (n : Nat) (engaged : Bool) : State :=
  if s.dutyHeld n then s
  else
    let stackHot := decide ((s.obj Obj.thermStackLimit : Int) * 256 ≤ s.peakOf (5 + n))
    if decide (s.limitT ≤ s.peakOf (1 + n)) || stackHot then
      if engaged then s
      else match s.lowerQuad n with
        | some q => (s.setDuty q (max 2 (s.duty q - 2))).ctr Obj.ctrThermThrottles
        | none => s
    else if s.peakOf (1 + n) ≤ s.releaseT then
      match s.raiseQuad n with
      | some q => s.setDuty q (min 16 (s.duty q + 1))
      | none => s
    else s
/-- A step of the forecaster (R397, R401, R403, R404); it needs the control cores, which run on core clock. -/
def State.forecastStep (s : State) : State :=
  if !s.running then s
  else
    let s := s.forecastNow.holdDuties
    let r := (List.range 16).foldl (fun (a : State × List Nat) p =>
      let x := a.1.rotateStep p
      (x.1, match x.2 with | some i => i :: a.2 | none => a.2)) (s, [])
    let s := r.1.each (List.range 4) (fun s n => s.throttle n (r.2.contains n))
    s.setEv Obj.thermHarbourHot (b2n (decide (s.limitT ≤ s.peakOf 0)))

/-! ## Thermal cycles (R408, R409) -/

/-- The band of a reading: below 60 °C, to 70, 80, 90 and 98, and from 98 on. -/
def lifeBand (t : Int) : Nat := ([60, 70, 80, 90, 98] : List Int).countP (fun b => decide (b * 256 ≤ t))
/-- The second's sample of unit u. -/
def State.unitSecond (s : State) (u : Nat) : State :=
  match s.hotSpot u with
  | none => s
  | some t =>
    let v := mget (fun _ => ({} : TUnit)) s.heat.units u
    let y := cycleStep (20 * 256) v.up v.ext v.half t
    let b := lifeBand t
    let v : TUnit := { up := y.1, ext := y.2.1, half := y.2.2, high := some (max (v.high.getD t) t), bands := setAt v.bands b (v.bands.getD b 0 + 1) }
    { s with heat := { s.heat with units := mset (fun _ => ({} : TUnit)) s.heat.units u v } }
/-- The value of therm.cycles. -/
def State.cycles (s : State) : Bytes := (List.range 9).flatMap (fun u => le 4 ((mget (fun _ => ({} : TUnit)) s.heat.units u).half / 2))
/-- The value of therm.life_report. -/
def State.lifeReport (s : State) : Bytes :=
  (List.range 9).flatMap (fun u =>
    let v := mget (fun _ => ({} : TUnit)) s.heat.units u
    le 4 (v.half / 2) ++ le 2 (ofSigned 16 (v.high.getD 0)) ++ zeros 2 ++ v.bands.flatMap (le 4))

/-- A write of therm.trip_clear (R407): the state, and an abort code or 0. -/
def State.tripClearWrite (s : State) (v : Nat) : State × Nat :=
  let t := (s.obj Obj.thermResumeTemp : Int) * 256
  if v = 0 then (s, 0)
  else if s.heat.sensors.any (fun e => decide (e.1 < 92) && !s.sensorBad e.1 && decide (t < e.2.val) && (decide (e.1 < 88) || s.domain 1)) then (s, 0xC140)
  else (s.clearTrip, 0)

/-! ## Control-core restart (R430) -/

/-- A load from a peer's replica starts again from its first step: its bytes are asked for anew. A load from a region has no step of its own in the
model before SLOT_LOAD_COMPLETE, and an arming none before its command. -/
def State.reloadPeer (s : State) (i : Nat) : State :=
  match s.slotLockOf i with
  | some (h, e, some ep) =>
    if (s.slot (i / 4) (i % 4)).load.isSome then
      ({ s with pool := { s.pool with stream := mset (fun _ => ([] : Bytes)) s.pool.stream i [] } } : State).sendSegReq h e ep 0 (s.reg e).len
    else s
  | _ => s
/-- A control-core watchdog expires (R415, R430): the control cores restart; a load or an authentication in progress starts
again; the bulk queues' producers are fenced (DEDUCED, notes/assumptions/41.md). -/
def State.ctrlWd (s : State) : State :=
  let s := (s.ctr Obj.ctrWatchdogExpiries).ctr Obj.ctrCtrlRestarts
  let s := s.each ((List.range 8).map (256 + ·)) State.fenceProducer
  let s := s.each (List.range 64) State.reloadPeer
  let s := s.each (List.range 8) (fun s e => s.when ((s.cart e).phase == 1 || (s.cart e).phase == 2) (·.beginAuth e))
  let s := s.each (List.range 4) (·.traceSync · 3)
  s.faultRec 8 8 1 0 0xFF 0xFF 0 0 0

/-! ## Commands -/

/-- CTRL_WATCHDOG (R415, R430): the control cores run on the core clock. -/
def execCtrlWatchdog (s : State) : Outcome := .next (s.when (s.on && s.pwr.coreClock) State.ctrlWd)

/-- SENSOR_SAMPLE (R395). -/
def execSensorSample (n : Nat) (val : Option Int) (s : State) : Outcome := .next (s.sample n val)
/-- FORECAST_STEP (R397). -/
def execForecastStep (s : State) : Outcome := .next s.forecastStep
/-- ROTATION_EXCHANGE (R401). -/
def execRotationExchange (part : Nat) (s : State) : Outcome := .next (s.rotBoundary part)
/-- THERMAL_CYCLE_SAMPLE (R408). -/
def execThermalCycleSample (s : State) : Outcome := .next (if s.on then s.each (List.range 9) State.unitSecond else s)

end Sys2Proof.Machine
end

