-- ==== Sys2Proof/Machine/QueueOps.lean ====
section
/-! DEFINITION. A packet becomes visible in a queue and leaves it (R214): what the commit of a work record wakes (R141) and what
the pop of a remote record returns (R368). -/
namespace Sys2Proof.Machine

/-- The isle of a work queue. -/
def workIsle (q : Nat) : Nat := (q - 64) / 16

/-- QUEUE_COMMIT (R214); a work record for an isle that is Off brings it up (R141). A packet pushed word by word into a bulk queue goes to the
strait's neighbour as a segment for streaming (the spec gives it no destination: DESIGN CHOICE, notes/assumptions/125.md). -/
def execQueueCommit (q : Nat) (s : State) : Outcome :=
  .next (let u := s.queue q
         let s := s.when (isBulk q && u.unc != 0) (fun s =>
           let v := s.strait (q - 256)
           let data := ((u.words.drop (u.words.length - u.unc)).map (·.bytes)).flatten
           s.setStrait (q - 256) { v with bulk := v.bulk ++ [{ ch := 2, dst := s.obj (Obj.straitPeer (q - 256)) % 64, src := s.obj Obj.poolDevice % 64, hops := 7, ty := 0x21, data := data }] })
         let t := s.commit q
         t.when (isWork q && t.isleWork (workIsle q)) (·.wantIsle (workIsle q)))
/-- QUEUE_POP (R214, R222, R231, R368): the consumer takes the oldest packet; a strait's bulk channel when it can send it. A work
record that came from another device returns its credit. -/
def execQueuePop (q bad fixed : Nat) (s : State) : Outcome :=
  .next (if !(s.netOn && decide (64 ≤ q) && decide (q < 264)) then s
    else if isBulk q then s.bulkPop (q - 256) bad fixed
    else
      let r := s.pop q bad fixed
      match r.1 with
      | some (ws, poison) => (r.2.when (isWork q) (fun s => (s.creditBack (q - 64) ws.flatten).flushWork)).emit (.packet q ws poison)
      | none => r.2)

end Sys2Proof.Machine
end

