-- ==== Sys2Proof/Machine/Start.lean ====
section
/-! DEFINITION. Start steps 1 to 5, kept objects, updates and restarts, and the device time's discipline (R8, R90 to R93, R97 to
R102, R116 to R118, R124 to R126, R467, R469, R477, R478). A start takes no time in the model (notes/assumptions/63.md). -/
namespace Sys2Proof.Machine

/-! ## Kept objects (R101, R477) -/

/-- The kept objects, in ascending index and subindex. -/
def keptObjs : List Nat :=
  [Obj.cuhildCanNode, Obj.cuhildCanDataRate, Obj.startBootCount, Obj.startAutostart, Obj.compatAllowProvisionalPool, Obj.cartAllowUnauth]
/-- First flash address of a kept copy (R98). -/
def keptAt (copy : Nat) : Nat := 0x10000 * (1 + copy)
/-- An entry of a kept copy. -/
def State.keptEntry (s : State) (k : Nat) : Bytes :=
  let ty := ((keyRow k).map (·.ty)).getD 0
  let w := typeWidth ty
  le 2 (k / 256) ++ le 1 (k % 256) ++ le 1 ty ++ le 1 w ++ le w (s.obj k)
/-- A kept copy with a sequence number. -/
def State.keptBytes (s : State) (seq : Nat) : Bytes :=
  let es := keptObjs.flatMap s.keptEntry
  let b := le 4 0x4B455054 ++ le 2 1 ++ le 2 keptObjs.length ++ le 4 seq ++ le 4 es.length ++ es
  b ++ le 4 (crc32c b)
/-- Bytes of the copy that flash holds; none when it does not check. -/
def State.keptCopy (s : State) (copy : Nat) : Option Bytes :=
  let h := s.flashRead (keptAt copy) 16
  let e := leAt h 12 4
  if leAt h 0 4 ≠ 0x4B455054 ∨ leAt h 4 2 ≠ 1 ∨ 65536 < 20 + e then none
  else
    let b := s.flashRead (keptAt copy) (20 + e)
    if leAt b (16 + e) 4 = crc32c (b.take (16 + e)) then some b else none
/-- Take `fuel` entries of a copy. An entry that names no kept object is ignored (R477); so is one whose type code or value length is not the
object's, of which the spec does not speak (DESIGN CHOICE, notes/assumptions/122.md). -/
def State.takeKept : Nat → State → Bytes → State
  | 0, s, _ => s
  | fuel + 1, s, es =>
    if es.length < 5 then s
    else
      let k := leAt es 0 2 * 256 + byteAt es 2
      let w := byteAt es 4
      let s := if keptObjs.contains k && byteAt es 3 == ((keyRow k).map (·.ty)).getD 0 && w == typeWidth (byteAt es 3) then s.setObj k (leAt es 5 w) else s
      State.takeKept fuel s (es.drop (5 + w))
/-- The older copy is rewritten with the next sequence (R101). -/
def State.keptRewrite (s : State) : State :=
  if !s.boot.keptPending then s
  else
    let copy := 1 - s.boot.keptCopy
    let seq := (s.boot.keptSeq + 1) % 2 ^ 32
    let s := (s.flashErase (keptAt copy) 0x10000).flashWrite (keptAt copy) (s.keptBytes seq)
    { s with boot := { s.boot with keptPending := false, keptCopy := copy, keptSeq := seq } }
/-- A kept object has changed (R101): its rewrite is due within 50 ms. -/
def State.keptChanged (s : State) : State :=
  if s.boot.keptPending then s else { s with boot := { s.boot with keptPending := true, keptDeadline := s.clk.ticks + msT 50 } }
/-- Step 4's reading of the kept objects, with the boot count and M2 (R101, R102, R477). Of two copies that check with equal sequence
numbers it takes copy 0 (DESIGN CHOICE, notes/assumptions/122.md). -/
def State.keptRead (s : State) : State :=
  let pick := match s.keptCopy 0, s.keptCopy 1 with
    | some a, some b => if leAt b 8 4 ≤ leAt a 8 4 then some (a, 0) else some (b, 1)
    | some a, none => some (a, 0)
    | none, some b => some (b, 1)
    | none, none => none
  let s := match pick with
    | some (b, c) => { (State.takeKept (leAt b 6 2) s ((b.drop 16).take (leAt b 12 4))) with boot := { s.boot with keptSeq := leAt b 8 4, keptCopy := c } }
    | none => ({ s with boot := { s.boot with keptSeq := 0, keptCopy := 1 } } : State).setEv Obj.startKeptLost 1
  let n := (s.obj Obj.startBootCount + 1) % 2 ^ 32
  let s := s.setObj Obj.startBootCount n
  (s.extend 2 n (sha384 (match pick with | some (b, _) => b | none => zeros 64))).keptChanged

/-! ## Start steps 1 to 5 (R8, R90, R102, R478) -/

/-- The enabled arrays of a core, fused. -/
def Dev.arraysOf (d : Dev) (c : Nat) : Nat := popCount 4 (d.arrayMap / 2 ^ (4 * c))
/-- The checks of R8. -/
def Dev.fusesOk (d : Dev) : Bool :=
  let n := ((List.range 128).map d.arraysOf).foldl (· + ·) 0
  n == (if d.grade = 1 then 512 else 448) && (List.range 128).all (fun c => decide (2 ≤ d.arraysOf c))
/-- The fuse words (R478). -/
def Dev.fuseWords (d : Dev) : Bytes :=
  le 64 d.arrayMap ++ le 1 d.grade ++ le 1 d.stepping ++ le 1 d.productionFused ++ zeros 1 ++ le 2 d.securityFloor ++ zeros 2 ++ le 8 d.serial
/-- The silicon's compatibility record (R110). -/
def Dev.record (d : Dev) : Bytes :=
  le 1 5 ++ le 1 1 ++ le 2 (d.siliconEntries.length / 8) ++ le 1 (d.stepping / 16) ++ le 1 (d.stepping % 16) ++ zeros 10 ++ d.siliconEntries
/-- Step 2: the fuses (R8, R102). -/
def State.step2 (s : State) : State :=
  let s := s.extend 0 0 (sha384 s.dev.romKey)
  let s := s.extend 0 0 (sha384 s.dev.fuseWords)
  if s.dev.fusesOk then s
  else ((s.setEv Obj.idFuseInconsistent 1).setPair 0 2 0 0).restrict
/-- Step 4: kept objects, the harbour image and the stepping pair (R100, R111). What step 3 reads, the layout header and the SFDP tables, is
not judged: the spec gives no effect of a bad one (DESIGN CHOICE, notes/assumptions/121.md). -/
def State.step4 (s : State) : State :=
  let r := s.keptRead.selectBank 1 true
  match r.2 with
  | none =>
    let s := r.1.setPair 1 2 (imageCode s.dev.record) (2 ^ 24)
    ({ s with boot := { s.boot with recovery := true } } : State).restrict
  | some img =>
    let s := { r.1 with boot := { r.1.boot with harbour := img } }
    let rec_ := recTrim (slice img 16 528)
    let s := s.setObj Obj.imgHarbourVersion (recVersion rec_)
    let d := s.decidePair 1 s.dev.record rec_ false
    d.1.when (d.2 == 2) State.restrict
/-- Step 5: Cuhild is served; with start.autostart 1 its end is a start trigger (R90, R93, R133). -/
def State.step5 (s : State) : State :=
  let s := { s with boot := { s.boot with served := true } }
  let s := s.setObj Obj.startPhase (if s.boot.recovery then 0 else 1)
  s.when (s.obj Obj.startAutostart == 1) (·.trigger 1)
/-- The thermal counts over a restart: they accumulate, counted from the first sample after it (R408, R409). -/
def unitsRestart (us : List (Nat × TUnit)) : List (Nat × TUnit) := us.map (fun e => (e.1, { e.2 with up := true, ext := none }))
/-- A start (R90): what `keep` holds beside the flash is, for a restart, the grain clock, while the device time begins at 0 (R126), and the
thermal counts, which end only at Off (R408; notes/assumptions/60.md). -/
def State.start (s : State) (keep : Bool) : State :=
  let t : State := { State.reset with pending := s.pending, out := s.out, free := s.free, dev := s.dev, flash := s.flash }
  let c : Clk := if keep then { Clk.init with ticks := s.clk.ticks } else Clk.init
  let t := { t with clk := c, dbg := if keep then s.dbg else {}, pwr := { Power.init with phase := 1, perst := s.pwr.perst, pcieUp := s.pwr.pcieUp },
                      heat := { units := if keep then unitsRestart s.heat.units else [] } }
  t.step2.step4.step5
/-- Off (R132, R467): every output low, every state lost but the flash. -/
def State.toOff (s : State) : State :=
  { State.reset with pending := s.pending, out := s.out, free := s.free, dev := s.dev, flash := s.flash,
                     pwr := { Power.init with perst := s.pwr.perst, pcieUp := s.pwr.pcieUp } }

/-! ## Updates (R116 to R118) -/

/-- The size of the update objects' banks, and the image kind of an update object's subindex. -/
def State.otherBank (s : State) (kind : Nat) : Nat :=
  match s.boot.passed.find? (fun p => p.1 == kind) with
  | some (_, 0) => 1
  | some (_, 1) => 0
  | _ => 1
/-- The records of the firmware that the authenticated cartridges run (R383). -/
def State.cartRecords (s : State) : List Bytes :=
  ((List.range 8).filter (fun e => s.obj (Obj.cartAuth e) == 1)).map (fun e => recTrim (Config.cartCertRecord (s.cart e).cert))
/-- The records of the bundles in slots in use. -/
def State.bundleRecords (s : State) : List Bytes :=
  ((List.range 64).filter (fun i => s.slotUsed (i / 4) (i % 4))).map (fun i => (s.slot (i / 4) (i % 4)).compat)
/-- The outcome predicted for a new image against the images now running (R116), pair by pair of R111: harbour firmware against the silicon,
the isle firmware that runs and each cartridge's; isle firmware against harbour firmware and the bundles; cartridge firmware against
harbour firmware. -/
def State.predict (s : State) (kind : Nat) (r : Bytes) : Nat :=
  let own := if s.boot.harbour.isEmpty then [] else [s.harbourRecord]
  let against :=
    if kind = 1 then s.dev.record :: (if s.obj Obj.startPhase = 4 then s.isleRecord.toList else []) ++ s.cartRecords
    else if kind = 2 then own ++ s.bundleRecords else own
  against.foldl (fun m y => max m (pairOutcome y r)) 0
/-- A commit of an update object (R116): the abort code of the first check that fails, 0 when it passes. -/
def State.updateCheck (s : State) (kind : Nat) (img : Bytes) : Nat :=
  let h := slice img 0 640
  if byteAt h 4 ≠ kind ∨ leAt h 0 4 ≠ 0x474D4947 then 0xC121
  else if !s.imageSigned img then 0xC120
  else if !s.imageSecure h then 0xC122
  else if !recOk kind (recTrim (slice h 16 528)) then 0xC123
  else if (bankAt kind 0).2 < 640 + leAt h 12 4 then 0xC124
  else if s.boot.prog.isSome then 0xC125
  else 0
/-- A passing commit (R116, R117): measured, staged, and the other bank erased and programmed but for its magic. -/
def State.updateCommit (s : State) (kind : Nat) (img : Bytes) : State :=
  let r := recTrim (slice img 16 528)
  let s := s.extend 7 kind (imageDigest img)
  let s := (s.setObj Obj.updStaged (imageCode r)).setObj Obj.updPredicted (s.predict kind r)
  let s := s.setEv Obj.updStatus 1
  let b := s.otherBank kind
  let a := bankAt kind b
  let gen := (if s.bankMagic kind (1 - b) then leAt (s.bankHead kind (1 - b)) 8 4 else 0) + 1
  let img' := patch (img.take (640 + leAt img 12 4)) 8 (le 4 gen)
  let s := (s.flashErase a.1 a.2).flashWrite (a.1 + 4) (img'.drop 4)
  { s with boot := { s.boot with prog := some { kind := kind, bank := b, image := img' } } }
/-- Programming ends with its read-back (R117). -/
def State.programDone (s : State) (ok : Bool) : State :=
  match s.boot.prog with
  | none => s
  | some p =>
    let s := { s with boot := { s.boot with prog := none } }
    if ok then (s.flashWrite (bankAt p.kind p.bank).1 (p.image.take 4)).setEv Obj.updStatus 2 else s.setEv Obj.updStatus 3
/-- A write of upd.restart (R118): the state, and an abort code or 0. A restart already ordered stands. -/
def State.restartWrite (s : State) (v : Nat) : State × Nat :=
  if s.obj Obj.updStatus = 1 then (s, 0xC126)
  else if v = 0 then (s, 0)
  else ({ s with boot := { s.boot with restartAt := some (s.boot.restartAt.getD (s.clk.ticks + msT 10)) } }, 0)
/-- The restart (R118): a pending kept rewrite is completed first. -/
def State.restartNow (s : State) : State :=
  match s.boot.restartAt with
  | none => s
  | some t => (s.elapseTo t).keptRewrite.start true

/-! ## Device time (R124 to R126, R469) -/

/-- n ÷ d to nearest, ties to even, for signed n. -/
def roundEvenI (n : Int) (d : Nat) : Int := if 0 ≤ n then (roundEven n.toNat d : Nat) else -((roundEven (-n).toNat d : Nat) : Int)
/-- Bound a rate. -/
def rateBound (r : Int) : Int := max (-200000) (min 200000 r)
/-- Set the device time, counted as a step (R126). -/
def State.stepTime (s : State) (t : Int) : State :=
  (({ s with clk := { s.clk with dev := (t % (2 ^ 64 : Int)).toNat, step := 0 } } : State).ctr Obj.ctrTimeSteps)
/-- A PPS_IN edge, `off` ns into its grain tick (R125, R126, R469); the edge that takes an armed time.set is not judged (DEDUCED,
notes/assumptions/61.md). -/
def State.pps (s : State) (off : Nat) : State :=
  let t := s.clk.ticks
  if !s.on || (match s.clk.ppsTick with | some p => decide (t < p + msT 500) | none => false) then s
  else
    let s := { s with clk := { s.clk with ppsTick := some t } }
    match s.clk.armed with
    | some (v, _) => ({ s with clk := { s.clk with armed := none } } : State).stepTime v
    | none =>
      let cap : Int := (s.clk.dev + off % 20 : Nat)
      let e : Int := (cap + 500000000) % 1000000000 - 500000000
      let a := e.natAbs
      let good := if a ≤ 100 then min 8 (s.clk.ppsGood + 1) else 0
      let lock := if 1000 < a then 0 else if good = 8 then 1 else s.obj Obj.timePpsLocked
      let s := { s with clk := { s.clk with ppsGood := good } }
      let s := if s.obj Obj.timeStepLimit < a then ({ s with clk := { s.clk with step := -e } } : State).ctr Obj.ctrTimeSteps
        else
          let f := rateBound (roundEvenI (8 * s.clk.freq - e) 8)
          let r := rateBound (roundEvenI (2 * f - e) 2)
          ({ s with clk := { s.clk with freq := f } } : State).setObj Obj.timeRatePpb (ofSigned 32 r)
      s.setEv Obj.timePpsLocked lock
/-- 1.5 s without an edge (R125). -/
def State.ppsLost (s : State) : State :=
  match s.clk.ppsTick with
  | none => s
  | some t =>
    let s := s.elapseTo (t + msT 1500)
    ({ s with clk := { s.clk with ppsGood := 0, ppsTick := none } } : State).setEv Obj.timePpsLocked 0
/-- A write of time.set (R126): the state, and an abort code or 0. -/
def State.timeSetWrite (s : State) (v : Nat) : State × Nat :=
  ({ s with clk := { s.clk with armed := some (v, s.clk.ticks + msT 1500) } }, 0)
/-- No edge within 1.5 s: the armed value takes effect (R126). -/
def State.timeSetLate (s : State) : State :=
  match s.clk.armed with
  | none => s
  | some (v, t) =>
    let s := s.elapseTo t
    ({ s with clk := { s.clk with armed := none } } : State).stepTime v

/-! ## Commands -/

/-- PORST_N_RELEASE (R90, R91). -/
def execPorstNRelease (conditionsMet : Bool) (s : State) : Outcome :=
  if s.on then .next s
  else if conditionsMet then .next (s.start false)
  else .fault .undefinedRelease
/-- PORST_N_ASSERT (R132, R467). -/
def execPorstNAssert (s : State) : Outcome := .next s.toOff
/-- AON_LOSS (R132, R461). -/
def execAonLoss (s : State) : Outcome := .next s.toOff
/-- KEPT_OBJECT_REWRITE (R101). -/
def execKeptObjectRewrite (s : State) : Outcome := .next s.keptRewrite
/-- UPDATE_PROGRAMMING_DONE (R117). -/
def execUpdateProgrammingDone (readBackOk : Bool) (s : State) : Outcome := .next (s.programDone readBackOk)
/-- RESTART (R118). -/
def execRestart (s : State) : Outcome := .next s.restartNow
/-- PPS_EDGE (R125). -/
def execPpsEdge (offset : Nat) (s : State) : Outcome := .next (s.pps offset)
/-- PPS_LOSS_TIMEOUT (R125). -/
def execPpsLossTimeout (s : State) : Outcome := .next s.ppsLost
/-- TIME_SET_TIMEOUT (R126). -/
def execTimeSetTimeout (s : State) : Outcome := .next s.timeSetLate

end Sys2Proof.Machine
end

