-- ==== Sys2Proof/Machine/Observe.lean ====
section
/-! DEFINITION. Observation (spec/17): counter pages and latches, operator counters, hang dumps, halts and inspection (R431 to
R437, R444 to R450). -/
namespace Sys2Proof.Machine

/-! ## Counter pages (R433 to R435, R437) -/

/-- The highest counter of 0x1610. -/
def ctrHigh : Nat := (highestSub 0x1610).getD 0
/-- A 64-bit word of function fn's counter page but for the latch control (R433). -/
def State.pageWord (s : State) (fn off : Nat) : Nat :=
  if fn ≠ 0 then (if 0x40 ≤ off ∧ off < 0x140 then s.light (0x0A40 + (fn - 1) * 256 + (off - 0x40)) else 0)
  else if off < 0x40 then 0
  else if off < 0x1A40 then s.light off
  else if (off - 0x1A40) / 8 + 1 ≤ ctrHigh then s.obj (0x1610 * 256 + (off - 0x1A40) / 8 + 1)
  else 0
/-- The page, with the word at 0x0000. -/
def State.page (s : State) (fn w0 : Nat) : Bytes := le 8 w0 ++ (List.range 1023).flatMap (fun i => le 8 (s.pageWord fn (8 * (i + 1))))
/-- The latch of function fn. -/
def State.latchOf (s : State) (fn : Nat) : Latch := mget (fun _ => ({} : Latch)) s.obs.latches fn
/-- Replace it. -/
def State.setLatch (s : State) (fn : Nat) (v : Latch) : State :=
  { s with obs := { s.obs with latches := mset (fun _ => ({} : Latch)) s.obs.latches fn v } }
/-- A write of offset 0x0000 (R434): the page is latched at this tick; while a latch completes another waits for it. -/
def State.latch (s : State) (fn : Nat) : State :=
  if !s.on || decide (17 ≤ fn) then s
  else
    let v := s.latchOf fn
    if v.next.isSome then s.setLatch fn { v with again := true } else s.setLatch fn { v with next := some (s.now, s.page fn s.now) }
/-- The latch completes, and one that waited begins. -/
def State.latchDone (s : State) (fn : Nat) : State :=
  let v := s.latchOf fn
  match v.next with
  | none => s
  | some x =>
    let s := s.setLatch fn { last := some x, next := none, again := false }
    s.when v.again (·.latch fn)
/-- A read of a function's counter page (R434). -/
def State.pageRead (s : State) (fn off : Nat) : Nat :=
  let v := s.latchOf fn
  if off = 0 then (if v.next.isSome then 0 else match v.last with | some x => x.1 | none => 0)
  else match v.last with
    | some x => leAt x.2 off 8
    | none => s.pageWord fn off

/-- A partition block (R435). -/
def State.partCounters (s : State) (p : Nat) : Bytes := (List.range 32).flatMap (fun i => le 8 (s.light (0x0A40 + p * 256 + i * 8)))
/-- An operator counter entry (R436). -/
def opEntry : Option OpCtr → Bytes
  | none => zeros 64
  | some e => encFields false [(2, e.oper), (2, e.layer), (1, e.part), (1, 1), (2, 0), (8, e.cmds), (8, e.bundles), (8, e.steps), (8, e.rows), (8, e.wlds),
      (8, e.waits), (8, 0)]
/-- The four tables; `f` keeps an entry or shows it as zeros (R437, R450). -/
def State.opCounters (s : State) (f : OpCtr → Bool) : Bytes :=
  (List.range 4096).flatMap (fun i => opEntry ((mget (fun _ => (none : Option OpCtr)) s.isle.ops i).filter f))

/-! ## The hang watchdog (R444, R445, R447) -/

/-- A wait record of a hang dump (R446, section 2). -/
structure WaitRec where
  unit : HangUnit
  wait : Nat
  obj : Nat
  since : Nat
  detail : Nat
  items : Nat
  deriving DecidableEq, Repr

/-- The unit number that a dump gives (R446): a queue's within its class, as its queue record has it. -/
def hangByte (u : HangUnit) : Nat := if u.kind = 0 then (if u.num < 64 then u.num else (u.num - 64) % 64) else u.num % 256
/-- The ring or mailbox of a unit number: mailbox f is f, flow ring n of function f is 32 + 4 f + n, bundle ring f is 100 + f
(DESIGN CHOICE, notes/assumptions/140.md). -/
def State.ringOf (s : State) (n : Nat) : Ring := if n < 100 then s.ring (n - 32) else s.bRing (n - 100)
/-- The bytes by which a wait record names a ring: the first three of its ring record. -/
def ringName (fn kind n : Nat) : Nat := fn + 256 * kind + 65536 * n
/-- The units that can hold work: those of which the state lists anything (R444). -/
def State.hangUnits (s : State) : List HangUnit :=
  (s.x.egress.map (·.1) ++ s.queues.map (·.1)).map (fun n => (⟨0, n⟩ : HangUnit)) ++
  ((s.cu.mbox.map Prod.fst) ++ (s.flow.rings.map fun (e : Nat × Ring) => 32 + e.1) ++ (s.flow.bring.map fun (e : Nat × Ring) => 100 + e.1)).map (fun n => (⟨1, n⟩ : HangUnit)) ++
  (s.st.map (·.1)).map (fun n => (⟨2, n⟩ : HangUnit)) ++ (List.range 4).map (fun n => (⟨3, n⟩ : HangUnit)) ++ (s.isle.cores.map (·.1)).map (fun n => (⟨4, n⟩ : HangUnit)) ++
  ((List.range 64).filter (fun i => s.m.out2.any (fun r => 4 * r.part + r.slot == i))).map (fun n => (⟨5, n⟩ : HangUnit)) ++ [⟨6, 0⟩]
/-- The pending items of a unit, none when it is not pending (R444). -/
def State.pendingItems (s : State) (u : HangUnit) : Nat :=
  match u.kind with
  | 0 => if u.num < 64 then (s.eq u.num).frames.length else (s.queue u.num).pkts.length
  | 1 => if u.num < 17 then (s.box u.num).reqs.length + (s.box u.num).waiting.length
         else let r := s.ringOf u.num; if r.en && r.sp != r.sc then max 1 ((r.sp + r.wrap - r.sc) % r.wrap) else 0
  | 2 => let v := s.strait u.num; v.replay.length + v.out.length + v.bulk.length
  | 3 => if s.isleOn u.num && s.isleBusy u.num then max 1 (s.sched u.num).waiting.length else 0
  | 4 => b2n ((s.core u.num).run == 1)
  | 5 => s.m.out2.countP (fun r => 4 * r.part + r.slot == u.num)
  | _ => (s.cu.mbox.map (fun b => b.2.reqs.length + b.2.waiting.length)).foldl (· + ·) 0
/-- What a unit's progress shows in (R444): the words popped or frames sent, the pointers that Brolum advances, the acknowledgement and the flits
sent, the last dispatch or completion, the last bundle, the outstanding requests, the requests executed and responses delivered. -/
def State.hangSig (s : State) (u : HangUnit) : List Nat :=
  match u.kind with
  | 0 => if u.num < 64 then [(s.eq u.num).rd] else [(s.queue u.num).rd]
  | 1 => if u.num < 17 then [(s.box u.num).reqC, (s.box u.num).rspP] else [(s.ringOf u.num).sc, (s.ringOf u.num).cp]
  | 2 => let v := s.strait u.num; [v.tx, ((v.replay.map (·.1)).headD 65536)]
  | 3 => [(s.sched u.num).last]
  | 4 => [(s.core u.num).lastAt, (s.core u.num).since]
  | 5 => (s.m.out2.filter (fun r => 4 * r.part + r.slot == u.num)).map (·.seq)
  | _ => s.cu.mbox.flatMap (fun b => [b.2.reqC, b.2.rspP])
/-- Whether a unit has progressed since a watch saw it (R444): a slot as a request of it is freed. -/
def State.hangMoved (s : State) (u : HangUnit) (w : HangWatch) : Bool :=
  if u.kind = 5 then w.sig.any (fun q => !(s.hangSig u).contains q) else w.sig != s.hangSig u
/-- The watch of a pending unit at this tick. -/
def State.watchOf (s : State) (u : HangUnit) : HangWatch :=
  match s.obs.watch.find? (fun w => w.1 == u) with
  | some w => if s.hangMoved u w.2 then { sig := s.hangSig u, since := s.clk.ticks } else { w.2 with sig := s.hangSig u }
  | none => { sig := s.hangSig u, since := s.clk.ticks }
/-- The units that are pending are watched from grain tick to grain tick (R444); a halted unit stands still by intent (R448). -/
def State.watchHangs (s : State) : State :=
  let us := s.hangUnits.filter (fun u => decide (0 < s.pendingItems u))
  { s with obs := { s.obs with watch := us.map (fun u => (u, s.watchOf u)) } }
/-- The tick at which a pending unit without progress hangs. -/
def State.hangAt (s : State) (u : HangUnit) : Nat := (s.watchOf u).since + msT (s.obj Obj.obsHangWindow)

/-- What a pending unit waits on, as wait kind and object waited on (R446, R447; where a unit may wait on several things the first of them, and
the encoding of an object that R446 does not give, are a DESIGN CHOICE, notes/assumptions/140.md). -/
def State.waitOn (s : State) (u : HangUnit) : Nat × Nat :=
  match u.kind with
  | 0 =>
    if u.num < 64 then (if s.xoffed u.num || s.portState u.num != 2 then (11, u.num) else (0, 0))
    else if isWork u.num then
      let n := (u.num - 64) / 16
      if !s.isleOn n then (5, n) else if !(s.sched n).waiting.isEmpty then (10, n) else (0, 0)
    else if isCollector u.num then
      let q := u.num - 192
      let dest := s.obj (Obj.partCollDest (q / 4) (q % 4))
      let kind := dest / 2 ^ 13
      let fn := if kind = 0 then 1 + q / 4 else 0
      let c := if kind = 0 then q % 4 else q
      let r := s.cRing (64 * fn + c)
      let n := 2 ^ (8 + r.size)
      if (s.queue u.num).refill then (6, midStack u.num)
      else if kind ≤ 1 && r.en && decide (n ≤ (r.prod + 2 * n - r.cons) % (2 * n) + 1) then (2, ringName fn 2 c)
      else (0, 0)
    else if isBulk u.num then (if (s.queue u.num).refill then (6, midStack u.num) else if s.straitUp (u.num - 256) then (3, u.num - 256 + 256 * 2) else (0, 0))
    else (0, 0)
  | 1 =>
    if u.num < 17 then (if (s.box u.num).waiting.isEmpty then (0, 0) else (12, ringName u.num 0 0))
    else if (s.ringOf u.num).room then (0, 0)
    else (2, if u.num < 100 then ringName ((u.num - 32) / 4) 1 ((u.num - 32) % 4) else ringName (u.num - 100) 3 0)
  | 2 =>
    let v := s.strait u.num
    match v.out.find? (fun p => !v.canSend p) with | some p => (3, u.num + 256 * p.ch) | none => (0, 0)
  | 3 => if (s.sched u.num).waiting.isEmpty then (0, 0) else (10, u.num)
  | 4 =>
    let k := s.core u.num
    if k.barrier.isSome then (8, 0) else match k.passes with | p :: _ => (9, p.td) | [] => (0, 0)
  | 5 =>
    match s.m.waiting.find? (fun e => match e.2 with | w :: _ => byteAt w 1 == u.num / 4 && byteAt w 2 == u.num % 4 | [] => false) with
    | some e => (1, e.1)
    | none => (0, 0)
  | _ => if s.cu.mbox.any (fun b => !b.2.waiting.isEmpty) then (12, 0) else (0, 0)
/-- The wait records of a dump: the pending units that wait on something known, and those that hang (R444, R446). What the detail field holds the
spec does not say: a free value (notes/assumptions/140.md). -/
def State.waits (s : State) : List WaitRec :=
  (s.hangUnits.filter (fun u => decide (0 < s.pendingItems u) && ((s.waitOn u).1 != 0 || decide (s.hangAt u ≤ s.clk.ticks)))).zipIdx.map (fun x =>
    let o := s.waitOn x.1
    { unit := x.1, wait := o.1, obj := o.2, since := s.now - 20 * (s.clk.ticks - (s.watchOf x.1).since), detail := Config.freeNat (s.free + 16 + x.2) % 2 ^ 64,
      items := s.pendingItems x.1 })

/-! ## The hang dump (R444 to R448) -/

/-- First 8 bytes of a queue's head packet. -/
def Queue.headBytes (u : Queue) : Bytes := slice (((u.head ++ u.mid ++ u.words).map (·.bytes)).headD []) 0 8
/-- The wait kind recorded for a queue. -/
def waitKindOf (ws : List WaitRec) (q : Nat) : Nat := ((ws.find? (fun w => w.unit.kind == 0 && w.unit.num == q)).map (·.wait)).getD 0
/-- A queue record: queue q in the order of queue.depths. -/
def State.dumpQueue (s : State) (ws : List WaitRec) (q : Nat) : Bytes :=
  if q < 64 then
    let e := s.eq q
    encFields false [(1, 0), (1, q), (1, b2n e.high), (1, waitKindOf ws q), (4, e.depth), (4, e.wr), (4, e.wr), (4, e.rd), (4, 0), (2, q), (2, 0), (8, e.last)] ++
      slice ((e.frames.map (·.bytes)).headD []) 0 8 ++ zeros 4
  else
    let u := s.queue q
    let cls := if isWork q then 1 else if isResult q then 2 else if isCollector q then 3 else 4
    encFields false [(1, cls), (1, (q - 64) % 64), (1, b2n u.high), (1, waitKindOf ws q), (4, u.depth), (4, u.wr), (4, u.cm), (4, u.rd), (4, u.mid.length),
      (2, q), (2, u.epoch), (8, u.last)] ++ u.headBytes ++ zeros 4
/-- A wait record. -/
def dumpWait (w : WaitRec) : Bytes :=
  encFields false [(1, w.unit.kind), (1, hangByte w.unit), (1, w.wait), (1, 0), (4, w.obj), (8, w.since), (8, w.detail), (4, w.items), (4, 0)]
/-- Wait records oldest first. -/
def sortWaits (ws : List WaitRec) : List WaitRec :=
  ws.foldl (fun a w => a.takeWhile (fun x => decide (x.since ≤ w.since)) ++ [w] ++ a.dropWhile (fun x => decide (x.since ≤ w.since))) []
/-- A link credit record of strait i and channel c. -/
def State.dumpLink (s : State) (i c : Nat) : Bytes :=
  let v := s.strait i
  encFields false [(1, i), (1, c), (2, v.cred.getD c 0), (2, ([64, 512, 256] : List Nat).getD c 0), (2, v.replay.length), (2, v.resends)] ++ zeros 6
/-- Work credit records. -/
def State.dumpCredits (s : State) : List Bytes :=
  let ks := (s.pool.credits.map (·.1) ++ (s.pool.granted.map (·.1))).eraseDups
  ks.map (fun k => encFields false [(1, k % 64), (1, k / 64), (2, mget (fun _ => 0) s.pool.credits k), (2, mget (fun _ => 0) s.pool.granted k), (2, 0)])
/-- Ring records: mailboxes, flow-table, collector and bundle rings. -/
def State.dumpRings (s : State) : List Bytes :=
  let r := fun (fn kind n en fenced a b c d tag ep : Nat) =>
    encFields false [(1, fn), (1, kind), (1, n), (1, en + 2 * fenced), (4, a), (4, b), (4, c), (4, d), (2, tag), (2, ep)]
  (List.range 17).map (fun f => let b := s.box f; r f 0 0 1 0 b.reqP b.reqC b.rspP b.rspC 0 0) ++
  (List.range 17).flatMap (fun f => ((List.range 4).filter (hasRing f)).map (fun n =>
    let g := s.ring (4 * f + n); r f 1 n (b2n g.en) (b2n g.fenced) g.sp g.sc g.cp g.cc g.tag g.epoch)) ++
  s.flow.crings.map (fun e => r (e.1 / 64) 2 (e.1 % 64) (b2n e.2.en) 0 e.2.prod e.2.cons 0 0 0 0) ++
  (List.range 17).map (fun f => let g := s.bRing f; r f 3 0 (b2n g.en) (b2n g.fenced) g.sp g.sc g.cp g.cc g.tag g.epoch)
/-- A compute core's state as core.state shows it: 0 idle, 1 running, 2 stopped, 3 context saved. -/
def Core.stateCode (k : Core) : Nat := k.run
/-- A compute core's record; the packing of mode with loaded mask is a DESIGN CHOICE (notes/assumptions/67.md). -/
def State.dumpCore (s : State) (c : Nat) : Bytes :=
  let k := s.core c
  encFields false ([(1, k.stateCode), (1, c), (4, k.ident), (4, k.pc), (1, k.port.length), (1, ((k.passes.map (·.chunks)).headD 0)),
    (1, k.mode + 16 * k.loaded), (1, 0), (4, s.memLE (coreStore c + k.pc) 4)] ++ (List.range 8).map (fun t => (1, k.fillOf t)) ++ [(8, k.lastAt)]) ++ zeros 30
/-- A scheduler's or control core's record; what its firmware stands at is a free value. -/
def dumpFw (unit pc word : Nat) (run : Bool) : Bytes :=
  encFields false [(1, b2n run), (1, unit), (4, 0), (4, pc % 2 ^ 32), (4, 0), (4, word % 2 ^ 32)] ++ zeros 46
/-- A slot record. -/
def State.dumpSlot (s : State) (i : Nat) : Bytes :=
  let rs := s.m.out2.filter (fun r => r.part == i / 4 && r.slot == i % 4)
  let old := rs.foldl (fun (m : Option Nat) r => some (match m with | some x => min x r.time | none => r.time)) none
  encFields false [(1, s.slotState (i / 4) (i % 4)), (3, 0), (4, rs.length), (8, old.getD 0)]

/-- The bytes of a dump (R446). -/
def State.dumpBytes (s : State) (u : HangUnit) (waits : List WaitRec) (mask : Nat) : Bytes × State :=
  let ws := (sortWaits waits).take 1024
  -- free values for the firmware's program counters and words
  let fw := (List.range 8).map (fun i => dumpFw (if i < 4 then i else i - 4) (Config.freeNat (s.free + 2 * i)) (Config.freeNat (s.free + 2 * i + 1))
    (if i < 4 then s.isleOn i else s.pwr.coreClock))
  let secs : List (Nat × Nat × List Bytes) := [
    (1, 48, (List.range 264).map (s.dumpQueue ws)),
    (2, 32, ws.map dumpWait),
    (3, 16, (List.range 24).map (fun i => s.dumpLink (i / 3) (i % 3))),
    (4, 8, s.dumpCredits),
    (5, 24, s.dumpRings),
    (6, 64, (List.range 128).map s.dumpCore ++ fw),
    (7, 16, (List.range 64).map s.dumpSlot)]
  let start := 64 + 16 * secs.length
  let dir := (secs.foldl (fun (a : Bytes × Nat) x =>
    (a.1 ++ encFields false [(2, x.1), (2, x.2.2.length), (2, x.2.1), (2, 0), (4, a.2), (4, 0)], a.2 + x.2.1 * x.2.2.length)) ([], start)).1
  let body := secs.flatMap (fun x => x.2.2.flatten)
  let head := encFields false [(4, 0x48444D50), (2, 1), (2, secs.length), (4, start + body.length), (4, waits.length - ws.length), (8, s.now), (8, s.now),
    (4, s.obj Obj.obsHangWindow), (1, u.kind), (1, hangByte u), (1, mask), (1, 0), (4, s.obj Obj.ownerEpoch)] ++ zeros 20
  (head ++ dir ++ body, { s with free := s.free + 16 + waits.length })
/-- The isles that a dump halts (R448): those of the waits of unit kinds 3 and 4. -/
def haltMask (waits : List WaitRec) : Nat :=
  waits.foldl (fun m w => if w.unit.kind = 3 ∧ w.unit.num < 4 then setBit m w.unit.num true
    else if w.unit.kind = 4 ∧ w.unit.num < 128 then setBit m (w.unit.num / 32) true else m) 0
/-- A hang of unit u (R445): one dump, unless one is held. -/
def State.dumpNow (s : State) (u : HangUnit) : State :=
  if s.obj Obj.obsDumpHeld = 1 then s.ctr Obj.ctrHangDumpsSkipped
  else
    let waits := s.waits
    let mask := if s.obj Obj.obsHangHalt = 1 then haltMask waits else 0
    let r := s.dumpBytes u waits mask
    let s := { r.2 with obs := { r.2.obs with dump := r.1, halted := s.obs.halted ||| mask } }
    (s.ctr Obj.ctrHangDumps).setEv Obj.obsDumpHeld 1
/-- A unit that stays pending without progress for obs.hang_window hangs (R444); its watch then waits for its next progress (R445). -/
def State.hang (s : State) (u : HangUnit) : State :=
  let w := s.watchOf u
  if !s.on || s.pendingItems u == 0 || w.fired then s
  else
    let s := s.elapseTo (s.hangAt u)
    let ws := s.obs.watch.filter (fun x => x.1 != u) ++ [(u, { w with fired := true })]
    ({ s with obs := { s.obs with watch := ws } } : State).dumpNow u
/-- A write of obs.dump_clear (R445). -/
def State.dumpClearWrite (s : State) (v : Nat) : State × Nat :=
  if v = 0 then (s, 0) else (({ s with obs := { s.obs with dump := [] } } : State).setEv Obj.obsDumpHeld 0, 0)
/-- A write of obs.hang_release (R448): halted units resume; their watchdogs start afresh. -/
def State.hangReleaseWrite (s : State) (v : Nat) : State × Nat :=
  if v = 0 then (s, 0)
  else
    let s := s.each (bitsOf 4 s.obs.halted) (fun s n =>
      let s := s.setSched n { s.sched n with last := s.clk.ticks }
      s.each (List.range 32) (fun s c => let k := s.core (32 * n + c); if k.run = 1 then s.setCore (32 * n + c) { k with since := s.clk.ticks } else s))
    ({ s with obs := { s.obs with halted := 0 } }, 0)

/-! ## Inspection (R449) -/

/-- Byte o of stack n's harbour reserve, where the state gives it (R39): the flow records (R233), the spill queues' middles (R218) and the trace
extension ring, here from its oldest frame on (R442; DESIGN CHOICE, notes/assumptions/67.md). -/
def State.reserveByte (s : State) (n o : Nat) : Option Byte :=
  if o < 0x5C8000000 then
    let x := recAt n o
    (s.recOf x.1).bind (fun r => r.bytes[x.2]?)
  else if o < 0x5F0000000 then
    if s.obj Obj.traceExtStack = n then (s.obs.ext[(o - 0x5C8000000) / 64]?).map (fun f => f.getD (o % 64) 0) else none
  else
    ((List.range 264).find? (fun q => isSpill q && midStack q == n && decide (midOff q ≤ o) && decide (o < midOff q + 64 * midWords q))).bind
      (fun q => (s.queue q).midByte q (o - midOff q))
/-- Byte a of the structures of R41, where the state gives it: flow table, node cache, trace buffer (oldest frame first: DESIGN CHOICE,
notes/assumptions/67.md) and the committed words of the egress crossing buffer. -/
def State.structByte (s : State) (a : Nat) : Option Byte :=
  match addrRegion a with
  | some (4, _, base, _) => some ((entryBytes (s.entry ((a - base) / 64))).getD ((a - base) % 64) 0)
  | some (5, _, base, _) => s.nodeCacheByte (a - base)
  | some (6, _, base, _) => (s.obs.ring[(a - base) / 64]?).map (fun f => f.getD ((a - base) % 64) 0)
  | some (7, _, base, _) =>
    let q := (a - base) / 0x100000
    let w := (a - base) % 0x100000 / 64
    let e := s.eq q
    let k := (w + 16384 - e.rd % 16384) % 16384
    let ws := e.frames.flatMap (fun f => padTo (64 * f.words) f.bytes)
    if k < e.depth then ws[64 * k + a % 64]? else none
  | _ => none
/-- The region may be inspected (R449): the structures of R41, the stores and shared SRAM of halted isles. -/
def State.inspectOk (s : State) (a n : Nat) : Bool :=
  match addrRegion a with
  | none => false
  | some (k, u, base, size) => decide (a + n ≤ base + size) && (decide (4 ≤ k) || (k == 2 && bit s.obs.halted u) || (k == 3 && bit s.obs.halted (u / 32)))
/-- The bytes of obs.inspect; a byte of the structures that the state does not give (free node cache lines, stale words, FCS bytes) is a
free value. -/
def State.inspectBytes (s : State) : Bytes × State :=
  let a := s.obj Obj.obsInspectAddr
  let n := s.obj Obj.obsInspectLen
  match addrRegion a with
  | some (k, _, _, _) =>
    if k < 4 then (s.memRead a n, s)
    else ((List.range n).map (fun i => (s.structByte (a + i)).getD (BitVec.ofNat 8 (Config.freeNat (s.free + i)))), { s with free := s.free + n })
  | none => ([], s)

/-! ## Commands -/

/-- COUNTER_LATCH (R434). -/
def execCounterLatch (fn : Nat) (s : State) : Outcome := .next (s.latch fn)
/-- COUNTER_LATCH_COMPLETE (R434). -/
def execCounterLatchComplete (fn : Nat) (s : State) : Outcome := .next (s.latchDone fn)
/-- HANG_DETECT (R444, R445). -/
def execHangDetect (kind num : Nat) (s : State) : Outcome := .next (s.hang ⟨kind, num⟩)

end Sys2Proof.Machine
end

