-- ==== Sys2Proof/Machine/Views.lean ====
section
/-! DEFINITION. What a reader sees of the dictionary (R43, R49, R52): values computed from the state, STR values, BLOB values, and
the domain that an object's source lies in. -/
namespace Sys2Proof.Machine

/-- Milliseconds left of the owner's lease, whole ones (notes/assumptions/69.md). -/
def State.leaseLeft (s : State) : Nat := match s.cu.lease with | some t => (t - s.clk.ticks) / msT 1 | none => 0
/-- The value of elec.fault_sources (R473). -/
def State.faultSources (s : State) : Nat :=
  packBits 1 ([s.obj Obj.startRestricted == 1, s.obj Obj.thermTripped == 1, s.obj Obj.faultIslesFenced != 0, s.obj Obj.faultRecovering == 1,
    s.obj Obj.ownerAgent == 0xFF, s.obj Obj.compatState == 1, s.obj Obj.elecRailFault != 0,
    (List.range 8).any (fun e => decide (2 ≤ s.obj (Obj.cartLifeStage e)))].map b2n)
/-- FAULT_N is low (R473). -/
def State.faultPin (s : State) : Bool := s.faultSources &&& s.obj Obj.elecFaultMask != 0
/-- Bytes of the node cache in use (R246): a section loaded by several partitions is held once. -/
def State.cacheUsed (s : State) : Nat := 16 * (s.t1.ens.map (fun e => e.nodes.length)).foldl (· + ·) 0
/-- The value of part.t1_levels. -/
def State.t1Levels (s : State) (p : Nat) : Nat := match s.tier1Named p with | some x => x.2.levels | none => 0
/-- The objects of agent n (0x1110 + n). -/
def State.agentView (s : State) (n sub : Nat) : Nat :=
  match s.agent n, sub with
  | some _, 1 => 1
  | some a, 2 => a.ep.transport
  | some a, 3 => a.ep.code
  | some a, 4 => a.ep.scope
  | some a, 5 => a.heard
  | some a, 6 => a.mask
  | none, 4 => 0xFF
  | _, _ => 0

/-- Objects whose value is computed, by key. -/
def views : List (Nat × (State → Nat)) := [
  (Obj.idGrade, fun s => s.dev.grade), (Obj.idStepping, fun s => s.dev.stepping), (Obj.idSerial, fun s => s.dev.serial),
  (Obj.idArraysEnabled, fun s => if s.dev.grade = 1 then 512 else 448), (Obj.idCores, fun _ => 128),
  (Obj.idProductionFused, fun s => s.dev.productionFused), (Obj.cuhildMac, fun s => s.dev.mac),
  (Obj.ownerLeaseRemaining, State.leaseLeft), (Obj.imgSecurityFloor, fun s => s.dev.securityFloor),
  (Obj.resQuadState, State.quadStates), (Obj.timeNow, State.now), (Obj.elecFaultSources, State.faultSources),
  (Obj.thermModelVersion, fun s => s.dev.thermModel), (Obj.flowSalt, fun s => s.dev.salt), (Obj.flowCount, State.flowCount),
  (Obj.flowPinnedCount, State.pinnedCount), (Obj.flowNowStamp, State.stamp), (Obj.flowTagsLive, State.tagsLive),
  (Obj.meterGreen, fun s => (s.meter (s.obj Obj.meterSelect)).green), (Obj.meterYellowCount, fun s => (s.meter (s.obj Obj.meterSelect)).yellowN),
  (Obj.meterRed, fun s => (s.meter (s.obj Obj.meterSelect)).red), (Obj.t1CacheUsed, State.cacheUsed),
  (Obj.t1QueueDepth, fun s => s.t1Queue.length), (Obj.modelOutstanding, fun s => s.m.out2.length)]

/-- Objects of a partition's block whose value is computed, by offset × 256 + subindex. -/
def partViews : List (Nat × (State → Nat → Nat)) := [
  (0x08002, State.partCount), (0x18004, State.t1Levels),
  (0x21006, fun s p => (s.slot p 0).residency), (0x21106, fun s p => (s.slot p 1).residency),
  (0x21206, fun s p => (s.slot p 2).residency), (0x21306, fun s p => (s.slot p 3).residency),
  (0x21009, fun s p => s.m.out2.countP (fun r => r.part == p && r.slot == 0)), (0x21109, fun s p => s.m.out2.countP (fun r => r.part == p && r.slot == 1)),
  (0x21209, fun s p => s.m.out2.countP (fun r => r.part == p && r.slot == 2)), (0x21309, fun s p => s.m.out2.countP (fun r => r.part == p && r.slot == 3)),
  (0x2100A, fun s p => (s.opFaults p 0).length), (0x2110A, fun s p => (s.opFaults p 1).length),
  (0x2120A, fun s p => (s.opFaults p 2).length), (0x2130A, fun s p => (s.opFaults p 3).length)]

/-- The value of a scalar object as a reader sees it (R43, R52). -/
def State.view (s : State) (idx sub : Nat) : Nat :=
  if sub = 0 then (highestSub idx).getD 0
  else if 0x1110 ≤ idx ∧ idx < 0x1118 then s.agentView (idx - 0x1110) sub
  else
    let k := idx * 256 + sub
    if 0x8000 ≤ idx then
      (match partViews.lookup ((idx - 0x8000) % 0x400 * 256 + sub) with
       | some f => f s ((idx - 0x8000) / 0x400)
       | none => s.obj k)
    else (match views.lookup k with | some f => f s | none => s.obj k)

/-- STR values: id.vendor, id.family, id.device (spec/00). -/
def strValue (sub : Nat) : Bytes :=
  match sub with
  | 1 => [71, 110, 111, 109, 101, 116, 32, 73, 110, 116, 101, 114, 99, 111, 110, 110, 101, 99, 116]
  | 2 => [83, 112, 101, 116, 104, 97, 108]
  | 3 => [66, 114, 111, 108, 117, 109]
  | _ => []

/-- A statistics entry (R333). -/
def qstatBytes : Option QStat → Bytes
  | none => zeros 32
  | some e => encFields false [(2, e.oper), (2, e.layer), (1, 1), (3, 0), (4, e.max), (4, e.esc), (8, e.elems), (8, e.clipped)]
/-- The values of arr.core_modes, arr.loaded and core.state. -/
def State.coreModes (s : State) : Bytes :=
  (List.range 128).flatMap (fun c => le 1 (s.arrEn c + 16 * packBits 1 ((List.range 4).map (fun m => b2n (modeOk m (s.arrEn c))))))
/-- The value of arr.loaded. -/
def State.loadedMap (s : State) : Bytes :=
  (List.range 64).flatMap (fun i => le 1 ((s.core (2 * i)).loaded % 16 + (s.core (2 * i + 1)).loaded % 16 * 16))
/-- The value of core.state. -/
def State.coreStates (s : State) : Bytes := (List.range 128).flatMap (fun c => le 1 (if s.domain (2 + c / 32) then (s.core c).stateCode else 4))

/-- The report of R108 for agent n, signed. -/
def State.report (s : State) (n : Nat) : Bytes :=
  let flags := packBits 1 [s.obj Obj.startRestricted, b2n (s.obj Obj.compatState == 1), s.obj Obj.startFallback, s.obj Obj.measLogOverflow,
    s.obj Obj.startPlainCrossing]
  let nonce := ((s.agent n).map (·.nonce)).getD []
  let words := List.replicate (8 - nonce.length) 0 ++ nonce
  let b := encFields false ([(2, 1), (2, 536), (4, 0), (8, s.dev.serial), (1, s.dev.stepping), (1, s.dev.grade), (1, flags), (1, n),
    (4, s.obj Obj.startBootCount), (8, s.now), (4, s.obj Obj.measCount), (4, 0)] ++ words.map (fun w => (2, w))) ++
    (List.range 8).flatMap (fun i => s.mreg i)
  b ++ padTo 96 (Config.attestSign s.dev.secret (sha384 b))

/-- BLOB values other than those of the partition blocks, by key. -/
def blobs : List (Nat × (State → Bytes)) := [
  (Obj.idArrayMap, fun s => le 64 s.dev.arrayMap), (Obj.measLog, fun s => s.meas.log.flatten),
  (Obj.attestPublicKey, fun s => s.dev.publicKey), (Obj.attestKeyCert, fun s => s.dev.keyCert),
  (Obj.imgHarbourRecord, State.harbourRecord), (Obj.imgIsleRecord, fun s => s.isleRecord.getD []),
  (Obj.thrEffective, fun s => (List.range 32).flatMap (fun q => le 1 (s.dutyOf q))),
  (Obj.thermSensors, fun s => s.readings.flatMap (fun v => le 2 (ofSigned 16 v))), (Obj.thermSensorFailed, fun s => le 14 s.heat.failed),
  (Obj.thermForecast, fun s => (List.range 108).flatMap (fun n => le 2 (ofSigned 16 (mget (fun _ => (0 : Int)) s.heat.fc n)))),
  (Obj.thermForecastPeak, fun s => (List.range 9).flatMap (fun u => le 2 (ofSigned 16 (s.peakOf u)))),
  (Obj.thermDuty, fun s => (List.range 32).flatMap (fun q => le 1 (s.duty q))), (Obj.thermCycles, State.cycles),
  (Obj.thermLifeReport, State.lifeReport), (Obj.faultLog, fun s => s.fault.log.flatten),
  (Obj.faultIsleEpochs, fun s => (List.range 4).flatMap (fun n => le 4 (mget (fun _ => 0) s.fault.isleEpoch n))),
  (Obj.obsSnapshot, fun s => s.page 0 s.now), (Obj.obsOpCounters, fun s => s.opCounters (fun _ => true)),
  (Obj.traceBuffer, fun s => s.obs.ring.flatten), (Obj.traceExt, fun s => s.obs.ext.flatten), (Obj.obsDump, fun s => s.obs.dump),
  (Obj.shadowMismatchLog, fun s => s.flow.shadowLog.flatten), (Obj.queueDepths, State.queueDepths), (Obj.coreState, State.coreStates),
  (Obj.isleFaultLog, fun s => s.isle.log.flatten), (Obj.arrCoreModes, State.coreModes), (Obj.arrLoaded, State.loadedMap),
  (Obj.arrMismatchCounts, fun s => (List.range 512).flatMap (fun a => le 2 (mget (fun _ => 0) s.isle.mism a))),
  (Obj.qLattice, fun _ => [0, 4, 9, 15, 23, 33, 46, 63]),
  (Obj.qStats, fun s => (List.range 4096).flatMap (fun i => qstatBytes (mget (fun _ => (none : Option QStat)) s.isle.stats i))),
  (Obj.hbmRegions, State.regionTable), (Obj.poolRegistry, fun s => (List.range 256).flatMap (fun i => regBytes (s.reg i))),
  (Obj.poolRemapTable, State.remapTable), (Obj.poolPeerCompat, State.peerCompat), (Obj.poolRoutes, State.routes),
  (Obj.optLaneAlarms, State.laneAlarms), (Obj.optLanePower, State.lanePower)]

/-- The value of a BLOB object for agent n at BLOB-OPEN (R65), with the state after the free values it takes. -/
def State.blobValue (s : State) (n idx sub : Nat) : Bytes × State :=
  let k := idx * 256 + sub
  if 0x8000 ≤ idx then
    let p := (idx - 0x8000) / 0x400
    let o := (idx - 0x8000) % 0x400
    if o = 0x380 then (if sub = 1 then s.partCounters p else s.opCounters (fun e => e.part == p), s)
    else if sub = 5 then (padTo 48 (s.slot p (o - 0x210)).digest, s)
    else ((s.slot p (o - 0x210)).rungs.flatMap (le 4), s)
  else if idx = 0x1210 ∧ 1 ≤ sub ∧ sub ≤ 8 then (s.mreg (sub - 1), s)
  else if k = Obj.attestReport then (s.report n, s)
  else if k = Obj.obsInspect then s.inspectBytes
  else (match blobs.lookup k with | some f => f s | none => [], s)

/-- Objects whose source lies in PD-NET or PD-HBM, with the domain's number; 8 stands for the four isles together, as one of them powered
gives its part of the value (R52, R127; which ones: DEDUCED, notes/assumptions/70.md). -/
def sources : List (Nat × Nat) := [
  (Obj.portUpHost, 0), (Obj.portUpLine, 0), (Obj.portMismatch, 0), (Obj.flowCount, 0), (Obj.flowPinnedCount, 0), (Obj.flowTagsLive, 0),
  (Obj.shadowMismatchLog, 0), (Obj.queueXoffOut, 0), (Obj.queueWorkHighState, 0), (Obj.queueDepths, 0), (Obj.t1CacheUsed, 0),
  (Obj.t1QueueDepth, 0), (Obj.traceBuffer, 0), (Obj.traceState, 0), (Obj.traceExt, 1), (Obj.elecXoffIn, 0), (Obj.straitUp, 0),
  (Obj.modelOutstanding, 0), (Obj.poolRoutes, 0), (Obj.arrLoaded, 8), (Obj.qStats, 8)]
/-- The domain that the source of an RO object lies in, if it is a switched one. -/
def sourceOf (idx sub : Nat) : Option Nat :=
  if 0x8000 ≤ idx then
    let o := (idx - 0x8000) % 0x400
    (if (o = 0x080 ∧ sub = 2) ∨ (o = 0x180 ∧ sub = 4) ∨ (0x210 ≤ o ∧ o < 0x214 ∧ sub = 9) then some 0 else none)
  else if 0x2010 ≤ idx ∧ idx < 0x2050 then (if sub = 1 then some 0 else none)
  else if 0x4010 ≤ idx ∧ idx < 0x4018 then (if sub ≤ 2 then some 0 else none)
  else sources.lookup (idx * 256 + sub)
/-- The source of an object is powered, or AON keeps it (R52). -/
def State.sourceOn (s : State) (idx sub : Nat) : Bool :=
  sub == 0 || (match sourceOf idx sub with
    | some d => if d = 8 then (List.range 4).any (fun n => s.domain (2 + n)) else s.domain d
    | none => true)

/-- The objects that spec/03 marks open to all (R49, R109); subindex 0 is not among them. -/
def openToAll (idx sub : Nat) : Bool :=
  match idx with
  | 0x1200 => sub == 4 || sub == 5 || sub == 6 || sub == 8
  | 0x1210 => decide (1 ≤ sub) && decide (sub ≤ 11)
  | 0x1220 => decide (1 ≤ sub) && decide (sub ≤ 4)
  | 0x1230 => (decide (1 ≤ sub) && decide (sub ≤ 4)) || sub == 6 || sub == 7
  | 0x1240 => decide (1 ≤ sub) && decide (sub ≤ 3)
  | _ => false
/-- The object lies within a scope (R49). -/
def inScope (scope idx sub : Nat) : Bool :=
  scope == 0xFF || idx / 0x100 == 0x10 || openToAll idx sub || (decide (0x8000 ≤ idx) && (idx - 0x8000) / 0x400 == scope)
/-- An update object (R51; spec/03). -/
def isUpdate (idx sub : Nat) : Bool := idx == 0x1250 && (sub == 1 || sub == 2 || sub == 3 || sub == 7)

end Sys2Proof.Machine
end

