-- ==== Sys2Proof/Machine/Writes.lean ====
section
/-! DEFINITION. What a WRITE of an object does beyond the shared checks of R476: each writable object's own rule, with its abort codes
(R63), and the commit of an update object (R116). Where no rule gives more, the value is kept (R52, R57). -/
namespace Sys2Proof.Machine

/-- A write that only keeps the value. -/
def State.keep (k : Nat) (s : State) (v : Nat) : State × Nat := (s.setEv k v, 0)
/-- A write kept unless a condition on the new state of the objects fails; then the code given. -/
def State.keepIf (k code : Nat) (ok : State → Bool) (s : State) (v : Nat) : State × Nat :=
  let t := s.setEv k v
  if ok t then (t, 0) else (s, code)
/-- A write of a kept object (R101). -/
def State.keepFlash (k : Nat) (s : State) (v : Nat) : State × Nat := (if s.obj k = v then s else (s.setEv k v).keptChanged, 0)
/-- cart.allow_unauth (R384) and cart.idle_dark: the lights follow. -/
def State.writeLights (k : Nat) (flash : Bool) (s : State) (v : Nat) : State × Nat :=
  ((if flash then (s.keepFlash k v).1 else s.setEv k v).settleLights, 0)
/-- port.follow (R179): host ports whose line port is not Up turn off, or those it had turned off train again. -/
def State.followWrite (s : State) (v : Nat) : State × Nat :=
  let s := s.setEv Obj.portFollow v
  if s.netOn then
    (s.each (List.range 32) (fun s k =>
      if v = 1 then s.follow k
      else if (s.port k).followed then (s.setPort k { s.port k with followed := false }).beginTrain k else s), 0)
  else (s, 0)
/-- res.free_floor and part.residency_floor (R140, R141). -/
def State.floorWrite (k : Nat) (s : State) (v : Nat) : State × Nat := ((s.setEv k v).floorWake, 0)
/-- q.stats_clear (R334). -/
def State.statsClearWrite (s : State) (v : Nat) : State × Nat := (if v = 0 then s else { s with isle := { s.isle with stats := [] } }, 0)
/-- Any strait is Up. -/
def State.anyStrait (s : State) : Bool := s.obj Obj.straitUp != 0
/-- pool.id and pool.device (0xC400): registry entries of this device carry its number (R373). -/
def State.poolWrite (k : Nat) (s : State) (v : Nat) : State × Nat :=
  if s.anyStrait then (s, 0xC400)
  else
    let own := s.ownEntries
    let s := s.setEv k v
    (if k = Obj.poolDevice then s.each own (fun s e => s.setReg e.1 { e.2 with holder := v }) else s, 0)
/-- pool.serve_mask (R373, R376): the served slots are listed or leave the registry. -/
def State.serveWrite (s : State) (v : Nat) : State × Nat :=
  ((s.setEv Obj.poolServeMask v).each (List.range 64) (fun s i => s.relist (i / 4) (i % 4)), 0)
/-- hbm.apply (R349). -/
def State.hbmWrite (s : State) (v : Nat) : State × Nat := if v = 0 then (s, 0) else s.hbmApply
/-- A shadow base or count is written only while shadow.mode is 0 (R210). -/
def State.shadowWrite (k : Nat) (s : State) (v : Nat) : State × Nat := if s.obj Obj.shadowMode ≠ 0 then (s, 0xC230) else (s.setEv k v, 0)
/-- Every egress and work queue is judged against its watermarks (R224). -/
def State.remark (s : State) : State := (s.each (List.range 64) State.markEq).each ((List.range 64).map (64 + ·)) State.markWork
/-- A watermark is kept while the low one stays below its high one (R225, 0xC240); the queues are judged by the new one (R224, R225). -/
def State.marksWrite (lo hi k code : Nat) (s : State) (v : Nat) : State × Nat :=
  let r := s.keepIf k code (fun t => decide (t.obj lo < t.obj hi)) v
  (if r.2 = 0 then r.1.remark else r.1, r.2)
/-- A verdict word's action is 0 to 5 (R163, 0xC210). -/
def State.verdictWrite (k : Nat) (s : State) (v : Nat) : State × Nat := if 6 ≤ bits v 31 29 then (s, 0xC210) else (s.setEv k v, 0)
/-- part.collc_dest: bits [12:5] are 0 by its range (R48), kinds are 0 to 3 (0xC802); the range is judged first (R476). -/
def State.destWrite (k : Nat) (s : State) (v : Nat) : State × Nat :=
  if bits v 12 5 ≠ 0 then (s, 0xC006) else if 4 ≤ bits v 15 13 then (s, 0xC802) else (s.setEv k v, 0)

/-- Objects outside the partition blocks whose write does more than keep the value, by key. -/
def writers : List (Nat × (State → Nat → State × Nat)) := [
  (Obj.cuhildCanNode, State.keepFlash Obj.cuhildCanNode), (Obj.cuhildCanDataRate, State.keepFlash Obj.cuhildCanDataRate),
  (Obj.cuhildInbandEthertype, State.keepIf Obj.cuhildInbandEthertype 0xC006 (fun t => t.obj Obj.cuhildInbandEthertype != t.obj Obj.tagEthertype)),
  (Obj.startAutostart, State.keepFlash Obj.startAutostart), (Obj.startInference, State.inferenceWrite),
  (Obj.compatAllowProvisionalPool, State.keepFlash Obj.compatAllowProvisionalPool), (Obj.updRestart, State.restartWrite),
  (Obj.powerCoreHold, State.coreHoldWrite), (Obj.powerBerthKeep, fun s v => s.berthKeepWrite (v % 64)),
  (Obj.resFreeFloor, State.floorWrite Obj.resFreeFloor), (Obj.timeSet, State.timeSetWrite),
  (Obj.thermTripClear, State.tripClearWrite), (Obj.faultIsleRestore, State.isleRestoreWrite),
  (Obj.traceEnable, State.traceEnableWrite), (Obj.traceExtStack, fun s v => s.traceExtWrite Obj.traceExtStack v),
  (Obj.traceExtSize, fun s v => s.traceExtWrite Obj.traceExtSize v), (Obj.obsDumpClear, State.dumpClearWrite),
  (Obj.obsHangRelease, State.hangReleaseWrite),
  (Obj.portHostMode 0, fun s v => s.portModeWrite false 0 v), (Obj.portHostMode 1, fun s v => s.portModeWrite false 1 v),
  (Obj.portHostMode 2, fun s v => s.portModeWrite false 2 v), (Obj.portHostMode 3, fun s v => s.portModeWrite false 3 v),
  (Obj.portLineMode 0, fun s v => s.portModeWrite true 0 v), (Obj.portLineMode 1, fun s v => s.portModeWrite true 1 v),
  (Obj.portLineMode 2, fun s v => s.portModeWrite true 2 v), (Obj.portLineMode 3, fun s v => s.portModeWrite true 3 v),
  (Obj.portHostEnable, fun s v => s.portEnableWrite false v), (Obj.portLineEnable, fun s v => s.portEnableWrite true v),
  (Obj.portFollow, State.followWrite),
  (Obj.parseVxlanPort, State.keepIf Obj.parseVxlanPort 0xC006 (fun t => t.obj Obj.parseVxlanPort != t.obj Obj.parseGenevePort)),
  (Obj.parseGenevePort, State.keepIf Obj.parseGenevePort 0xC006 (fun t => t.obj Obj.parseVxlanPort != t.obj Obj.parseGenevePort)),
  (Obj.tagEthertype, State.keepIf Obj.tagEthertype 0xC006 (fun t => t.obj Obj.cuhildInbandEthertype != t.obj Obj.tagEthertype)),
  (Obj.meterYellow, fun s v => (s.setEv Obj.meterYellow (v &&& 0xFFE00), 0)), (Obj.meterApply, State.meterApplyWrite),
  (Obj.shadowTrieBase, State.shadowWrite Obj.shadowTrieBase), (Obj.shadowPinnedBase, State.shadowWrite Obj.shadowPinnedBase),
  (Obj.shadowPinnedCount, State.shadowWrite Obj.shadowPinnedCount),
  (Obj.eqHostHigh, State.marksWrite Obj.eqHostLow Obj.eqHostHigh Obj.eqHostHigh 0xC240),
  (Obj.eqHostLow, State.marksWrite Obj.eqHostLow Obj.eqHostHigh Obj.eqHostLow 0xC240),
  (Obj.eqLineHigh, State.marksWrite Obj.eqLineLow Obj.eqLineHigh Obj.eqLineHigh 0xC240),
  (Obj.eqLineLow, State.marksWrite Obj.eqLineLow Obj.eqLineHigh Obj.eqLineLow 0xC240),
  (Obj.collEthertype, State.keepIf Obj.collEthertype 0xC006 (fun t => t.obj Obj.collEthertype != t.obj Obj.cuhildInbandEthertype)),
  (Obj.qStatsClear, State.statsClearWrite), (Obj.hbmApply, State.hbmWrite),
  (Obj.poolId, State.poolWrite Obj.poolId), (Obj.poolDevice, State.poolWrite Obj.poolDevice), (Obj.straitEnable, State.straitWrite),
  (Obj.poolServeMask, State.serveWrite), (Obj.poolOfferRegion, State.offerRegion), (Obj.poolWithdrawOffer, State.withdrawOffer),
  (Obj.poolFetchApply, State.fetchApply), (Obj.cartAllowUnauth, State.writeLights Obj.cartAllowUnauth true),
  (Obj.cartIdleDark, State.writeLights Obj.cartIdleDark false),
  (Obj.optRxLowAlarm, fun s v => s.optThresholdWrite Obj.optRxLowAlarm v), (Obj.optRxHighAlarm, fun s v => s.optThresholdWrite Obj.optRxHighAlarm v),
  (Obj.optTxLowAlarm, fun s v => s.optThresholdWrite Obj.optTxLowAlarm v), (Obj.optTxHighAlarm, fun s v => s.optThresholdWrite Obj.optTxHighAlarm v)]

/-- part.vlan_lo and part.vlan_hi (R151, 0xC800). -/
def State.vlanWrite (k : Nat → Nat) (s : State) (p v : Nat) : State × Nat :=
  s.keepIf (k p) 0xC800 (fun t => decide (t.obj (Obj.partVlanLo p) ≤ t.obj (Obj.partVlanHi p))) v
/-- part.t1_cache_kib (0xC803). -/
def State.shareWrite (s : State) (p v : Nat) : State × Nat :=
  s.keepIf (Obj.partT1CacheKib p) 0xC803
    (fun t => decide (((List.range 16).map (fun q => t.obj (Obj.partT1CacheKib q))).foldl (· + ·) 0 ≤ 4096)) v
/-- Keep the value of an object written when its rule accepts the write. -/
def keepAfter (k : Nat) (r : State × Nat) (v : Nat) : State × Nat := if r.2 = 0 then (r.1.setObj k v, 0) else r

/-- Objects of a partition's block whose write does more than keep the value, by offset × 256 + subindex. -/
def partWriters : List (Nat × (State → Nat → Nat → State × Nat)) := [
  (0x00003, State.vlanWrite Obj.partVlanLo), (0x00004, State.vlanWrite Obj.partVlanHi),
  (0x00005, fun s p v => s.verdictWrite (Obj.partDefaultVerdict p) v), (0x00006, fun s p v => s.verdictWrite (Obj.partNonipVerdict p) v),
  (0x00007, fun s p v => s.verdictWrite (Obj.partUnparsedVerdict p) v),
  (0x10001, fun s p v => s.destWrite (Obj.partCollDest p 0) v), (0x10002, fun s p v => s.destWrite (Obj.partCollDest p 1) v),
  (0x10003, fun s p v => s.destWrite (Obj.partCollDest p 2) v), (0x10004, fun s p v => s.destWrite (Obj.partCollDest p 3) v),
  (0x10006, fun s p v => s.marksWrite (Obj.partWorkLow p) (Obj.partWorkHigh p) (Obj.partWorkHigh p) 0xC801 v),
  (0x10007, fun s p v => s.marksWrite (Obj.partWorkLow p) (Obj.partWorkHigh p) (Obj.partWorkLow p) 0xC801 v),
  (0x18001, State.t1SlotWrite), (0x18003, State.shareWrite),
  (0x20003, fun s p v => keepAfter (Obj.partSwap p) (s.swapWrite p v) (v % 0x20000)),
  (0x21001, fun s p v => keepAfter (Obj.partSlotLoad p 0) (s.slotLoadWrite p 0 v) v),
  (0x21101, fun s p v => keepAfter (Obj.partSlotLoad p 1) (s.slotLoadWrite p 1 v) v),
  (0x21201, fun s p v => keepAfter (Obj.partSlotLoad p 2) (s.slotLoadWrite p 2 v) v),
  (0x21301, fun s p v => keepAfter (Obj.partSlotLoad p 3) (s.slotLoadWrite p 3 v) v),
  (0x21008, fun s p v => keepAfter (Obj.partSlotUnload p 0) (s.slotUnloadWrite p 0 v) v),
  (0x21108, fun s p v => keepAfter (Obj.partSlotUnload p 1) (s.slotUnloadWrite p 1 v) v),
  (0x21208, fun s p v => keepAfter (Obj.partSlotUnload p 2) (s.slotUnloadWrite p 2 v) v),
  (0x21308, fun s p v => keepAfter (Obj.partSlotUnload p 3) (s.slotUnloadWrite p 3 v) v),
  (0x2C004, State.recoverResumeWrite), (0x30001, State.partQuadsWrite), (0x30002, fun s p v => s.floorWrite (Obj.partResidencyFloor p) v)]

/-- The effect of a WRITE that has passed the shared checks: the state after it, and the abort code of the object's own rule or 0. -/
def State.writeObj (s : State) (idx sub v : Nat) : State × Nat :=
  let k := idx * 256 + sub
  if 0x8000 ≤ idx then
    (match partWriters.lookup ((idx - 0x8000) % 0x400 * 256 + sub) with
     | some f => f s ((idx - 0x8000) / 0x400) v
     | none => s.keep k v)
  else if 0x4110 ≤ idx ∧ idx < 0x4118 ∧ sub = 0x0B then s.cartDriveWrite (idx - 0x4110) v
  else if 0x4110 ≤ idx ∧ idx < 0x4118 ∧ sub = 0x0C then s.cartReleaseWrite (idx - 0x4110) v
  else (match writers.lookup k with | some f => f s v | none => s.keep k v)

/-- The commit of a BLOB object (R64, R116): the state after it, and the abort code of the object's own rule or 0. Only the update
objects are writable BLOBs. -/
def State.commitBlob (s : State) (sub : Nat) (img : Bytes) : State × Nat :=
  let a := s.updateCheck sub img
  if a = 0 then (s.updateCommit sub img, 0) else (s.ctr Obj.ctrUpdateRefused, a)

end Sys2Proof.Machine
end

