-- ==== Sys2Proof/Machine/Cuhild.lean ====
section
/-! DEFINITION. The dictionary sequencer (R44 to R66, R476): requests as messages, the checks in their order, the operations of R56,
kept responses (R60), limits (R61), and the election of an owner (R78 to R87). -/
namespace Sys2Proof

/-- The operation code of a request (R56). -/
def Body.op : Body → Nat
  | .read _ _ => 0x01 | .write _ _ _ _ => 0x02 | .readMulti _ => 0x03 | .blobOpen _ _ _ _ => 0x10 | .blobSeg _ _ _ _ => 0x11
  | .blobClose _ _ _ => 0x12 | .claim _ _ => 0x20 | .giveUp _ => 0x21 | .heartbeat => 0x22 | .grant _ _ => 0x30 | .revoke _ => 0x31
  | .notify _ => 0x40 | .unknown n => n | .malformed n => n

/-- The payload is well formed for the operation (R476 row 2); `max` is the most data bytes of a BLOB-SEG. A partition is 0 to 15. Two
readings are the model's (DESIGN CHOICE, notes/assumptions/116.md): a count outside 1 to `max`, of a read segment too, is malformed, and the
length of a BLOB-OPEN for reading, which the table of R56 gives as 0, is not judged. -/
def Body.ok (max : Nat) : Body → Bool
  | .write _ _ _ v => decide (v.length ≤ 255)
  | .readMulti rs => decide (1 ≤ rs.length) && decide (rs.length ≤ 32)
  | .blobOpen _ _ m _ => m == 1 || m == 2
  | .blobSeg _ n _ d => decide (1 ≤ n) && decide (n ≤ max) && (d.isEmpty || d.length == n)
  | .blobClose _ a c => a == 1 || (a == 2 && c.isNone)
  | .grant p _ => decide (p < 16)
  | .revoke p => decide (p < 16)
  | .malformed _ => false
  | _ => true

end Sys2Proof

namespace Sys2Proof.Machine

/-! ## Messages (R53 to R56) -/

/-- A number in a transport's byte order (R54). -/
def numAt (big : Bool) (b : Bytes) (o n : Nat) : Nat := if big then beAt b o n else leAt b o n
/-- The references of a READ-MULTI. -/
def refsAt (big : Bool) (b : Bytes) (n : Nat) : List (Nat × Nat) :=
  (List.range n).map (fun i => (numAt big b (2 + 4 * i) 2, byteAt b (4 + 4 * i)))
/-- The request that an operation code and its payload spell (R56). -/
def bodyOf (big : Bool) (op : Nat) (b : Bytes) : Body :=
  let n := b.length
  let num := numAt big b
  let want := fun (w : Nat) (x : Body) => if n = w then x else .malformed op
  match op with
  | 0x01 => want 4 (.read (num 0 2) (byteAt b 2))
  | 0x02 =>
    let v := b.drop 5
    if 5 ≤ n ∧ v.length = byteAt b 4 then .write (num 0 2) (byteAt b 2) (byteAt b 3) (if big && byteAt b 3 != 0x0B then v.reverse else v) else .malformed op
  | 0x03 => if 2 ≤ n ∧ n = 2 + 4 * byteAt b 0 then .readMulti (refsAt big b (byteAt b 0)) else .malformed op
  | 0x10 => want 12 (.blobOpen (num 0 2) (byteAt b 2) (byteAt b 4) (num 8 4))
  | 0x11 => if 8 ≤ n then .blobSeg (num 0 2) (num 2 2) (num 4 4) (b.drop 8) else .malformed op
  | 0x12 => if n = 4 then .blobClose (num 0 2) (byteAt b 2) none else want 8 (.blobClose (num 0 2) (byteAt b 2) (some (num 4 4)))
  | 0x20 => want 8 (.claim (byteAt b 0) (num 4 4))
  | 0x21 => want 4 (.giveUp (byteAt b 0))
  | 0x22 => want 0 .heartbeat
  | 0x30 => want 4 (.grant (byteAt b 0) (byteAt b 1))
  | 0x31 => want 4 (.revoke (byteAt b 0))
  | 0x40 => want 4 (.notify (num 0 4))
  | _ => .unknown op
/-- The request that a message from an endpoint spells; none where R55 discards it. -/
def decodeMsg (ep : Endpoint) (b : Bytes) : Option (Req × Body) :=
  let big := ep.big
  let n := numAt big b 6 2
  if b.length < 16 ∨ byteAt b 0 / 16 ≠ 1 ∨ bit (byteAt b 0) 3 = true ∨ b.length ≠ 16 + n ∨ 1008 < n then none
  else some ({ ep := ep, agent := byteAt b 2, seq := numAt big b 4 2, epoch := numAt big b 8 4 }, bodyOf big (byteAt b 1) (b.drop 16))

/-! ## Timers that a request finds due (R66, R80, R81) -/

/-- A handle's 2 s without a segment are over (R66). -/
def State.expireHandles (s : State) (p : Handle → Bool) : State :=
  let was := s.traceRead
  (s.killHandles p 0xC01C).when was State.traceResume

/-- A request becomes the latest of an agent's 16 most recent ones; only their responses stay kept (R60). -/
def Agent.noteReq (a : Agent) (seq op : Nat) : Agent :=
  let r := keepLast 16 (a.recent ++ [(seq, op)])
  { a with recent := r, kept := a.kept.filter (fun k => r.contains (k.1, k.2.1)) }
/-- The response to a request of an endpoint (R53, R58). -/
def State.rspMsg (s : State) (ep : Endpoint) (op seq code : Nat) (payload : List (Nat × Nat)) : Msg :=
  { flags := 0x18 + (if code = 0 then 0 else 4), op := op, agent := (s.agentAt ep).getD 0xFF, scope := ep.scope, seq := seq,
    epoch := s.obj Obj.ownerEpoch, abort := code, payload := payload }
/-- Hand agent n's response to its transport and keep it (R53, R58, R60). `node` and `prio` are the CAN node it leaves from and its
priority. -/
def State.respond (s : State) (node prio : Nat) (ep : Endpoint) (op seq code : Nat) (payload : List (Nat × Nat)) : State :=
  let m := s.rspMsg ep op seq code payload
  let s := match s.agentAt ep with
    | some n => s.updAgent n (fun a => { a.noteReq seq op with kept := (a.noteReq seq op).kept ++ [(seq, op, m)] })
    | none => s
  s.send node prio false ep m
/-- Answer a CLAIM of agent n at the close of its window, on the way it came (R72, R75, R80); the response is kept while the CLAIM is one of
the agent's 16 most recent requests (R60). -/
def State.respondClaim (s : State) (n code : Nat) (via : Nat × Nat × Endpoint) (payload : List (Nat × Nat)) : State :=
  let m := s.rspMsg via.2.2 0x20 via.1 code payload
  let s := s.updAgent n (fun a => if a.recent.contains (via.1, 0x20) then { a with kept := a.kept ++ [(via.1, 0x20, m)] } else a)
  s.send (s.obj Obj.cuhildCanNode) via.2.1 false via.2.2 m
/-- The CAN priority of an endpoint's latest request (R72). -/
def State.prioOf (s : State) (ep : Endpoint) : Nat := match ep with | .can n => mget (fun _ => 0) s.cu.canPrio n | _ => 0

/-- The better of two bids (R80): higher priority, then higher nonce, then lower agent number. -/
def better (a b : Bid) : Bid :=
  if a.prio < b.prio ∨ (a.prio = b.prio ∧ (a.nonce < b.nonce ∨ (a.nonce = b.nonce ∧ b.agent < a.agent))) then b else a
/-- The winning bid. -/
def bestBid : List Bid → Option Bid
  | [] => none
  | b :: bs => some (bs.foldl better b)
/-- The claim window closes (R80). -/
def State.closeWindow (s : State) : State :=
  let bids := s.cu.bids
  let s := { s with cu := { s.cu with window := none, bids := [] } }
  match bestBid bids with
  | none => s
  | some w =>
    let s := s.changeOwner w.agent w.prio
    s.each (bids.map (·.agent)) (fun s n =>
      match s.agent n with
      | none => s
      | some a =>
        let s := s.setAgent n (some { a with claims := [], via := [] })
        s.each a.via (fun s v => s.respondClaim n (if n = w.agent then 0 else 0xC012) v [(1, w.agent), (1, w.prio), (2, 0)]))

/-- The timers that fall due before a request is executed: the lease, the claim window, the handles. -/
def State.catchUp (s : State) : State :=
  let s := match s.cu.lease with | some t => if t ≤ s.clk.ticks then s.leaseExpiry else s | none => s
  let s := match s.cu.window with | some t => if t ≤ s.clk.ticks then s.closeWindow else s | none => s
  s.expireHandles (fun h => decide (h.deadline ≤ s.clk.ticks))

/-! ## The shared checks (R43, R49 to R51, R476) -/

/-- Rows 4 and 5: the index and subindex are defined and in scope; 0, or the abort code. -/
def refCheck (scope idx sub : Nat) : Nat :=
  if (highestSub idx).isNone then 0xC003
  else if sub ≠ 0 ∧ (dictRow idx sub).isNone then 0xC004
  else if !inScope scope idx sub then 0xC00B
  else 0
/-- The type code of an object; subindex 0 is a U8. -/
def typeOf (idx sub : Nat) : Nat := if sub = 0 then 2 else ((dictRow idx sub).map (·.ty)).getD 0
/-- The access kind of an object; subindex 0 is CONST. -/
def accOf (idx sub : Nat) : Acc := if sub = 0 then .const else ((dictRow idx sub).map (·.acc)).getD .const
/-- Agent n may read the object (R50). -/
def State.mayRead (s : State) (n idx sub : Nat) : Bool :=
  match accOf idx sub with
  | .wo => false
  | .rw => s.obj Obj.ownerAgent == n
  | _ => true
/-- Row 9 for a write (R50): 0, or the abort code. -/
def State.writeAccess (s : State) (n idx sub : Nat) : Nat :=
  match accOf idx sub with
  | .const => 0xC008
  | .ro => 0xC008
  | .tw => if s.obj Obj.ownerAgent = n ∨ (0x8000 ≤ idx ∧ s.obj (Obj.delegP ((idx - 0x8000) / 0x400)) = n) then 0 else 0xC015
  | _ => if s.obj Obj.ownerAgent = n then 0 else 0xC008
/-- Row 6: the epoch is current; a stale one is counted (R58). -/
def State.stale (s : State) (e : Nat) : Bool := e != s.obj Obj.ownerEpoch
/-- Rows 6 to 9 for a write: 0, or the abort code (R51, R100: in ROM recovery only upd.harbour and upd.restart are written). -/
def State.writeGate (s : State) (n e idx sub : Nat) : Nat :=
  if s.stale e then 0xC009
  else if s.obj Obj.ownerAgent = 0xFF then 0xC008
  else if s.restricted && !isUpdate idx sub then 0xC00C
  else if s.boot.recovery && !(sub == 1 || sub == 7) then 0xC00C
  else s.writeAccess n idx sub
/-- Count a request refused under R58. -/
def State.countStale (s : State) (code : Nat) : State := s.when (code == 0xC009) (·.ctr Obj.ctrCuhildStaleEpoch)

/-! ## READ, WRITE, READ-MULTI -/

/-- The item of an object that agent n reads (R56); the nonce feed gives the words the agent's register holds (R107). -/
def State.item (s : State) (n idx sub : Nat) : List (Nat × Nat) :=
  let ty := typeOf idx sub
  if ty = 0x0B then
    let v := strValue sub
    [(2, idx), (1, sub), (1, ty), (1, v.length)] ++ v.map (fun b => (1, b.toNat))
  else
    let v := if idx * 256 + sub = Obj.attestNonceFeed then ((s.agent n).map (·.nonce.length)).getD 0 else s.view idx sub
    [(2, idx), (1, sub), (1, ty), (1, typeWidth ty), (typeWidth ty, v)]
/-- Rows 4, 5, 9, 10 and 14 for a read of a scalar: 0, or the abort code. -/
def State.readCheck (s : State) (n scope idx sub : Nat) : Nat :=
  let c := refCheck scope idx sub
  if c ≠ 0 then c
  else if !s.mayRead n idx sub then 0xC007
  else if typeOf idx sub = 0x0D then 0xC00E
  else if accOf idx sub = .ro ∧ !s.sourceOn idx sub then 0xC00D
  else 0
/-- A READ of attest.nonce_feed shifts the sequence number in (R107). -/
def State.feedNonce (s : State) (n seq : Nat) : State := s.updAgent n (fun a => { a with nonce := keepLast 8 (a.nonce ++ [seq]) })
/-- The answer to a request: the state, the abort code, the payload; no payload: no answer yet. -/
abbrev Answer := State × Nat × Option (List (Nat × Nat))
/-- An abort. -/
def State.abort (s : State) (code : Nat) : Answer := (s.countStale code, code, some [])
/-- READ. -/
def State.doRead (s : State) (n scope seq idx sub : Nat) : Answer :=
  let c := s.readCheck n scope idx sub
  if c ≠ 0 then s.abort c
  else
    let s := s.when (idx * 256 + sub == Obj.attestNonceFeed) (·.feedNonce n seq)
    (s, 0, some (s.item n idx sub))
/-- READ-MULTI (R57). -/
def State.doReadMulti (s : State) (n scope : Nat) (refs : List (Nat × Nat)) : Answer :=
  let one := fun (r : Nat × Nat) =>
    let c := s.readCheck n scope r.1 r.2
    if c = 0 then s.item n r.1 r.2 else [(2, r.1), (1, r.2), (1, 0), (2, c)]
  let p := [(1, refs.length), (1, 0)] ++ refs.flatMap one
  if 1008 < fieldsLen p then s.abort 0xC01E else (s, 0, some p)
/-- Rows 4 to 12 of a WRITE: 0, or the abort code. -/
def State.writeCheck (s : State) (n scope e idx sub typ : Nat) (val : Bytes) : Nat :=
  let c := refCheck scope idx sub
  if c ≠ 0 then c
  else
    let g := s.writeGate n e idx sub
    if g ≠ 0 then g
    else
      let ty := typeOf idx sub
      if ty = 0x0D then 0xC00E
      else if typ ≠ ty ∨ val.length ≠ typeWidth ty then 0xC005
      else if (dictRow idx sub).any (fun (d : DRow) => !d.dom.ok (8 * typeWidth ty) (unle val)) then 0xC006
      else 0
/-- WRITE (R57): whole, before its response. -/
def State.doWrite (s : State) (n scope e idx sub typ : Nat) (val : Bytes) : Answer :=
  let c := s.writeCheck n scope e idx sub typ val
  if c ≠ 0 then s.abort c
  else
    let r := s.writeObj idx sub (unle val)
    if r.2 ≠ 0 then s.abort r.2 else (r.1, 0, some [(2, idx), (1, sub), (1, 0)])

/-! ## BLOB transfers (R64 to R67) -/

/-- Handles open now. -/
def State.openHandles (s : State) : List Handle := s.cu.handles.filter (·.dead.isNone)
/-- A handle number not in use; which one is open (notes/assumptions/71.md). -/
def State.newHandle (s : State) : Nat × State :=
  let r := s.fresh
  let used := s.cu.handles.map (·.id)
  (((List.range (used.length + 1)).map (fun i => (r.1 + i) % 65536)).find? (fun h => !used.contains h) |>.getD 0, r.2)
/-- Add a handle. -/
def State.addHandle (s : State) (h : Handle) : State := { s with cu := { s.cu with handles := s.cu.handles ++ [h] } }
/-- Remove a handle; the end of a trace read lets the sources resume (R443). -/
def State.dropHandle (s : State) (id : Nat) : State :=
  let was := s.traceRead
  ({ s with cu := { s.cu with handles := s.cu.handles.filter (fun h => h.id != id) } } : State).when was State.traceResume
/-- Change a handle. -/
def State.updHandle (s : State) (id : Nat) (f : Handle → Handle) : State :=
  { s with cu := { s.cu with handles := s.cu.handles.map (fun h => if h.id = id then f h else h) } }
/-- The limits of R66: 8 handles per device and 2 per agent. -/
def State.handleRoom (s : State) (n : Nat) : Bool :=
  decide (s.openHandles.length < 8) && decide ((s.openHandles.filter (·.agent == n)).length < 2)
/-- Rows 4 to 14 of a BLOB-OPEN for reading: 0, or the abort code (R66, R449). -/
def State.openCheck (s : State) (n scope idx sub : Nat) : Nat :=
  let c := refCheck scope idx sub
  if c ≠ 0 then c
  else if !s.mayRead n idx sub then 0xC007
  else if typeOf idx sub ≠ 0x0D then 0xC00E
  else if !s.handleRoom n then 0xC01B
  else if idx * 256 + sub = Obj.obsInspect ∧ s.obj Obj.obsDumpHeld ≠ 1 then 0xC160
  else if idx * 256 + sub = Obj.obsInspect ∧ s.inspectOk (s.obj Obj.obsInspectAddr) (s.obj Obj.obsInspectLen) = false then 0xC161
  else if accOf idx sub = .ro ∧ !s.sourceOn idx sub then 0xC00D
  else 0
/-- BLOB-OPEN for reading (R65): the value as it stands now. -/
def State.doOpenRead (s : State) (n scope idx sub : Nat) : Answer :=
  let c := s.openCheck n scope idx sub
  if c ≠ 0 then s.abort c
  else
    let v := s.blobValue n idx sub
    let h := v.2.newHandle
    let s := h.2.when (idx * 256 + sub == Obj.attestReport) (·.ctr Obj.ctrAttestReports)
    let s := s.addHandle { id := h.1, agent := n, idx := idx, sub := sub, write := false, len := v.1.length, data := v.1,
                           deadline := s.clk.ticks + msT 2000, basis := 0xFF, dead := none }
    (s, 0, some [(2, h.1), (2, 0), (4, v.1.length), (4, crc32c v.1)])
/-- BLOB-OPEN for writing (R64, R66): of an update object it also starts the core clock (R133). -/
def State.doOpenWrite (s : State) (n scope e idx sub len : Nat) : Answer :=
  let c := refCheck scope idx sub
  let g := s.writeGate n e idx sub
  if c ≠ 0 then s.abort c
  else if g ≠ 0 then s.abort g
  else if typeOf idx sub ≠ 0x0D then s.abort 0xC00E
  else if s.openHandles.any (fun h => h.write && h.idx == idx && h.sub == sub) then s.abort 0xC01A
  else if !s.handleRoom n then s.abort 0xC01B
  else
    let h := s.newHandle
    let s := h.2.addHandle { id := h.1, agent := n, idx := idx, sub := sub, write := true, len := len, data := [],
                             deadline := s.clk.ticks + msT 2000, basis := 0xFF, dead := none }
    (s.trigger 6, 0, some [(2, h.1), (2, 0), (4, len), (4, 0)])
/-- A handle that agent n names: an unknown one, or another agent's, is 0xC016; a discarded one gives its code once (R66, R67). The payload
is judged first (`ok`, R476 row 2), as far as it depends on the handle's mode. -/
def State.useHandle (s : State) (n e id : Nat) (ok : Handle → Bool) (go : Handle → Answer) : Answer :=
  match s.cu.handles.find? (fun h => h.id == id && h.agent == n) with
  | none => s.abort 0xC016
  | some h =>
    if !ok h then s.abort 0xC002
    else if h.write && s.stale e then s.abort 0xC009
    else match h.dead with
      | some c => (s.dropHandle id).abort c
      | none => go h
/-- BLOB-SEG (R64, R65): `count` data bytes on a write handle, none on a read handle. -/
def State.doSeg (s : State) (n e id count off : Nat) (data : Bytes) : Answer :=
  s.useHandle n e id (fun h => if h.write then data.length == count else data.isEmpty) (fun h =>
    let live := s.updHandle id (fun h => { h with deadline := s.clk.ticks + msT 2000 })
    if h.write then
      if off ≠ h.data.length then s.abort 0xC017
      else if h.len < off + count then s.abort 0xC018
      else (live.updHandle id (fun h => { h with data := h.data ++ data }), 0, some [(2, id), (2, count), (4, off)])
    else if h.len ≤ off then s.abort 0xC018
    else
      let d := (h.data.drop off).take count
      (live, 0, some ([(2, id), (2, d.length), (4, off)] ++ d.map (fun b => (1, b.toNat)))))
/-- BLOB-CLOSE (R64, R116): only the commit of a write carries a CRC-32C; a commit that fails discards the transaction. -/
def State.doClose (s : State) (n e id action : Nat) (crc : Option Nat) : Answer :=
  s.useHandle n e id (fun h => (h.write && action == 1) == crc.isSome) (fun h =>
    let t := s.dropHandle id
    if !h.write || action == 2 then (t, 0, some [(2, id), (2, 0)])
    else if h.data.length ≠ h.len then t.abort 0xC018
    else if some (crc32c h.data) ≠ crc then t.abort 0xC019
    else
      let r := t.commitBlob h.sub h.data
      if r.2 ≠ 0 then r.1.abort r.2 else (r.1, 0, some [(2, id), (2, 0)]))

/-! ## Ownership (R78 to R87) -/

/-- CLAIM (R80): answered at the close, over its own endpoint `ep` with its own CAN priority. -/
def State.doClaim (s : State) (n : Nat) (ep : Endpoint) (scope seq prio nonce : Nat) : Answer :=
  if s.obj Obj.ownerAgent ≠ 0xFF then s.abort 0xC011
  else if scope ≠ 0xFF then s.abort 0xC00B
  else
    let b : Bid := { agent := n, prio := prio, nonce := nonce }
    let win := match s.cu.window with | some t => t | none => s.clk.ticks + msT 16
    let s := { s with cu := { s.cu with window := some win, bids := s.cu.bids.filter (fun (x : Bid) => x.agent != n) ++ [b] } }
    (s.updAgent n (fun a => { a with claims := a.claims ++ [seq], via := a.via ++ [(seq, s.prioOf ep, ep)] }), 0, none)
/-- Rows 6 to 9 of an owner operation (R83): 0, or the abort code. GRANT is refused while Restricted (R51). -/
def State.ownerGate (s : State) (n e : Nat) (grant : Bool) : Nat :=
  if s.stale e then 0xC009
  else if s.obj Obj.ownerAgent = 0xFF then 0xC008
  else if grant && s.restricted then 0xC00C
  else if s.obj Obj.ownerAgent ≠ n then 0xC008
  else 0
/-- YIELD (R83). -/
def State.doYield (s : State) (n e target : Nat) : Answer :=
  let c := s.ownerGate n e false
  if c ≠ 0 then s.abort c
  else if target = 0xFF then (s.changeOwner 0xFF 0, 0, some [(1, 0xFF), (3, 0)])
  else if (s.agent target).any (fun a => a.ep.scope == 0xFF) then (s.changeOwner target 0, 0, some [(1, target), (3, 0)])
  else s.abort 0xC013
/-- GRANT (R85). -/
def State.doGrant (s : State) (n e p a : Nat) : Answer :=
  let c := s.ownerGate n e true
  if c ≠ 0 then s.abort c
  else match s.agent a with
    | none => s.abort 0xC013
    | some t =>
      if t.ep.scope ≠ 0xFF ∧ t.ep.scope ≠ p then s.abort 0xC00B
      else if a = n then s.abort 0xC013
      else if s.obj (Obj.delegP p) ≠ 0xFF then s.abort 0xC014
      else (s.setEv (Obj.delegP p) a, 0, some [(1, p), (1, a), (2, 0)])
/-- REVOKE (R86). For a partition that no one holds the spec gives no code; the answer is success with former delegate 0xFF (DESIGN CHOICE,
notes/assumptions/117.md). -/
def State.doRevoke (s : State) (n e p : Nat) : Answer :=
  let c := s.ownerGate n e false
  if c ≠ 0 then s.abort c
  else (s.endDeleg p, 0, some [(1, p), (1, s.obj (Obj.delegP p)), (2, 0)])
/-- The payload of a HEARTBEAT response (R56). -/
def State.beat (s : State) (n : Nat) : List (Nat × Nat) :=
  [(1, n), (1, s.obj Obj.ownerAgent), (1, s.obj Obj.powerState + (if s.restricted then 128 else 0)), (1, 0), (2, s.leaseLeft), (2, 0)]
/-- HEARTBEAT of a registered agent (R58, R78, R81): the owner's with the current epoch renews the lease, whatever number it carries; one
with number 0xFF is never aborted. -/
def State.doHeartbeat (s : State) (n e num : Nat) : Answer :=
  if s.obj Obj.ownerAgent = n then
    if s.stale e then (if num = 0xFF then (s, 0, some (s.beat n)) else s.abort 0xC009)
    else
      let s := { s with cu := { s.cu with lease := some (s.clk.ticks + msT 500) } }
      (s, 0, some (s.beat n))
  else (s, 0, some (s.beat n))
/-- Registration (R78): the lowest free number. -/
def State.doRegister (s : State) (ep : Endpoint) : Answer :=
  match (List.range 8).find? (fun n => (s.agent n).isNone) with
  | none => s.abort 0xC00F
  | some n =>
    let s := s.setAgent n (some { ep := ep, heard := s.now, heardTick := s.clk.ticks, mask := 0, nonce := [], kept := [], claims := [],
                                  notes := [], lost := 0 })
    (s, 0, some (s.beat n))
/-- NOTIFY (R87): not on the configuration window (0xC110). -/
def State.doNotify (s : State) (n : Nat) (ep : Endpoint) (mask : Nat) : Answer :=
  if ep = .cfgWindow then s.abort 0xC110
  else
    let m := mask % 2 ^ 20
    (s.updAgent n (fun a => { a with mask := m }), 0, some [(4, m)])

/-! ## The sequencer (R59 to R61, R476) -/

/-- The codes of R56. -/
def opKnown (op : Nat) : Bool := ([0x01, 0x02, 0x03, 0x10, 0x11, 0x12, 0x20, 0x21, 0x22, 0x30, 0x31, 0x40] : List Nat).contains op
/-- Execute a request of an endpoint whose agent is n, if registered: rows 1 to 3, then the operation. -/
def State.execute (s : State) (n : Option Nat) (r : Req) (b : Body) : Answer :=
  let max := if r.ep = .cfgWindow then 232 else 992
  if !opKnown b.op then s.abort 0xC000
  else if !b.ok max then s.abort 0xC002
  else match n with
    | none => (match b with | .heartbeat => if r.agent = 0xFF then s.doRegister r.ep else s.abort 0xC010 | _ => s.abort 0xC010)
    | some n =>
      match b with
      | .read i u => s.doRead n r.ep.scope r.seq i u
      | .write i u t v => s.doWrite n r.ep.scope r.epoch i u t v
      | .readMulti rs => s.doReadMulti n r.ep.scope rs
      | .blobOpen i u m l => if m = 1 then s.doOpenRead n r.ep.scope i u else s.doOpenWrite n r.ep.scope r.epoch i u l
      | .blobSeg h c o d => s.doSeg n r.epoch h c o d
      | .blobClose h a c => s.doClose n r.epoch h a c
      | .claim p o => s.doClaim n r.ep r.ep.scope r.seq p o
      | .giveUp t => s.doYield n r.epoch t
      | .heartbeat => s.doHeartbeat n r.epoch r.agent
      | .grant p a => s.doGrant n r.epoch p a
      | .revoke p => s.doRevoke n r.epoch p
      | .notify m => s.doNotify n r.ep m
      | .unknown _ => s.abort 0xC000
      | .malformed _ => s.abort 0xC002

/-- Requests of an agent that wait for their response (R61, R70). -/
def State.outstanding (s : State) (a : Agent) : Nat :=
  a.claims.length + (match a.ep.box with | some b => (s.box b).waiting.length | none => 0)
/-- The most requests an endpoint may have outstanding (R61). -/
def Endpoint.limit : Endpoint → Nat
  | .pf => 16
  | .vf _ => 16
  | _ => 4
/-- Execute a request, count it, and answer it from the node that was Brolum's before it. -/
def State.run (s : State) (n : Option Nat) (r : Req) (b : Body) : State :=
  let node := s.obj Obj.cuhildCanNode
  let a := (s.ctr Obj.ctrCuhildRequests).execute n r b
  match a.2.2 with
  | none => (match n with | some n => a.1.updAgent n (fun a => a.noteReq r.seq b.op) | none => a.1)
  | some p => a.1.respond node (a.1.prioOf r.ep) r.ep b.op r.seq a.2.1 p
/-- A request that reaches the sequencer (R59 to R61). Two orders are the model's: a repetition is answered from the kept responses before
the limit of R61 is judged (DESIGN CHOICE, notes/assumptions/118.md), and every well-formed message of the endpoint, a repeated or an overrun
one too, counts as something sent for R79, a malformed one does not (DESIGN CHOICE, notes/assumptions/119.md). -/
def State.request (s : State) (r : Req) (b : Body) : State :=
  if !s.served r.ep then s
  else
    let s := s.catchUp
    match s.agentAt r.ep with
    | none => s.run none r b
    | some n =>
      let s := s.updAgent n (fun a => { a with heard := s.now, heardTick := s.clk.ticks, ep := r.ep })
      match s.agent n with
      | none => s
      | some a =>
        match a.kept.find? (fun k => k.1 == r.seq && k.2.1 == b.op) with
        | some k => s.send (s.obj Obj.cuhildCanNode) (s.prioOf r.ep) false r.ep k.2.2
        | none =>
          if b.op == 0x20 && a.claims.contains r.seq then s
          else if Endpoint.limit r.ep ≤ s.outstanding a then s.ctr Obj.ctrCuhildOverrun
          else s.run (some n) r b
/-- A message that arrives at an endpoint (R55, R92). -/
def State.submit (s : State) (ep : Endpoint) (msg : Bytes) : State :=
  if !s.served ep then s
  else match decodeMsg ep msg with
    | none => s.ctr Obj.ctrCuhildMalformed
    | some (r, b) => s.request r b

/-- A WRITE of an object with the type code and length of the object. -/
def State.reqWrite (s : State) (r : Req) (idx sub v : Nat) : State :=
  s.request r (.write idx sub (typeOf idx sub) (le (typeWidth (typeOf idx sub)) v))

end Sys2Proof.Machine
end

