-- ==== Sys2Proof/Machine/Transports.lean ====
section
/-! DEFINITION. Cuhild's transports and timers as commands: mailboxes and host registers (R69, R70, R194, R229, R350), the configuration
window (R71), CAN FD (R72, R73), straits (R77), resets (R79, R467), leases and deadlines (R66, R79 to R81). -/
namespace Sys2Proof.Machine

/-- The PCIe link answers: trained, PERST_N not asserted, and past step 5 (R71, R92); the doorbell latches lie in AON (R127). -/
def State.linkOn (s : State) : Bool := s.on && s.boot.served && s.pwr.pcieUp && !s.pwr.perst

/-! ## Mailboxes (R69, R70) -/

/-- The endpoint of a function's mailbox. -/
def boxEp (fn : Nat) : Endpoint := if fn = 0 then .pf else .vf (fn - 1)
/-- The message in a 1 KiB slot: its header and the payload that the header declares. -/
def slotMsg (b : Bytes) : Bytes := (padTo 1024 b).take (16 + leAt b 6 2)
/-- Serve what a mailbox holds (R59, R70); `fuel` bounds the slots. -/
def State.serveBox : Nat → State → Nat → State
  | 0, s, _ => s
  | fuel + 1, s, fn =>
    let b := s.box fn
    match b.reqs with
    | [] => s
    | m :: ms =>
      if s.served (boxEp fn) then
        State.serveBox fuel ((s.setBox fn { b with reqs := ms, reqC := (b.reqC + 1) % 32 }).submit (boxEp fn) (slotMsg m)) fn
      else s
/-- A doorbell (R70): the slots up to the new producer join the ring; in Berth it is a start trigger (R68, R133). -/
def State.doorbell (s : State) (fn producer : Nat) (slots : List Bytes) : State :=
  if 16 < fn ∨ s.linkOn = false then s
  else
    let b := s.box fn
    let n := (producer % 32 + 32 - b.reqP % 32) % 32
    let s := s.setBox fn { b with reqP := producer % 32, reqs := b.reqs ++ (List.range n).map (fun i => slots.getD i []) }
    (s.trigger 3).serveBox 32 fn
/-- A response that waited is written once a slot is free (R70). -/
def State.deliverRsp (s : State) (fn : Nat) : State :=
  let b := s.box fn
  match b.waiting with
  | [] => s
  | m :: ms => if ringFull5 b.rspP b.rspC || !s.served (boxEp fn) then s else (s.setBox fn { b with waiting := ms }).putRsp fn m
/-- Notifications that can be delivered now, for every agent (R89). -/
def State.pumpAll (s : State) : State := s.each (List.range 8) (fun s n => State.pump 65 s n)

/-! ## Host registers with no behaviour of their own -/

/-- The status register of a function's BAR0 (R69): the number of the agent registered there, or 0xFF, above its scope. -/
def State.boxStatus (s : State) (fn : Nat) : Nat := ((s.agentAt (boxEp fn)).getD 0xFF) * 256 + (boxEp fn).scope
/-- What the host reads of a register of BAR0 (R69); reserved offsets read 0 (R13). -/
def State.bar0Read (s : State) (fn off : Nat) : Nat :=
  let b := s.box fn
  match off with
  | 0x00 => s.boxStatus fn
  | 0x04 => b.reqP
  | 0x08 => b.reqC
  | 0x0C => b.rspP
  | 0x10 => b.rspC
  | 0x14 => b.ntfP
  | 0x18 => b.ntfC
  | 0x1C => b.irq
  | _ => 0
/-- What the host reads of the response and notification rings of BAR0, by ring and slot (R69, R70). -/
def State.bar0Slot (s : State) (fn : Nat) (note : Bool) (slot : Nat) : Bytes :=
  padTo 1024 (mget (fun _ => ([] : Bytes)) (if note then (s.box fn).ntf else (s.box fn).rsp) (slot % 16))
/-- A write of a mailbox register (R69). -/
def State.bar0Write (s : State) (fn off v : Nat) : State :=
  let b := s.box fn
  match off with
  | 0x10 => s.setBox fn { b with rspC := v % 32 }
  | 0x18 => (s.setBox fn { b with ntfC := v % 32 }).pumpAll
  | 0x1C => s.setBox fn { b with irq := v % 4 }
  | _ => s
/-- A write of a ring page's base, size or completion consumer (R194): base and size only while enable is 0; a size code is 0 to 6
(notes/assumptions/72.md). -/
def Ring.hostWrite (r : Ring) (off v : Nat) : Ring :=
  match off with
  | 0x000 => if r.en then r else { r with sub := v % 2 ^ 64 }
  | 0x008 => if r.en then r else { r with comp := v % 2 ^ 64 }
  | 0x010 => if r.en ∨ v % 8 = 7 then r else { r with size := v % 8 }
  | 0x024 => { r with cc := v % r.wrap }
  | _ => r
/-- A write of a collector ring page (R229). -/
def CRing.hostWrite (r : CRing) (off v : Nat) : CRing :=
  match off with
  | 0x000 => if r.en then r else { r with base := v % 2 ^ 64 }
  | 0x008 => if r.en ∨ v % 8 = 7 then r else { r with size := v % 8 }
  | 0x00C => if bit v 0 && !r.en then { r with en := true, irq := bit v 1, prod := 0, cons := 0 } else { r with en := bit v 0, irq := bit v 1 }
  | 0x014 => { r with cons := v % 2 ^ (9 + r.size) }
  | _ => r
/-- The bundle ring's enable (R350), as R194's: at an enable from 0 the pointers start at 0. -/
def Ring.bundleEnable (r : Ring) (v : Nat) : Ring :=
  if bit v 0 && !r.en then { r with en := true, irq := bit v 1, sp := 0, sc := 0, cp := 0, cc := 0, err := false } else { r with en := bit v 0, irq := bit v 1 }
/-- A write in BAR2 (R194, R229, R350). -/
def State.bar2Write (s : State) (fn off v : Nat) : State :=
  let r := off / 0x1000
  let o := off % 0x1000
  if off < 0x100000 then (if hasRing fn r then s.setRing (4 * fn + r) ((s.ring (4 * fn + r)).hostWrite o v) else s)
  else if off < 0x200000 then
    let i := r - 0x100
    if i < (if fn = 0 then 64 else 4) then s.setCRing (64 * fn + i) ((s.cRing (64 * fn + i)).hostWrite o v) else s
  else if r = 0x200 then s.setBRing fn (if o = 0x014 then (s.bRing fn).bundleEnable v else (s.bRing fn).hostWrite o v)
  else s
/-- What the host reads of a ring page (R194), four bytes at a time; the keep-alive register and offsets past it read 0. -/
def Ring.reg (r : Ring) (off : Nat) : Nat :=
  match off with
  | 0x000 => r.sub % 2 ^ 32
  | 0x004 => r.sub / 2 ^ 32
  | 0x008 => r.comp % 2 ^ 32
  | 0x00C => r.comp / 2 ^ 32
  | 0x010 => r.size
  | 0x014 => b2n r.en + 2 * b2n r.irq
  | 0x018 => r.sp
  | 0x01C => r.sc
  | 0x020 => r.cp
  | 0x024 => r.cc
  | 0x028 => r.tag * 2 ^ 16 + r.epoch
  | 0x02C => b2n r.fenced + 2 * b2n r.err
  | _ => 0
/-- What the host reads of a collector ring page (R229). -/
def CRing.reg (r : CRing) (off : Nat) : Nat :=
  match off with
  | 0x000 => r.base % 2 ^ 32
  | 0x004 => r.base / 2 ^ 32
  | 0x008 => r.size
  | 0x00C => b2n r.en + 2 * b2n r.irq
  | 0x010 => r.prod
  | 0x014 => r.cons
  | _ => 0
/-- What the host reads in BAR2 (R194, R229, R350): the pages of rings a function lacks read 0. -/
def State.bar2Read (s : State) (fn off : Nat) : Nat :=
  let r := off / 0x1000
  let o := off % 0x1000
  if off < 0x100000 then (if hasRing fn r then (s.ring (4 * fn + r)).reg o else 0)
  else if off < 0x200000 then (if r - 0x100 < (if fn = 0 then 64 else 4) then (s.cRing (64 * fn + (r - 0x100))).reg o else 0)
  else if r = 0x200 then (if o = 0x028 then (s.bRing fn).epoch else (s.bRing fn).reg o)
  else 0
/-- The identifier of the configuration window's capability (R71). -/
def windowId : Nat := 0x00C1
/-- What the host reads of the capability after its header (R71): the control dword, the request area, the response area. -/
def State.windowRead (s : State) : Bytes :=
  le 4 (b2n s.cu.cfgGo + 2 * b2n s.cu.cfgDone) ++ padTo 256 s.cu.cfgReq ++ padTo 256 s.cu.cfgRsp
/-- A host write of the control dword that does not set go (R71): it clears done (how the model names it: notes/assumptions/95.md). -/
def State.windowClear (s : State) (v : Nat) : State :=
  if s.served .cfgWindow && !bit v 1 then { s with cu := { s.cu with cfgDone := false } } else s
/-- A host register write: the mailboxes and BAR2's engines lie in PD-NET (R127); 6 stands for the capability of R71. -/
def State.mmio (s : State) (fn bar off v : Nat) : State :=
  if 16 < fn then s
  else if bar = 0 then (if s.bar2On then s.bar0Write fn off v else s)
  else if bar = 2 then (if s.bar2On then s.bar2Write fn off v else s)
  else if bar = 6 then (if fn = 0 ∧ off = 0 then s.windowClear v else s)
  else s
/-- A doorbell in BAR2: its latch lies in AON (R127); in Berth it is a start trigger (R133). -/
def State.bar2Door (s : State) (set : State → State) : State := if !s.linkOn then s else (set s).trigger 3

/-! ## Configuration window (R71), CAN FD (R73) and straits (R77) -/

/-- Go is set: the request area is executed, go cleared and done set at the response; one request at a time. Done is the host's to clear. -/
def State.windowGo (s : State) (msg : Bytes) : State :=
  if !s.served .cfgWindow then s
  else if s.cu.cfgGo then s.ctr Obj.ctrCuhildOverrun
  else
    let area := padTo 256 msg
    let s := { s with cu := { s.cu with cfgGo := true, cfgReq := area } }
    let m := if 240 < leAt area 6 2 then area else area.take (16 + leAt area 6 2)
    match decodeMsg .cfgWindow m with
    | none => ({ s with cu := { s.cu with cfgGo := false } } : State).ctr Obj.ctrCuhildMalformed
    | some (r, b) => s.request r b

/-- The partial message of a CAN node. -/
def State.canPart (s : State) (n : Nat) : Option CanPart := mget (fun _ => (none : Option CanPart)) s.cu.can n
/-- Replace it. -/
def State.setCanPart (s : State) (n : Nat) (p : Option CanPart) : State :=
  { s with cu := { s.cu with can := mset (fun _ => (none : Option CanPart)) s.cu.can n p } }
/-- Discard a partial message (R73). -/
def State.canDrop (s : State) (n : Nat) : State := if (s.canPart n).isSome then (s.setCanPart n none).ctr Obj.ctrCanBad else s
/-- The message of a reassembly without the padding of its last frame, whose data field is `last` bytes with the segment byte; the
whole where the lengths disagree. -/
def canMsg (data : Bytes) (last : Nat) : Bytes :=
  let want := 16 + beAt data 6 2
  let before := data.length + 1 - last
  if before < want ∧ want ≤ data.length ∧ canLen (1 + (want - before)) = last then data.take want else data
/-- A CAN FD frame (R72, R73). -/
def State.canFrame (s : State) (id : Nat) (classic : Bool) (data : Bytes) : State :=
  if !s.on || !s.boot.served then s
  else if classic then s.ctr Obj.ctrCanBad
  else
    let src := bits id 18 12
    if bits id 25 19 ≠ s.obj Obj.cuhildCanNode ∨ bits id 11 8 ≠ 1 ∨ 126 < src ∨ data = [] then s
    else
      let s := match s.canPart src with | some p => if p.deadline ≤ s.clk.ticks then s.canDrop src else s | none => s
      let seg := byteAt data 0
      let first := bit seg 7
      let s := if first then s.canDrop src else s
      let old := if first then some { next := 0, data := [], deadline := s.clk.ticks + msT 50 } else s.canPart src
      match old with
      | none => s
      | some (p : CanPart) =>
        if seg % 64 ≠ p.next then (s.setCanPart src (some p)).canDrop src
        else
          let all := p.data ++ data.drop 1
          if bit seg 6 then
            let s := s.setCanPart src none
            let s := { s with cu := { s.cu with canPrio := mset (fun _ => 0) s.cu.canPrio src (bits id 28 26) } }
            s.submit (.can src) (canMsg all data.length)
          else s.setCanPart src (some { p with next := (p.next + 1) % 64, data := all })
/-- 50 ms without the last segment. -/
def State.canLate (s : State) (n : Nat) : State :=
  match s.canPart n with
  | none => s
  | some p => (s.elapseTo p.deadline).canDrop n
/-- A Cuhild message from a pool peer: only an admitted member's is accepted. -/
def State.straitMsg (s : State) (src : Nat) (msg : Bytes) : State := s.submit (.strait src) msg

/-! ## Resets and deadlines -/

/-- A PCIe function reset (R79, R200). -/
def State.fnReset (s : State) (fn : Nat) : State :=
  if 16 < fn ∨ s.linkOn = false then s
  else
    let s := s.deregisterIf (fun ep => match ep with | .pf => fn == 0 | .cfgWindow => fn == 0 | .vf p => p + 1 == fn | _ => false)
    let s := s.when (fn == 0) (fun s => { s with cu := { s.cu with cfgGo := false } })
    s.each ((List.range 4).filter (hasRing fn)) (fun s r =>
      let g := s.ring (4 * fn + r)
      if g.en && (s.tag g.tag).ring == some (4 * fn + r) then s.endLease g.tag else s)
/-- The end of an agent's idle time (R79); the owner's registration stands while its lease runs. -/
def State.idleAgent (s : State) (n : Nat) : State :=
  match s.agent n with
  | none => s
  | some a => if s.obj Obj.ownerAgent = n then s else (s.elapseTo (a.heardTick + msT (s.obj Obj.cuhildAgentIdle))).deregister n
/-- The end of a handle's 2 s (R66). -/
def State.handleLate (s : State) (id : Nat) : State :=
  match s.openHandles.find? (fun h => h.id == id) with
  | none => s
  | some h => (s.elapseTo h.deadline).expireHandles (fun x => x.id == id)

/-! ## Commands -/

/-- READ (R56, R476). -/
def execRead (r : Req) (idx sub : Nat) (s : State) : Outcome := .next (s.request r (.read idx sub))
/-- WRITE (R57, R476). -/
def execWrite (r : Req) (idx sub typ : Nat) (val : Bytes) (s : State) : Outcome := .next (s.request r (.write idx sub typ val))
/-- READ_MULTI (R57). -/
def execReadMulti (r : Req) (refs : List (Nat × Nat)) (s : State) : Outcome := .next (s.request r (.readMulti refs))
/-- BLOB_OPEN (R64, R65). -/
def execBlobOpen (r : Req) (idx sub mode len : Nat) (s : State) : Outcome := .next (s.request r (.blobOpen idx sub mode len))
/-- BLOB_SEG (R64, R65). -/
def execBlobSeg (r : Req) (handle count off : Nat) (data : Bytes) (s : State) : Outcome := .next (s.request r (.blobSeg handle count off data))
/-- BLOB_CLOSE (R64). -/
def execBlobClose (r : Req) (handle action : Nat) (crc : Option Nat) (s : State) : Outcome := .next (s.request r (.blobClose handle action crc))
/-- CLAIM (R80). -/
def execClaim (r : Req) (prio nonce : Nat) (s : State) : Outcome := .next (s.request r (.claim prio nonce))
/-- CLAIM_WINDOW_CLOSE (R80). -/
def execClaimWindowClose (s : State) : Outcome := .next (match s.cu.window with | some t => (s.elapseTo t).closeWindow | none => s)
/-- YIELD (R83). -/
def execYield (r : Req) (target : Nat) (s : State) : Outcome := .next (s.request r (.giveUp target))
/-- HEARTBEAT (R78, R81). -/
def execHeartbeat (r : Req) (s : State) : Outcome := .next (s.request r .heartbeat)
/-- GRANT (R85). -/
def execGrant (r : Req) (part agent : Nat) (s : State) : Outcome := .next (s.request r (.grant part agent))
/-- REVOKE (R86). -/
def execRevoke (r : Req) (part : Nat) (s : State) : Outcome := .next (s.request r (.revoke part))
/-- NOTIFY (R87). -/
def execNotify (r : Req) (mask : Nat) (s : State) : Outcome := .next (s.request r (.notify mask))
/-- OWNER_LEASE_EXPIRY (R81). -/
def execOwnerLeaseExpiry (s : State) : Outcome := .next (match s.cu.lease with | some t => (s.elapseTo t).leaseExpiry | none => s)
/-- AGENT_IDLE_EXPIRY (R79). -/
def execAgentIdleExpiry (agent : Nat) (s : State) : Outcome := .next (s.idleAgent agent)
/-- BLOB_HANDLE_TIMEOUT (R66). -/
def execBlobHandleTimeout (handle : Nat) (s : State) : Outcome := .next (s.handleLate handle)
/-- MAILBOX_DOORBELL (R70). -/
def execMailboxDoorbell (fn producer : Nat) (slots : List Bytes) (s : State) : Outcome := .next (s.doorbell fn producer slots)
/-- MAILBOX_RESPONSE_DELIVER (R70). -/
def execMailboxResponseDeliver (fn : Nat) (s : State) : Outcome := .next (s.deliverRsp fn)
/-- MMIO_REGISTER_WRITE (R69, R194, R229, R350). -/
def execMmioRegisterWrite (fn bar off val : Nat) (s : State) : Outcome := .next (s.mmio fn bar off val)
/-- CONFIG_WINDOW_GO (R71). -/
def execConfigWindowGo (msg : Bytes) (s : State) : Outcome := .next (s.windowGo msg)
/-- CAN_FD_FRAME (R72, R73). -/
def execCanFdFrame (id : Nat) (classic : Bool) (data : Bytes) (s : State) : Outcome := .next (s.canFrame id classic data)
/-- CAN_REASSEMBLY_TIMEOUT (R73). -/
def execCanReassemblyTimeout (node : Nat) (s : State) : Outcome := .next (s.canLate node)
/-- PCIE_FUNCTION_RESET (R79, R200). -/
def execPcieFunctionReset (fn : Nat) (s : State) : Outcome := .next (s.fnReset fn)
/-- STRAIT_CUHILD_MESSAGE (R77). -/
def execStraitCuhildMessage (src : Nat) (msg : Bytes) (s : State) : Outcome := .next (s.straitMsg src msg)
/-- PERST_N_ASSERT (R467): the PCIe PHY and link only. -/
def execPerstNAssert (s : State) : Outcome := .next { s with pwr := { s.pwr with perst := true, pcieUp := false } }
/-- PERST_N_RELEASE (R92): the link trains; what waited for the link goes on. -/
def execPerstNRelease (s : State) : Outcome := .next ({ s with pwr := { s.pwr with perst := false, pcieUp := true } } : State).pumpAll
/-- FLOW_RING_DOORBELL (R194, R200): the submission producer is written; the lease of a tag that the ring still holds is renewed; the descriptors
fetched now are served in order. -/
def execFlowRingDoorbell (fn ring : Nat) (bell : Bell) (s : State) : Outcome :=
  let k := 4 * fn + ring
  .next (if hasRing fn ring then
    (s.bar2Door (fun s => (s.setRing k { s.ring k with sp := bell.producer % (s.ring k).wrap }).renewRing k)).each bell.fetched
      (fun s d => s.serveDesc fn ring d.1 d.2) else s)
/-- BUNDLE_RING_DOORBELL (R350). -/
def execBundleRingDoorbell (fn : Nat) (bell : Bell) (s : State) : Outcome :=
  .next (if fn ≤ 16 then (s.bar2Door (fun s => s.setBRing fn { s.bRing fn with sp := bell.producer % (s.bRing fn).wrap })).each bell.fetched
    (fun s d => s.serveBundle fn d.1 d.2) else s)

/-! ## Commands that are requests of one object -/

/-- The index at offset o of partition p's block (R46); an index of no object (0) for a number that is no partition. -/
def partIdx (p o : Nat) : Nat := if p < 16 then 0x8000 + 0x400 * p + o else 0
/-- The index of a slot's objects. -/
def slotIdx (p n : Nat) : Nat := if n < 4 then partIdx p (0x210 + n) else 0
/-- The index of a cartridge slot's objects. -/
def cartIdx (e : Nat) : Nat := if e < 8 then 0x4110 + e else 0

/-- START_INFERENCE_WRITE (R95). -/
def execStartInferenceWrite (r : Req) (v : Nat) (s : State) : Outcome := .next (s.reqWrite r 0x1200 0x03 v)
/-- POWER_CORE_HOLD_WRITE (R133). -/
def execPowerCoreHoldWrite (r : Req) (v : Nat) (s : State) : Outcome := .next (s.reqWrite r 0x1300 0x02 v)
/-- BERTH_KEEP_WRITE (R137). -/
def execBerthKeepWrite (r : Req) (v : Nat) (s : State) : Outcome := .next (s.reqWrite r 0x1300 0x05 v)
/-- NONCE_FEED_READ (R107). -/
def execNonceFeedRead (r : Req) (s : State) : Outcome := .next (s.request r (.read 0x1220 0x01))
/-- ATTEST_REPORT_OPEN (R108). -/
def execAttestReportOpen (r : Req) (s : State) : Outcome := .next (s.request r (.blobOpen 0x1220 0x02 1 0))
/-- UPD_RESTART_WRITE (R118). -/
def execUpdRestartWrite (r : Req) (v : Nat) (s : State) : Outcome := .next (s.reqWrite r 0x1250 0x07 v)
/-- TIME_SET_WRITE (R126). -/
def execTimeSetWrite (r : Req) (v : Nat) (s : State) : Outcome := .next (s.reqWrite r 0x1330 0x02 v)
/-- PART_QUADS_WRITE (R143). -/
def execPartQuadsWrite (r : Req) (part v : Nat) (s : State) : Outcome := .next (s.reqWrite r (partIdx part 0x300) 0x01 v)
/-- OWNER_DUTY_WRITE (R145). -/
def execOwnerDutyWrite (r : Req) (isle v : Nat) (s : State) : Outcome := .next (s.reqWrite r 0x1320 (if isle < 4 then 1 + isle else 0xFF) v)
/-- METER_APPLY (R166). -/
def execMeterApply (r : Req) (v : Nat) (s : State) : Outcome := .next (s.reqWrite r 0x2100 0x0C v)
/-- PORT_ENABLE_WRITE (R177). -/
def execPortEnableWrite (r : Req) (line : Bool) (v : Nat) (s : State) : Outcome := .next (s.reqWrite r 0x2000 (if line then 0x0A else 0x09) v)
/-- PORT_MODE_WRITE (R147). -/
def execPortModeWrite (r : Req) (line : Bool) (group v : Nat) (s : State) : Outcome :=
  .next (s.reqWrite r 0x2000 (if 4 ≤ group then 0xFF else if line then 5 + group else 1 + group) v)
/-- Q_STATS_CLEAR (R334). -/
def execQStatsClear (r : Req) (v : Nat) (s : State) : Outcome := .next (s.reqWrite r 0x3100 0x0A v)
/-- SLOT_LOAD (R341). -/
def execSlotLoad (r : Req) (part slot v : Nat) (s : State) : Outcome := .next (s.reqWrite r (slotIdx part slot) 0x01 v)
/-- SLOT_UNLOAD (R343). -/
def execSlotUnload (r : Req) (part slot v : Nat) (s : State) : Outcome := .next (s.reqWrite r (slotIdx part slot) 0x08 v)
/-- HBM_APPLY (R349). -/
def execHbmApply (r : Req) (v : Nat) (s : State) : Outcome := .next (s.reqWrite r 0x3300 0x06 v)
/-- SWAP (R356). -/
def execSwap (r : Req) (part v : Nat) (s : State) : Outcome := .next (s.reqWrite r (partIdx part 0x200) 0x03 v)
/-- T1_SLOT_WRITE (R356). -/
def execT1SlotWrite (r : Req) (part v : Nat) (s : State) : Outcome := .next (s.reqWrite r (partIdx part 0x180) 0x01 v)
/-- STRAIT_ENABLE_WRITE (R362). -/
def execStraitEnableWrite (r : Req) (v : Nat) (s : State) : Outcome := .next (s.reqWrite r 0x4000 0x03 v)
/-- OFFER_REGION (R373). -/
def execOfferRegion (r : Req) (v : Nat) (s : State) : Outcome := .next (s.reqWrite r 0x4000 0x09 v)
/-- WITHDRAW_OFFER (R373). -/
def execWithdrawOffer (r : Req) (v : Nat) (s : State) : Outcome := .next (s.reqWrite r 0x4000 0x0A v)
/-- FETCH_APPLY (R374). -/
def execFetchApply (r : Req) (v : Nat) (s : State) : Outcome := .next (s.reqWrite r 0x4000 0x0D v)
/-- CARTRIDGE_RELEASE (R394). -/
def execCartridgeRelease (r : Req) (e v : Nat) (s : State) : Outcome := .next (s.reqWrite r (cartIdx e) 0x0C v)
/-- DRIVE_SETPOINT_WRITE (R388). -/
def execDriveSetpointWrite (r : Req) (e v : Nat) (s : State) : Outcome := .next (s.reqWrite r (cartIdx e) 0x0B v)
/-- ALLOW_UNAUTH_WRITE (R384). -/
def execAllowUnauthWrite (r : Req) (v : Nat) (s : State) : Outcome := .next (s.reqWrite r 0x4100 0x01 v)
/-- TRIP_CLEAR (R407). -/
def execTripClear (r : Req) (v : Nat) (s : State) : Outcome := .next (s.reqWrite r 0x1400 0x0F v)
/-- ISLE_RESTORE (R424). -/
def execIsleRestore (r : Req) (v : Nat) (s : State) : Outcome := .next (s.reqWrite r 0x1500 0x05 v)
/-- RECOVER_RESUME (R428). -/
def execRecoverResume (r : Req) (part v : Nat) (s : State) : Outcome := .next (s.reqWrite r (partIdx part 0x2C0) 0x04 v)
/-- DUMP_CLEAR (R445). -/
def execDumpClear (r : Req) (v : Nat) (s : State) : Outcome := .next (s.reqWrite r 0x1630 0x05 v)
/-- HANG_RELEASE (R448). -/
def execHangRelease (r : Req) (v : Nat) (s : State) : Outcome := .next (s.reqWrite r 0x1630 0x06 v)
/-- INSPECT_OPEN (R449). -/
def execInspectOpen (r : Req) (s : State) : Outcome := .next (s.request r (.blobOpen 0x1630 0x09 1 0))
/-- TRACE_READ_OPEN (R443). -/
def execTraceReadOpen (r : Req) (ext : Bool) (s : State) : Outcome := .next (s.request r (.blobOpen 0x1620 (if ext then 8 else 7) 1 0))

end Sys2Proof.Machine
end

