-- ==== Sys2Proof/Machine/Ingress.lean ====
section
/-! DEFINITION. Frames that arrive at a port, with in-band Cuhild (R74, R75, R158), and flits that arrive on a strait, with the packets
they carry (R363 to R367, R370, R372). -/
namespace Sys2Proof.Machine

/-! ## Frames (R75, R158) -/

/-- The tag, the offset of the EtherType and the EtherType of a frame with at most one 802.1Q tag (R74). -/
def inbandHead (b : Bytes) : Nat × Nat × Nat :=
  if beAt b 12 2 = 0x8100 then (65536 + beAt b 14 2, 16, beAt b 16 2) else (0, 12, beAt b 12 2)
/-- The port accepts in-band Cuhild. -/
def State.inbandPort (s : State) (q : Nat) : Bool := if q < 32 then s.objBit Obj.cuhildInbandHost q else s.objBit Obj.cuhildInbandLine (q - 32)
/-- Brolum consumes the frame (R75). -/
def State.consumes (s : State) (f : FrameIn) : Bool :=
  s.inbandPort f.port && (inbandHead f.bytes).2.2 == s.obj Obj.cuhildInbandEthertype && beAt f.bytes 0 6 == s.dev.mac % 2 ^ 48 && f.fcsOk && !f.fecBad
/-- The message of a consumed frame, without the padding to the Ethernet minimum. -/
def inbandMsg (b : Bytes) : Bytes :=
  let m := b.drop ((inbandHead b).2.1 + 2)
  if b.length = 60 then m.take (16 + beAt m 6 2) else m
/-- A frame arrives (R75, R158): consumed, or it crosses. -/
def State.frameIn (s : State) (f : FrameIn) : State :=
  if !s.portTakes f.port then s
  else
    let r := s.portIn f
    if !r.2 then r.1
    else if r.1.consumes f then
      (r.1.ctr Obj.ctrInbandConsumed).submit (.inband f.port (beAt f.bytes 6 6) (inbandHead f.bytes).1) (inbandMsg f.bytes)
    else r.1.pipe f

/-! ## Flits (R363 to R367) -/

/-- The packet types of R364 by channel. -/
def typeKnown (ch ty : Nat) : Bool :=
  match ch with
  | 0 => (decide (1 ≤ ty) && decide (ty ≤ 8)) || ty == 0x22
  | 1 => ty == 0x10 || ty == 0x11
  | 2 => ty == 0x20 || ty == 0x21
  | _ => false
/-- Entries of a heartbeat (R371). -/
def beatEntries (b : Bytes) : List (Nat × Nat) := (List.range 64).map (fun d => (byteAt b (8 + 4 * d), beAt b (10 + 4 * d) 2))
/-- A whole packet for this device is acted on (R364). -/
def State.packetIn (s : State) (i : Nat) (p : SPkt) : State :=
  let b := p.data
  match p.ty with
  | 0x01 => s.straitMsg p.src (b.drop 2)
  | 0x02 => s.heartbeatIn i (byteAt b 0) (beAt b 4 4) (beatEntries b)
  | 0x03 => s.admitRequest p.src (beAt b 0 4) (byteAt b 4) (beAt b 8 8) (byteAt b 5) (b.drop 16)
  | 0x04 => s.admitReply p.src (byteAt b 0)
  | 0x05 => s.registryIn p.src ((List.range (byteAt b 0)).map (fun k => slice b (4 + 64 * k) 64))
  | 0x06 => s.creditIn p.src (byteAt b 0) (beAt b 2 2)
  | 0x07 => if byteAt b 4 = 1 then s.lockRelease p.src (byteAt b 0) else s.lockRequest p.src (byteAt b 0)
  | 0x08 => s.lockReply p.src (byteAt b 0) (beAt b 2 2) (byteAt b 4)
  | 0x10 => s.remoteWork p.src b
  | 0x11 => s.remoteResult p.src b
  | 0x20 => (s.fetchSegment p.src (beAt b 0 2) (beAt b 4 8) (b.drop 12)).streamSegment p.src (beAt b 0 2) (beAt b 4 8) (b.drop 12)
  | 0x21 => s.streamSegment p.src (beAt b 0 2) (beAt b 4 8) (b.drop 12)
  | 0x22 => s.segRequest p.src (byteAt b 0) (beAt b 2 2) (beAt b 4 8) (beAt b 12 4)
  | _ => s
/-- A whole packet that is for another device (R370, R372): forwarded between members, admission packets towards any device. -/
def State.passOn (s : State) (p : SPkt) : State :=
  if p.hops = 0 then s.ctr Obj.ctrMolurHopExpired
  else if p.ty = 3 ∨ p.ty = 4 ∨ (s.member p.src ∧ s.member p.dst) then s.forward { p with hops := p.hops - 1 }
  else s
/-- An accepted flit joins the packet in reassembly; its buffer space is freed for the peer (R363, R367). -/
def State.flitTake (s : State) (i b0 : Nat) (p : SPkt) : State :=
  let v := s.strait i
  let whole : Option SPkt := if bit b0 1 then some p else v.part.map (fun q => { q with data := q.data ++ p.data })
  let done := bit b0 0
  let v := { v with rx := (v.rx + 1) % 65536, nak := false, free := setAt v.free p.ch (v.free.getD p.ch 0 + 1), part := if done then none else whole }
  let s := s.setStrait i v
  match done, whole with
  | true, some q => if q.dst = s.self then s.packetIn i q else s.passOn q
  | _, _ => s
/-- A received flit (R363 to R365): one that does not check, or of an unknown version, kind or type, is discarded and counted; one out of
order or with a wrong CRC also brings a nak. -/
def State.flitIn (s : State) (i : Nat) (raw : Bytes) : State :=
  let f := padTo 256 raw
  let b0 := byteAt f 0
  let ch := bits b0 3 2
  let kind := byteAt f 3 / 16
  let ty := byteAt f 12
  let n := beAt f 10 2
  if !(s.straitIn i 2 || s.straitIn i 3) then s
  else if crc32c (f.take 252) ≠ beAt f 252 4 then s.flitNak i
  else if b0 / 16 ≠ 1 ∨ 236 < n then s.flitBad i
  else if ch = 3 then (if 4 ≤ kind then s.flitBad i else s.linkIn i kind f)
  else if !s.straitIn i 3 then s
  else if beAt f 4 2 ≠ (s.strait i).rx then s.flitNak i
  else if kind ≠ 0 ∨ !typeKnown ch ty then s.flitBad i
  else
    let s := s.acked i (beAt f 6 2) (beAt f 8 2)
    s.flitTake i b0 { ch := ch, dst := byteAt f 1 % 64, src := byteAt f 2 % 64, hops := byteAt f 3 % 16, ty := ty, data := slice f 16 n }

/-! ## Commands -/

/-- FRAME_INGRESS (R75, R158). -/
def execFrameIngress (f : FrameIn) (s : State) : Outcome := .next (s.frameIn f)
/-- FLIT_RECEIVE (R365). -/
def execFlitReceive (strait : Nat) (flit : Bytes) (s : State) : Outcome := .next (s.flitIn strait flit)

end Sys2Proof.Machine
end

