-- ==== Sys2Proof/Machine/IsleScalar.lean ====
section
/-! DEFINITION. The scalar slot of a compute core (R258, R259, R261, R264, R265, R275): arithmetic, branches, core store
loads and stores, XMOV, QBAR, OPSET, DONE, WAIT. The opcodes of class 0 and of these class 1 instructions are not in the
spec, so the command's operands are decoded already (notes/assumptions/8.md). -/
namespace Sys2Proof.Machine

/-- A class 1 word that is none of TCFG, TREL and CSLD. -/
def isClass1 (w : Nat) : Bool := bits w 30 28 == 1 && bits w 27 22 != 0x20 && bits w 27 22 != 0x21 && bits w 27 22 != 0x22

/-- SCALAR_OP (R275, R264): Xd takes the word's result on its operands. -/
def scalarOpWord (core : Nat) (w : W32) (xd : Nat) (xa : Nat) (xb : Nat) (xc : Nat) (s : State) : IRes :=
  let k := s.core core
  k.useX [xa, xb, xc] (
  let r := Config.scalarResult w (BitVec.ofNat 64 (k.xr xa)) (BitVec.ofNat 64 (k.xr xb)) (BitVec.ofNat 64 (k.xr xc))
  .ok (s.setCore core (k.setX xd r.toNat false)))

/-- BRANCH (R261): a taken branch takes effect after its bundle. -/
def branchWord (core : Nat) (w : W32) (xa : Nat) (xb : Nat) (target : Nat) (s : State) : IRes :=
  let k := s.core core
  k.useX [xa, xb] (
  if Config.branchTaken w (BitVec.ofNat 64 (k.xr xa)) (BitVec.ofNat 64 (k.xr xb)) then
    .ok (s.setCore core { k with branch := some (target % 2 ^ 22) })
  else .ok s)

/-- SCALAR_LOAD_STORE (R265, R275): eight bytes between Xx and the core store; a word found uncorrectable delivers the
register with poison set (R416). -/
def scalarLoadStoreWord (core : Nat) (store : Bool) (x : Nat) (off : Nat) (eccBad : Bool) (s : State) : IRes :=
  let k := s.core core
  if store then
    need (storeOk off 8) { code := 0x09, off := off } (k.useX [x] (.ok (s.memWrite (coreStore core + off) (le 8 (k.xr x)))))
  else
    need (storeOk off 8) { code := 0x09, off := off } (
    let s := s.when eccBad (·.storeEcc core (coreStore core + off))
    .ok (s.setCore core (k.setX x (s.memLE (coreStore core + off) 8) eccBad)))

/-- Address of the other end of an XMOV and whether its range may be addressed (R259, R265). -/
def xmovPeer (core : Nat) (peer : XPeer) (off len : Nat) : Nat × Bool :=
  match peer with
  | .sram => (isleSram (core / 32) + off, decide (off + len ≤ 0x1000000))
  | .core c => (coreStore (core / 32 * 32 + c) + off, decide (c < 32) && storeOk off len)

/-- XMOV (R259): bytes between the core's store and the isle shared SRAM or another core's store of the isle. -/
def xmovWord (core : Nat) (toPeer : Bool) (peer : XPeer) (off : Nat) (peerOff : Nat) (len : Nat) (eccBad : Bool) (s : State) : IRes :=
  let own := coreStore core + off
  let p := xmovPeer core peer peerOff len
  need (storeOk off len && p.2) { code := 0x09, off := off } (
  let src := if toPeer then own else p.1
  let s := s.when eccBad (·.storeEcc core src)
  .ok (s.memWrite (if toPeer then p.1 else own) (s.memRead src len)))

/-- QBAR (R259): the core waits until every core in its mask has reached the same barrier. -/
def qbarWord (core : Nat) (barrier : Nat) (mask : Nat) (s : State) : IRes :=
  let k := s.core core
  .ok (s.setCore core { k with barrier := some (barrier, mask % 2 ^ 32) })

/-- OPSET (R258): both identifiers replaced. -/
def opsetWord (core : Nat) (layer : Nat) (oper : Nat) (s : State) : IRes :=
  let k := s.core core
  .ok (s.setCore core { k with ident := layer % 2 ^ 16 * 2 ^ 16 + oper % 2 ^ 16 })

/-- DONE (R258): X3 is the completion status; the command ends and the port's next one starts. -/
def doneWord (core : Nat) (s : State) : IRes :=
  let k := s.core core
  k.useX [3] (.ok ((((s.setCore core { k with status := k.xr 3 })).ctr Obj.ctrCommands).opCount core
    (fun e => { e with cmds := (e.cmds + 1) % 2 ^ 64 })))

/-- WAIT (R275): holds the core's issue; in the model it ends at once. -/
def waitWord (s : State) : IRes :=
  .ok s

end Sys2Proof.Machine
end

