-- ==== Sys2Proof/Machine/IsleVector.lean ====
section
/-! DEFINITION. The vector slot's class 2 instructions (R264, R265, R271, R275, R322 to R324): arithmetic, VLD, VST, VTL,
VTS and VSIDE. Their opcodes are not in the spec, so the command's operands are decoded already
(notes/assumptions/8.md). -/
namespace Sys2Proof.Machine

/-- A class 2 word. -/
def isClass2 (w : Nat) : Bool := bits w 30 28 == 2

/-- One lane of a floating-point operation, its values in FP32: rounded to nearest, ties to even, in the lane's own format (R275). -/
def floatLane (op : VFloat) (half : Bool) (a b c : Nat) : Nat :=
  match op with
  | .add => fFma half a 0x3F800000 b
  | .sub => fFma half a 0x3F800000 (if fNaN b then b else fNegate b)
  | .mul => fFma half a b 0x80000000
  | .fma => fFma half a b c
  | .round => bfWiden (bfRound a)
/-- A floating-point operation on 512-bit registers: 32 BF16 lanes or 16 FP32 lanes (R264, R275). -/
def floatLanes (op : VFloat) (half : Bool) (a b c : Nat) : Nat :=
  if half then packBits 16 ((List.range 32).map (fun j =>
    floatLane op true (bfWiden (elem16 a j)) (bfWiden (elem16 b j)) (bfWiden (elem16 c j)) / 2 ^ 16))
  else packBits 32 ((List.range 16).map (fun j => floatLane op false (elem32 a j) (elem32 b j) (elem32 c j)))

/-- VECTOR_OP (R275): Vd takes the word's result on its operands; a floating-point one is rounded and never faults. -/
def vectorOpWord (core : Nat) (w : W32) (vd : Nat) (va : Nat) (vb : Nat) (vc : Nat) (s : State) : IRes :=
  let k := s.core core
  k.useV [va, vb, vc] (
  let r := match Config.vectorFloat w with
    | some (op, half) => floatLanes op half (k.vr va) (k.vr vb) (k.vr vc)
    | none => (Config.vectorResult w (BitVec.ofNat 512 (k.vr va)) (BitVec.ofNat 512 (k.vr vb)) (BitVec.ofNat 512 (k.vr vc))).toNat
  .ok (s.setCore core (k.setV vd r false)))

/-- VLD (R265, R275, R416): 64 bytes of the core store. -/
def vldWord (core : Nat) (v : Nat) (off : Nat) (eccBad : Bool) (s : State) : IRes :=
  let k := s.core core
  need (storeOk off 64) { code := 0x09, off := off } (
  let s := s.when eccBad (·.storeEcc core (coreStore core + off))
  .ok (s.setCore core (k.setV v (s.memLE (coreStore core + off) 64) eccBad)))

/-- VST (R265, R275). -/
def vstWord (core : Nat) (v : Nat) (off : Nat) (s : State) : IRes :=
  let k := s.core core
  need (storeOk off 64) { code := 0x09, off := off } (k.useV [v] (.ok (s.memWrite (coreStore core + off) (le 64 (k.vr v)))))

/-- VTL (R271, R275): a tile row into a vector register. -/
def vtlWord (core : Nat) (v : Nat) (tile : Nat) (row : Nat) (s : State) : IRes :=
  let k := s.core core
  waitIf (k.dstBusy tile row 1) (
  need (k.filled tile row 1) { code := 0x06, tile := tile, row := row } (
  need (k.clean tile row 1) { code := 0x0E, tile := tile, row := row } (
  .ok (s.setCore core (k.setV v (k.row tile row) false)))))

/-- VTS (R271, R275): a vector register into a tile row; its tag is not stated (notes/assumptions/7.md). -/
def vtsWord (core : Nat) (tile : Nat) (row : Nat) (v : Nat) (s : State) : IRes :=
  let k := s.core core
  waitIf (k.writeWait tile row 1) (
  need (k.writable tile row 1) { code := 0x08, tile := tile, row := row } (
  k.useV [v] (
  let t := s.freeTag
  .ok (t.2.setCore core (k.putRow tile row (k.vr v) t.1)))))

/-- Entry e of a side row (R322): element index and BF16 value. -/
def sideEntry (row e : Nat) : Nat × Nat := (row / 2 ^ (8 * (4 + 4 * e)) % 64, row / 2 ^ (8 * (6 + 4 * e)) % 2 ^ 16)
/-- Escape count of a side row. -/
def sideCount (row : Nat) : Nat := row % 256
/-- The quotient of an entry's value by the row scale as an integer, and whether it saturates (R324, R332). -/
def sideQuot (v scale : Nat) : Int × Bool :=
  let c := fToInt (fDiv (bfWiden v) (bfWiden scale))
  (max (-8388607) (min 8388607 c), decide (8388607 < c.natAbs))
/-- Address of the 64 weights of element i for array position q in an escape copy (R323). -/
def escapeRow (base q i : Nat) : Nat := base + 0x1000 * q + 64 * i

/-- VSIDE (R324): each entry adds its quotient times the escape copy's weights to the D sums. -/
def vsideWord (core : Nat) (ts : Nat) (srow : Nat) (td : Nat) (drow : Nat) (width : Nat) (xbase : Nat) (s : State) : IRes :=
  let k := s.core core
  let rows := width / 16
  k.useX [xbase] (
  waitIf (k.dstBusy ts srow 1 || k.writeWait td drow rows) (
  need (k.role ts == 5 && k.role td == 3 && (width == 64 || width == 256)) { code := 0x07, tile := ts } (
  need (k.filled ts srow 1) { code := 0x06, tile := ts, row := srow } (
  need (k.filled td drow rows) { code := 0x06, tile := td, row := drow } (
  need (k.clean ts srow 1) { code := 0x0E, tile := ts, row := srow } (
  need (k.clean td drow rows) { code := 0x0E, tile := td, row := drow } (
  let side := k.row ts srow
  let n := sideCount side
  let scale := side / 2 ^ 16 % 2 ^ 16
  let base := k.xr xbase % 2 ^ 22
  let es := (List.range n).map (sideEntry side)
  need (decide (n ≤ 4)) { code := 0x07, tile := ts, row := srow } (
  need ((List.range (width / 64)).all (fun q => es.all (fun e => storeOk (escapeRow base q e.1) 64))) { code := 0x09, off := base } (
  need (bfFinite scale && es.all (fun e => bfFinite e.2)) { code := 0x0D, tile := ts, row := srow } (
  -- 0 over a scale of 0 has no stated quotient: a free value within its range (DESIGN CHOICE, notes/assumptions/136.md)
  let open_ := fun (e : Nat × Nat) => fNaN (fDiv (bfWiden e.2) (bfWiden scale))
  let cs := es.zipIdx.map (fun (e : (Nat × Nat) × Nat) =>
    (e.1.1, if open_ e.1 then (max (-8388607) (toSigned 24 (Config.freeNat (s.free + e.2) % 2 ^ 24)), false) else sideQuot e.1.2 scale))
  let s := s.when (es.any open_) (fun s => { s with free := s.free + es.length })
  let add (j : Nat) : Int := cs.foldl (fun a c =>
    a + c.2.1 * toSigned 8 (s.memLE (coreStore core + escapeRow base (j / 64) c.1 + j % 64) 1)) 0
  let k' := (List.range rows).foldl (fun k i =>
    let old := k.row td (drow + i)
    k.putRow td (drow + i) (packBits 32 ((List.range 16).map (fun j => ofSigned 32 (toSigned 32 (elem32 old j) + add (16 * i + j)))))
      (k.tag td (drow + i))) k
  .ok ((s.setCore core k').addCtr Obj.ctrEscapeSaturated (cs.countP (·.2.2)))))))))))))

end Sys2Proof.Machine
end

