-- ==== Sys2Proof/Machine/IsleIssue.lean ====
section
/-! DEFINITION. Issue (R260 to R263, R287): a bundle's words wait until it is whole; then they issue together or wait together, in program
order, and of several faults the lowest code is recorded. The commands of the isle's instructions bring one word each. -/
namespace Sys2Proof.Machine

/-- What the instruction of a word does when its bundle issues. -/
def State.effect (s : State) : Instr → IRes
  | .scalarOp core w xd xa xb xc => scalarOpWord core w xd xa xb xc s
  | .branch core w xa xb target => branchWord core w xa xb target s
  | .scalarLoadStore core _ store x off eccBad => scalarLoadStoreWord core store x off eccBad s
  | .xmov core _ toPeer peer off peerOff len eccBad => xmovWord core toPeer peer off peerOff len eccBad s
  | .qbar core _ barrier mask => qbarWord core barrier mask s
  | .opset core _ layer oper => opsetWord core layer oper s
  | .done core _ => doneWord core s
  | .wait _ _ => waitWord s
  | .vectorOp core w vd va vb vc => vectorOpWord core w vd va vb vc s
  | .vld core _ v off eccBad => vldWord core v off eccBad s
  | .vst core _ v off => vstWord core v off s
  | .vtl core _ v tile row => vtlWord core v tile row s
  | .vts core _ tile row v => vtsWord core tile row v s
  | .vside core _ ts srow td drow width xbase => vsideWord core ts srow td drow width xbase s
  | .tcfg core w => tcfgWord core w s
  | .trel core w => trelWord core w s
  | .csld core w => csldWord core w s
  | .tld core w eccRows => tldWord core w eccRows s
  | .tldCvExpand core w eccRows => tldCvExpandWord core w eccRows s
  | .tldCvWiden core w eccRows => tldCvWidenWord core w eccRows s
  | .tldCvQuantise core w eccRows => tldCvQuantiseWord core w eccRows s
  | .tst core w => tstWord core w s
  | .acfg core w => acfgWord core w s
  | .wld core w => wldWord core w s
  | .astr core w => astrWord core w s
  | .astrT core w => astrTWord core w s
  | .aew core w => aewWord core w s
  | .rq core w => rqWord core w s
  | .rstat core w => rstatWord core w s
  | _ => .ok s

/-- The words of a bundle in program order (R261, R287): the state that those without a fault leave, the faults with their words, and the wait that
holds the whole bundle, if any. That a word sees what earlier words of its bundle write is DEDUCED (R262; notes/assumptions/134.md). -/
def State.runBundle (s : State) (ws : List (Nat × Nat × Instr)) : State × List (CFault × Nat) × Option Bool :=
  ws.foldl (fun a x => match a.2.2 with
    | some _ => a
    | none => match a.1.effect x.2.2 with
      | .ok t => (t, a.2.1, none)
      | .fault f => (a.1, a.2.1 ++ [(f, x.2.1)], none)
      | .wait d => (a.1, a.2.1, some d)) (s, [], none)
/-- Of faults that arise in one core cycle the lowest code, the first of its words (R287). -/
def lowestFault (fs : List (CFault × Nat)) : Option (CFault × Nat) :=
  fs.foldl (fun m f => match m with | some x => if f.1.code < x.1.code then some f else some x | none => some f) none

/-- The cores of isle n that wait at barrier b. -/
def State.atBarrier (s : State) (n b : Nat) : List Nat :=
  ((List.range 32).map (32 * n + ·)).filter (fun c => match (s.core c).barrier with | some (b', _) => b' == b | none => false)
/-- Release the cores of isle n whose masks are wholly at barrier b (R259); one that is to be pre-empted saves its context then (R285). -/
def State.releaseBarrier (s : State) (n b : Nat) : State :=
  let here := s.atBarrier n b
  let go := here.filter (fun c => match (s.core c).barrier with
    | some (_, m) => (bitsOf 32 m).all (fun i => here.contains (32 * n + i))
    | none => false)
  s.each go (fun s c => (s.setCore c { s.core c with barrier := none }).trySave c)
/-- What follows the issue of a bundle that holds an instruction: a command's end (R258), a barrier's release (R259). -/
def State.afterWord (c : Nat) (s : State) : Instr → State
  | .done _ _ => s.endCmd c
  | .qbar _ _ b _ => s.releaseBarrier (c / 32) b
  | _ => s

/-- Issue a whole bundle (R261): while one of its words waits nothing of it takes effect, and a cycle of a wait on a dependency is counted
(R436). -/
def State.issueBundle (s : State) (c : Nat) (ws : List (Nat × Nat × Instr)) : State :=
  let r := s.runBundle ws
  match r.2.2 with
  | some dep => s.when dep (·.opCount c (fun e => { e with waits := (e.waits + 1) % 2 ^ 64 }))
  | none => match lowestFault r.2.1 with
    | some (f, w) => r.1.coreFault c f w (s.core c).pc
    | none => (ws.map (·.2.2)).foldl (State.afterWord c) (r.1.advance c ws.length)

/-- A word reaches a core's issue in a slot (0 scalar, 1 vector, 2 array-stream; R260). `ok` says that the word is the instruction of its row
(another instruction's word leaves the state as it is), `fields` that its reserved bits are 0 (R275). A reserved word, and a bundle with two
words for one slot, are illegal, and nothing of the bundle takes effect; the bundle's last word issues it. -/
def State.issue (s : State) (c w slot : Nat) (ok fields : Bool) (i : Instr) : State :=
  let k := s.core c
  if !s.coreReady c then s
  else if reservedWord w then s.coreFault c { code := 0x01 } w k.pc
  else if !ok then s
  else if k.bundle.any (fun x => x.1 == slot) || !fields then s.coreFault c { code := 0x01 } w k.pc
  else if bit w 31 then s.issueBundle c (k.bundle ++ [(slot, w, i)])
  else s.setCore c { k with bundle := k.bundle ++ [(slot, w, i)] }

/-! ## The words' commands -/

/-- SCALAR_OP (R275, R264): its word joins the bundle. -/
def execScalarOp (core : Nat) (w : W32) (xd xa xb xc : Nat) (s : State) : Outcome :=
  .next (s.issue core w.toNat 0 (bits w.toNat 30 28 == 0 && [xd, xa, xb, xc].all (· < 32)) true (.scalarOp core w xd xa xb xc))
/-- BRANCH (R261): its word joins the bundle. -/
def execBranch (core : Nat) (w : W32) (xa xb target : Nat) (s : State) : Outcome :=
  .next (s.issue core w.toNat 0 (isClass1 w.toNat && [xa, xb].all (· < 32)) true (.branch core w xa xb target))
/-- SCALAR_LOAD_STORE (R265, R275): its word joins the bundle. -/
def execScalarLoadStore (core : Nat) (w : W32) (store : Bool) (x off : Nat) (eccBad : Bool) (s : State) : Outcome :=
  .next (s.issue core w.toNat 0 (isClass1 w.toNat && decide (x < 32)) true (.scalarLoadStore core w store x off eccBad))
/-- XMOV (R259): its word joins the bundle. -/
def execXmov (core : Nat) (w : W32) (toPeer : Bool) (peer : XPeer) (off peerOff len : Nat) (eccBad : Bool) (s : State) : Outcome :=
  .next (s.issue core w.toNat 0 (isClass1 w.toNat) true (.xmov core w toPeer peer off peerOff len eccBad))
/-- QBAR (R259): its word joins the bundle. -/
def execQbar (core : Nat) (w : W32) (barrier mask : Nat) (s : State) : Outcome :=
  .next (s.issue core w.toNat 0 (isClass1 w.toNat) true (.qbar core w barrier mask))
/-- OPSET (R258): its word joins the bundle. -/
def execOpset (core : Nat) (w : W32) (layer oper : Nat) (s : State) : Outcome :=
  .next (s.issue core w.toNat 0 (isClass1 w.toNat) true (.opset core w layer oper))
/-- DONE (R258): its word joins the bundle. -/
def execDone (core : Nat) (w : W32) (s : State) : Outcome :=
  .next (s.issue core w.toNat 0 (isClass1 w.toNat) true (.done core w))
/-- WAIT (R275): its word joins the bundle. -/
def execWait (core : Nat) (w : W32) (s : State) : Outcome :=
  .next (s.issue core w.toNat 0 (isClass1 w.toNat) true (.wait core w))
/-- VECTOR_OP (R275): its word joins the bundle. -/
def execVectorOp (core : Nat) (w : W32) (vd va vb vc : Nat) (s : State) : Outcome :=
  .next (s.issue core w.toNat 1 (isClass2 w.toNat && [vd, va, vb, vc].all (· < 32)) true (.vectorOp core w vd va vb vc))
/-- VLD (R265, R275, R416): its word joins the bundle. -/
def execVld (core : Nat) (w : W32) (v off : Nat) (eccBad : Bool) (s : State) : Outcome :=
  .next (s.issue core w.toNat 1 (isClass2 w.toNat && decide (v < 32)) true (.vld core w v off eccBad))
/-- VST (R265, R275): its word joins the bundle. -/
def execVst (core : Nat) (w : W32) (v off : Nat) (s : State) : Outcome :=
  .next (s.issue core w.toNat 1 (isClass2 w.toNat && decide (v < 32)) true (.vst core w v off))
/-- VTL (R271, R275): its word joins the bundle. -/
def execVtl (core : Nat) (w : W32) (v tile row : Nat) (s : State) : Outcome :=
  .next (s.issue core w.toNat 1 (isClass2 w.toNat && decide (v < 32) && decide (tile < 8)) true (.vtl core w v tile row))
/-- VTS (R271, R275): its word joins the bundle. -/
def execVts (core : Nat) (w : W32) (tile row v : Nat) (s : State) : Outcome :=
  .next (s.issue core w.toNat 1 (isClass2 w.toNat && decide (v < 32) && decide (tile < 8)) true (.vts core w tile row v))
/-- VSIDE (R324): its word joins the bundle. -/
def execVside (core : Nat) (w : W32) (ts srow td drow width xbase : Nat) (s : State) : Outcome :=
  .next (s.issue core w.toNat 1 (isClass2 w.toNat && decide (ts < 8) && decide (td < 8) && decide (xbase < 32)) true (.vside core w ts srow td drow width xbase))
/-- TCFG (R268, R269): its word joins the bundle. -/
def execTcfg (core : Nat) (w : W32) (s : State) : Outcome :=
  let n := w.toNat
  .next (s.issue core n 0 (isWord n 1 0x20) (bits n 11 0 == 0) (.tcfg core w))
/-- TREL (R272): its word joins the bundle. -/
def execTrel (core : Nat) (w : W32) (s : State) : Outcome :=
  let n := w.toNat
  .next (s.issue core n 0 (isWord n 1 0x21) (bits n 13 0 == 0) (.trel core w))
/-- CSLD (R274): its word joins the bundle. -/
def execCsld (core : Nat) (w : W32) (s : State) : Outcome :=
  let n := w.toNat
  .next (s.issue core n 0 (isWord n 1 0x22) (!bit n 0) (.csld core w))
/-- TLD without conversion (R277): its word joins the bundle. -/
def execTld (core : Nat) (w : W32) (eccRows : List Nat) (s : State) : Outcome :=
  let n := w.toNat
  .next (s.issue core n 2 (isWord n 3 0 && bits n 6 5 == 0) (!bit n 0) (.tld core w eccRows))
/-- TLD.CV expand (R277): its word joins the bundle. -/
def execTldCvExpand (core : Nat) (w : W32) (eccRows : List Nat) (s : State) : Outcome :=
  let n := w.toNat
  .next (s.issue core n 2 (isWord n 3 0 && bits n 6 5 == 1) (!bit n 0) (.tldCvExpand core w eccRows))
/-- TLD.CV widen (R277): its word joins the bundle. -/
def execTldCvWiden (core : Nat) (w : W32) (eccRows : List Nat) (s : State) : Outcome :=
  let n := w.toNat
  .next (s.issue core n 2 (isWord n 3 0 && bits n 6 5 == 3) (!bit n 0) (.tldCvWiden core w eccRows))
/-- TLD.CV quantise (R277, R279, R319 to R322): its word joins the bundle. -/
def execTldCvQuantise (core : Nat) (w : W32) (eccRows : List Nat) (s : State) : Outcome :=
  let n := w.toNat
  let xa := bits n 18 14
  .next (s.issue core n 2 (isWord n 3 0 && bits n 6 5 == 2) (!bit n 0 && xa != 31) (.tldCvQuantise core w eccRows))
/-- TST (R277, R278): its word joins the bundle. -/
def execTst (core : Nat) (w : W32) (s : State) : Outcome :=
  let n := w.toNat
  .next (s.issue core n 2 (isWord n 3 1) (bits n 6 5 == 0 && bits n 3 0 == 0) (.tst core w))
/-- ACFG (R280): its word joins the bundle. -/
def execAcfg (core : Nat) (w : W32) (s : State) : Outcome :=
  let n := w.toNat
  let mode := bits n 21 19
  .next (s.issue core n 2 (isWord n 4 0) (bits n 18 0 == 0 && decide (mode ≤ 3)) (.acfg core w))
/-- WLD (R281, R294, R295): its word joins the bundle. -/
def execWld (core : Nat) (w : W32) (s : State) : Outcome :=
  let n := w.toNat
  .next (s.issue core n 2 (isWord n 4 1) (bits n 7 0 == 0) (.wld core w))
/-- ASTR (R282, R296): its word joins the bundle. -/
def execAstr (core : Nat) (w : W32) (s : State) : Outcome :=
  .next (s.issue core w.toNat 2 (isWord w.toNat 4 2) (bits w.toNat 2 0 == 0) (.astr core w))
/-- ASTR.T (R302): its word joins the bundle. -/
def execAstrT (core : Nat) (w : W32) (s : State) : Outcome :=
  .next (s.issue core w.toNat 2 (isWord w.toNat 4 3) (bits w.toNat 2 0 == 0) (.astrT core w))
/-- AEW (R303): its word joins the bundle. -/
def execAew (core : Nat) (w : W32) (s : State) : Outcome :=
  .next (s.issue core w.toNat 2 (isWord w.toNat 4 4) (bits w.toNat 6 0 == 0) (.aew core w))
/-- RQ (R283, R318, R331): its word joins the bundle. -/
def execRq (core : Nat) (w : W32) (s : State) : Outcome :=
  let n := w.toNat
  .next (s.issue core n 1 (isWord n 5 0) (bits n 1 0 == 0) (.rq core w))
/-- RSTAT (R284): its word joins the bundle. -/
def execRstat (core : Nat) (w : W32) (s : State) : Outcome :=
  let n := w.toNat
  .next (s.issue core n 1 (isWord n 5 1) (bits n 8 0 == 0) (.rstat core w))

end Sys2Proof.Machine
end

