-- ==== Sys2Proof/Machine/Dispatch.lean ====
section
/-! DEFINITION. One arm for each command: a direct call of its meaning. -/
namespace Sys2Proof.Machine

/-- A command's effect on everything but the queue. -/
def exec (i : Instr) (s : State) : Host.Outcome State Fault Refusal :=
  match i with
  | .read r idx sub => Sys2Proof.Machine.execRead r idx sub s
  | .write r idx sub typ val => Sys2Proof.Machine.execWrite r idx sub typ val s
  | .readMulti r refs => Sys2Proof.Machine.execReadMulti r refs s
  | .blobOpen r idx sub mode len => Sys2Proof.Machine.execBlobOpen r idx sub mode len s
  | .blobSeg r handle count off data => Sys2Proof.Machine.execBlobSeg r handle count off data s
  | .blobClose r handle action crc => Sys2Proof.Machine.execBlobClose r handle action crc s
  | .claim r prio nonce => Sys2Proof.Machine.execClaim r prio nonce s
  | .claimWindowClose => Sys2Proof.Machine.execClaimWindowClose s
  | .yield r target => Sys2Proof.Machine.execYield r target s
  | .heartbeat r => Sys2Proof.Machine.execHeartbeat r s
  | .grant r part agent => Sys2Proof.Machine.execGrant r part agent s
  | .revoke r part => Sys2Proof.Machine.execRevoke r part s
  | .notify r mask => Sys2Proof.Machine.execNotify r mask s
  | .ownerLeaseExpiry => Sys2Proof.Machine.execOwnerLeaseExpiry s
  | .agentIdleExpiry agent => Sys2Proof.Machine.execAgentIdleExpiry agent s
  | .blobHandleTimeout handle => Sys2Proof.Machine.execBlobHandleTimeout handle s
  | .mailboxDoorbell fn producer slots => Sys2Proof.Machine.execMailboxDoorbell fn producer slots s
  | .mailboxResponseDeliver fn => Sys2Proof.Machine.execMailboxResponseDeliver fn s
  | .mmioRegisterWrite fn bar off val => Sys2Proof.Machine.execMmioRegisterWrite fn bar off val s
  | .configWindowGo msg => Sys2Proof.Machine.execConfigWindowGo msg s
  | .canFdFrame id classic data => Sys2Proof.Machine.execCanFdFrame id classic data s
  | .canReassemblyTimeout node => Sys2Proof.Machine.execCanReassemblyTimeout node s
  | .pcieFunctionReset fn => Sys2Proof.Machine.execPcieFunctionReset fn s
  | .porstNRelease conditionsMet => Sys2Proof.Machine.execPorstNRelease conditionsMet s
  | .porstNAssert => Sys2Proof.Machine.execPorstNAssert s
  | .aonLoss => Sys2Proof.Machine.execAonLoss s
  | .coreClockStart reason pllLocks => Sys2Proof.Machine.execCoreClockStart reason pllLocks s
  | .startInferenceWrite r v => Sys2Proof.Machine.execStartInferenceWrite r v s
  | .powerCoreHoldWrite r v => Sys2Proof.Machine.execPowerCoreHoldWrite r v s
  | .rxSignalDetect lane => Sys2Proof.Machine.execRxSignalDetect lane s
  | .pllLockRetry locks => Sys2Proof.Machine.execPllLockRetry locks s
  | .coreClockStop => Sys2Proof.Machine.execCoreClockStop s
  | .berthKeepWrite r v => Sys2Proof.Machine.execBerthKeepWrite r v s
  | .keptObjectRewrite => Sys2Proof.Machine.execKeptObjectRewrite s
  | .nonceFeedRead r => Sys2Proof.Machine.execNonceFeedRead r s
  | .attestReportOpen r => Sys2Proof.Machine.execAttestReportOpen r s
  | .updateProgrammingDone readBackOk => Sys2Proof.Machine.execUpdateProgrammingDone readBackOk s
  | .updRestartWrite r v => Sys2Proof.Machine.execUpdRestartWrite r v s
  | .restart => Sys2Proof.Machine.execRestart s
  | .ppsEdge offset => Sys2Proof.Machine.execPpsEdge offset s
  | .ppsLossTimeout => Sys2Proof.Machine.execPpsLossTimeout s
  | .timeSetWrite r v => Sys2Proof.Machine.execTimeSetWrite r v s
  | .timeSetTimeout => Sys2Proof.Machine.execTimeSetTimeout s
  | .napEntry core => Sys2Proof.Machine.execNapEntry core s
  | .dozeEntry quad => Sys2Proof.Machine.execDozeEntry quad s
  | .isleOffEntry isle => Sys2Proof.Machine.execIsleOffEntry isle s
  | .residencyEntryDone isle unit => Sys2Proof.Machine.execResidencyEntryDone isle unit s
  | .residencyWake quad => Sys2Proof.Machine.execResidencyWake quad s
  | .slotRearm part slot arm => Sys2Proof.Machine.execSlotRearm part slot arm s
  | .partQuadsWrite r part v => Sys2Proof.Machine.execPartQuadsWrite r part v s
  | .ownerDutyWrite r isle v => Sys2Proof.Machine.execOwnerDutyWrite r isle v s
  | .frameIngress f => Sys2Proof.Machine.execFrameIngress f s
  | .holdLimitExpiry pipe => Sys2Proof.Machine.execHoldLimitExpiry pipe s
  | .frameTransmit port bad fixed late => Sys2Proof.Machine.execFrameTransmit port bad fixed late s
  | .xoffInChange group level => Sys2Proof.Machine.execXoffInChange group level s
  | .meterApply r v => Sys2Proof.Machine.execMeterApply r v s
  | .linkLoss loss => Sys2Proof.Machine.execLinkLoss loss s
  | .linkUp port => Sys2Proof.Machine.execLinkUp port s
  | .holdDeadline port => Sys2Proof.Machine.execHoldDeadline port s
  | .dampEnd port => Sys2Proof.Machine.execDampEnd port s
  | .seriesClose port => Sys2Proof.Machine.execSeriesClose port s
  | .portEnableWrite r line v => Sys2Proof.Machine.execPortEnableWrite r line v s
  | .portModeWrite r line group v => Sys2Proof.Machine.execPortModeWrite r line group v s
  | .trainTimeout port => Sys2Proof.Machine.execTrainTimeout port s
  | .learnInsert => Sys2Proof.Machine.execLearnInsert s
  | .statsUpdate => Sys2Proof.Machine.execStatsUpdate s
  | .flowRingDoorbell fn ring bell => Sys2Proof.Machine.execFlowRingDoorbell fn ring bell s
  | .flowRingEnable fn ring v => Sys2Proof.Machine.execFlowRingEnable fn ring v s
  | .ringKeepAlive fn ring => Sys2Proof.Machine.execRingKeepAlive fn ring s
  | .readKey d => Sys2Proof.Machine.execReadKey d s
  | .readSlot d => Sys2Proof.Machine.execReadSlot d s
  | .scan d => Sys2Proof.Machine.execScan d s
  | .insert d => Sys2Proof.Machine.execInsert d s
  | .update d => Sys2Proof.Machine.execUpdate d s
  | .delete d => Sys2Proof.Machine.execDelete d s
  | .ageDelete d => Sys2Proof.Machine.execAgeDelete d s
  | .lock d => Sys2Proof.Machine.execLock d s
  | .unlock d => Sys2Proof.Machine.execUnlock d s
  | .trieWrite d => Sys2Proof.Machine.execTrieWrite d s
  | .trieRead d => Sys2Proof.Machine.execTrieRead d s
  | .lockLeaseExpiry tag => Sys2Proof.Machine.execLockLeaseExpiry tag s
  | .lockSweepDone tag => Sys2Proof.Machine.execLockSweepDone tag s
  | .shadowPass words => Sys2Proof.Machine.execShadowPass words s
  | .queuePush q epoch word poison => Sys2Proof.Machine.execQueuePush q epoch word poison s
  | .queueCommit q => Sys2Proof.Machine.execQueueCommit q s
  | .queuePop q bad fixed => Sys2Proof.Machine.execQueuePop q bad fixed s
  | .queueRewind q => Sys2Proof.Machine.execQueueRewind q s
  | .spillRefillLand land => Sys2Proof.Machine.execSpillRefillLand land s
  | .collectorRingDeliver q errs => Sys2Proof.Machine.execCollectorRingDeliver q errs s
  | .collectorFrameSend q errs => Sys2Proof.Machine.execCollectorFrameSend q errs s
  | .recordFetchComplete slot check => Sys2Proof.Machine.execRecordFetchComplete slot check s
  | .nodeFetchComplete req tree check => Sys2Proof.Machine.execNodeFetchComplete req tree check s
  | .tier1Result req => Sys2Proof.Machine.execTier1Result req s
  | .schedulerDispatch isle check err => Sys2Proof.Machine.execSchedulerDispatch isle check err s
  | .scalarOp core w xd xa xb xc => Sys2Proof.Machine.execScalarOp core w xd xa xb xc s
  | .branch core w xa xb target => Sys2Proof.Machine.execBranch core w xa xb target s
  | .scalarLoadStore core w store x off eccBad => Sys2Proof.Machine.execScalarLoadStore core w store x off eccBad s
  | .vectorOp core w vd va vb vc => Sys2Proof.Machine.execVectorOp core w vd va vb vc s
  | .vld core w v off eccBad => Sys2Proof.Machine.execVld core w v off eccBad s
  | .vst core w v off => Sys2Proof.Machine.execVst core w v off s
  | .vtl core w v tile row => Sys2Proof.Machine.execVtl core w v tile row s
  | .vts core w tile row v => Sys2Proof.Machine.execVts core w tile row v s
  | .vside core w ts srow td drow width xbase => Sys2Proof.Machine.execVside core w ts srow td drow width xbase s
  | .xmov core w toPeer peer off peerOff len eccBad => Sys2Proof.Machine.execXmov core w toPeer peer off peerOff len eccBad s
  | .qbar core w barrier mask => Sys2Proof.Machine.execQbar core w barrier mask s
  | .opset core w layer oper => Sys2Proof.Machine.execOpset core w layer oper s
  | .done core w => Sys2Proof.Machine.execDone core w s
  | .wait core w => Sys2Proof.Machine.execWait core w s
  | .tcfg core w => Sys2Proof.Machine.execTcfg core w s
  | .trel core w => Sys2Proof.Machine.execTrel core w s
  | .csld core w => Sys2Proof.Machine.execCsld core w s
  | .tld core w eccRows => Sys2Proof.Machine.execTld core w eccRows s
  | .tldCvExpand core w eccRows => Sys2Proof.Machine.execTldCvExpand core w eccRows s
  | .tldCvQuantise core w eccRows => Sys2Proof.Machine.execTldCvQuantise core w eccRows s
  | .tldCvWiden core w eccRows => Sys2Proof.Machine.execTldCvWiden core w eccRows s
  | .tst core w => Sys2Proof.Machine.execTst core w s
  | .acfg core w => Sys2Proof.Machine.execAcfg core w s
  | .wld core w => Sys2Proof.Machine.execWld core w s
  | .wldComplete core upsets => Sys2Proof.Machine.execWldComplete core upsets s
  | .astr core w => Sys2Proof.Machine.execAstr core w s
  | .astrT core w => Sys2Proof.Machine.execAstrT core w s
  | .aew core w => Sys2Proof.Machine.execAew core w s
  | .astrChunkCommit core mask upsets => Sys2Proof.Machine.execAstrChunkCommit core mask upsets s
  | .rq core w => Sys2Proof.Machine.execRq core w s
  | .rstat core w => Sys2Proof.Machine.execRstat core w s
  | .preemptRequest core => Sys2Proof.Machine.execPreemptRequest core s
  | .contextRestore core => Sys2Proof.Machine.execContextRestore core s
  | .coreReset core => Sys2Proof.Machine.execCoreReset core s
  | .qStatsClear r v => Sys2Proof.Machine.execQStatsClear r v s
  | .slotLoad r part slot v => Sys2Proof.Machine.execSlotLoad r part slot v s
  | .slotUnload r part slot v => Sys2Proof.Machine.execSlotUnload r part slot v s
  | .hbmApply r v => Sys2Proof.Machine.execHbmApply r v s
  | .bundleRingDoorbell fn bell => Sys2Proof.Machine.execBundleRingDoorbell fn bell s
  | .bundleHostToRegion d => Sys2Proof.Machine.execBundleHostToRegion d s
  | .bundleRegionToHost d => Sys2Proof.Machine.execBundleRegionToHost d s
  | .tier2Result isle part eccBad => Sys2Proof.Machine.execTier2Result isle part eccBad s
  | .t2Timeout req => Sys2Proof.Machine.execT2Timeout req s
  | .swap r part v => Sys2Proof.Machine.execSwap r part v s
  | .t1SlotWrite r part v => Sys2Proof.Machine.execT1SlotWrite r part v s
  | .drainComplete part => Sys2Proof.Machine.execDrainComplete part s
  | .gapArmDone part arm => Sys2Proof.Machine.execGapArmDone part arm s
  | .straitEnableWrite r v => Sys2Proof.Machine.execStraitEnableWrite r v s
  | .straitTrained strait => Sys2Proof.Machine.execStraitTrained strait s
  | .straitTrainTimeout strait => Sys2Proof.Machine.execStraitTrainTimeout strait s
  | .straitInitDone strait peer credits => Sys2Proof.Machine.execStraitInitDone strait peer credits s
  | .straitInitTimeout strait => Sys2Proof.Machine.execStraitInitTimeout strait s
  | .straitLinkLoss strait => Sys2Proof.Machine.execStraitLinkLoss strait s
  | .straitRetrain strait => Sys2Proof.Machine.execStraitRetrain strait s
  | .flitReceive strait flit => Sys2Proof.Machine.execFlitReceive strait flit s
  | .nakReceive strait seq => Sys2Proof.Machine.execNakReceive strait seq s
  | .replayTimeout strait => Sys2Proof.Machine.execReplayTimeout strait s
  | .ackIdleTimeout strait => Sys2Proof.Machine.execAckIdleTimeout strait s
  | .straitCuhildMessage src msg => Sys2Proof.Machine.execStraitCuhildMessage src msg s
  | .poolHeartbeat strait origin seq entries => Sys2Proof.Machine.execPoolHeartbeat strait origin seq entries s
  | .heartbeatPeriod => Sys2Proof.Machine.execHeartbeatPeriod s
  | .admissionRequest src poolId device serial compat record => Sys2Proof.Machine.execAdmissionRequest src poolId device serial compat record s
  | .admissionReply src outcome => Sys2Proof.Machine.execAdmissionReply src outcome s
  | .memberLost device => Sys2Proof.Machine.execMemberLost device s
  | .registryUpdate src entries => Sys2Proof.Machine.execRegistryUpdate src entries s
  | .workCredit src q records granted => Sys2Proof.Machine.execWorkCredit src q records granted s
  | .replicaLockRequest src entry => Sys2Proof.Machine.execReplicaLockRequest src entry s
  | .replicaLockReply src entry epoch status => Sys2Proof.Machine.execReplicaLockReply src entry epoch status s
  | .replicaLockVoid region => Sys2Proof.Machine.execReplicaLockVoid region s
  | .segmentRequest src entry epoch off len => Sys2Proof.Machine.execSegmentRequest src entry epoch off len s
  | .bundleSegment src epoch off data => Sys2Proof.Machine.execBundleSegment src epoch off data s
  | .weightStreamSegment src epoch off data => Sys2Proof.Machine.execWeightStreamSegment src epoch off data s
  | .remoteWork src packet => Sys2Proof.Machine.execRemoteWork src packet s
  | .remoteResult src packet => Sys2Proof.Machine.execRemoteResult src packet s
  | .offerRegion r v => Sys2Proof.Machine.execOfferRegion r v s
  | .withdrawOffer r v => Sys2Proof.Machine.execWithdrawOffer r v s
  | .fetchApply r v => Sys2Proof.Machine.execFetchApply r v s
  | .fetchComplete => Sys2Proof.Machine.execFetchComplete s
  | .cartridgeOccupied e => Sys2Proof.Machine.execCartridgeOccupied e s
  | .cartridgeVacated e => Sys2Proof.Machine.execCartridgeVacated e s
  | .cartridgeReady e regs => Sys2Proof.Machine.execCartridgeReady e regs s
  | .cartridgeReadyTimeout e => Sys2Proof.Machine.execCartridgeReadyTimeout e s
  | .challengeDone e response => Sys2Proof.Machine.execChallengeDone e response s
  | .challengeTimeout e => Sys2Proof.Machine.execChallengeTimeout e s
  | .cartridgeFwInstallTimeout e => Sys2Proof.Machine.execCartridgeFwInstallTimeout e s
  | .opticalMonitorSample e m => Sys2Proof.Machine.execOpticalMonitorSample e m s
  | .relightAttempt e m => Sys2Proof.Machine.execRelightAttempt e m s
  | .lightUsable e => Sys2Proof.Machine.execLightUsable e s
  | .lifeAccrual e temp drive nominal => Sys2Proof.Machine.execLifeAccrual e temp drive nominal s
  | .lifeRecordWrite e ok => Sys2Proof.Machine.execLifeRecordWrite e ok s
  | .cartridgeRelease r e v => Sys2Proof.Machine.execCartridgeRelease r e v s
  | .driveSetpointWrite r e v => Sys2Proof.Machine.execDriveSetpointWrite r e v s
  | .allowUnauthWrite r v => Sys2Proof.Machine.execAllowUnauthWrite r v s
  | .sensorSample n val => Sys2Proof.Machine.execSensorSample n val s
  | .forecastStep => Sys2Proof.Machine.execForecastStep s
  | .rotationExchange part => Sys2Proof.Machine.execRotationExchange part s
  | .thermalCycleSample => Sys2Proof.Machine.execThermalCycleSample s
  | .externalTrip => Sys2Proof.Machine.execExternalTrip s
  | .tripClear r v => Sys2Proof.Machine.execTripClear r v s
  | .tripAutoResume => Sys2Proof.Machine.execTripAutoResume s
  | .soundTransferFail sound err => Sys2Proof.Machine.execSoundTransferFail sound err s
  | .coreWatchdog core => Sys2Proof.Machine.execCoreWatchdog core s
  | .isleWatchdog isle => Sys2Proof.Machine.execIsleWatchdog isle s
  | .ctrlWatchdog => Sys2Proof.Machine.execCtrlWatchdog s
  | .isleRestore r v => Sys2Proof.Machine.execIsleRestore r v s
  | .isleAutoRestore isle => Sys2Proof.Machine.execIsleAutoRestore isle s
  | .restoreTrainTimeout isle => Sys2Proof.Machine.execRestoreTrainTimeout isle s
  | .recoverResume r part v => Sys2Proof.Machine.execRecoverResume r part v s
  | .counterLatch fn => Sys2Proof.Machine.execCounterLatch fn s
  | .hangDetect kind num => Sys2Proof.Machine.execHangDetect kind num s
  | .dumpClear r v => Sys2Proof.Machine.execDumpClear r v s
  | .hangRelease r v => Sys2Proof.Machine.execHangRelease r v s
  | .inspectOpen r => Sys2Proof.Machine.execInspectOpen r s
  | .traceReadOpen r ext => Sys2Proof.Machine.execTraceReadOpen r ext s
  | .traceFrameClose src => Sys2Proof.Machine.execTraceFrameClose src s
  | .traceTimePeriod src => Sys2Proof.Machine.execTraceTimePeriod src s
  | .powerGoodArrive rail => Sys2Proof.Machine.execPowerGoodArrive rail s
  | .powerGoodTimeout rail => Sys2Proof.Machine.execPowerGoodTimeout rail s
  | .powerGoodFall rail => Sys2Proof.Machine.execPowerGoodFall rail s
  | .pllLockLoss => Sys2Proof.Machine.execPllLockLoss s
  | .perstNAssert => Sys2Proof.Machine.execPerstNAssert s
  | .perstNRelease => Sys2Proof.Machine.execPerstNRelease s
  | .slotLoadComplete part slot err => Sys2Proof.Machine.execSlotLoadComplete part slot err s
  | .restartArmingDone part => Sys2Proof.Machine.execRestartArmingDone part s
  | .soundTrained isle => Sys2Proof.Machine.execSoundTrained isle s
  | .counterLatchComplete fn => Sys2Proof.Machine.execCounterLatchComplete fn s
  | .detectorBackoffEnd lane => Sys2Proof.Machine.execDetectorBackoffEnd lane s
  | .reverseEnableDrop rail => Sys2Proof.Machine.execReverseEnableDrop rail s

end Sys2Proof.Machine
end

