-- ==== Sys2Proof/Machine/Due.lean ====
section
/-! DEFINITION. The grain clock on an idle queue: one tick passes (R124) and the device's own timed events
that fall due join the queue, in a fixed order (DESIGN CHOICE, notes/assumptions/2.md). An event that brings an outside fact
(a reading, a check's result, a lock of the PLL, what firmware does) comes from outside and is not among them. -/
namespace Sys2Proof.Machine

/-- The events of a list of numbers that are due. -/
def dueOf (ns : List Nat) (p : Nat → Bool) (e : Nat → Instr) : List Instr := (ns.filter p).map e
/-- A deadline has come. -/
def State.came (s : State) (d : Option Nat) : Bool := match d with | some t => decide (t ≤ s.clk.ticks) | none => false
/-- A deadline's tick is over: what happens in that tick comes first (spec/05, spec/04: when events coincide). -/
def State.past (s : State) (d : Option Nat) : Bool := match d with | some t => decide (t < s.clk.ticks) | none => false
/-- A period of `n` ticks ends at this tick; periods run from power (DESIGN CHOICE, notes/assumptions/2.md). -/
def State.each_ (s : State) (n : Nat) : Bool := decide (0 < n) && s.clk.ticks % n == 0

/-- Cuhild's deadlines (R66, R73, R79 to R81, R70). -/
def dueCuhild (s : State) : List Instr :=
  (if s.came s.cu.window then [.claimWindowClose] else []) ++
  (if s.came s.cu.lease then [.ownerLeaseExpiry] else []) ++
  dueOf (List.range 8) (fun n => match s.agent n with
    | some a => s.obj Obj.ownerAgent != n && decide (a.heardTick + msT (s.obj Obj.cuhildAgentIdle) ≤ s.clk.ticks) | none => false) .agentIdleExpiry ++
  (s.openHandles.filter (fun h => decide (h.deadline ≤ s.clk.ticks))).map (fun h => .blobHandleTimeout h.id) ++
  dueOf (s.cu.can.map (·.1)) (fun n => s.came ((s.canPart n).map (·.deadline))) .canReassemblyTimeout ++
  -- requests that come together: the lower agent number first (R59), endpoints without an agent last
  dueOf ((List.range 9).flatMap (fun a => (List.range 17).filter (fun f => (s.agentAt (boxEp f)).getD 8 == a)))
    (fun f => s.linkOn && s.served (boxEp f) && !(s.box f).reqs.isEmpty) (fun f => .mailboxDoorbell f (s.box f).reqP []) ++
  dueOf (List.range 17) (fun f => s.served (boxEp f) && !(s.box f).waiting.isEmpty && !ringFull5 (s.box f).rspP (s.box f).rspC) .mailboxResponseDeliver

/-- Deadlines of start-up, time and power (R101, R118, R125, R126, R135, R407, R460, R461). The stop comes when the tick that ends the idle
time is over, so that a trigger in it still prevents the stop (R138). -/
def dueStart (s : State) : List Instr :=
  (if s.boot.keptPending && decide (s.boot.keptDeadline ≤ s.clk.ticks) then [.keptObjectRewrite] else []) ++
  (if s.came s.boot.restartAt then [.restart] else []) ++
  (if s.came (s.clk.armed.map (·.2)) then [.timeSetTimeout] else []) ++
  (if s.came (s.clk.ppsTick.map (· + msT 1500)) then [.ppsLossTimeout] else []) ++
  (match s.pwr.idleAt with
    | some t => if s.obj Obj.powerAutoStop == 1 && s.obj Obj.powerCoreHold == 0 && decide (t + msT (s.obj Obj.powerIdleTime) < s.clk.ticks) then
        [.coreClockStop] else []
    | none => []) ++
  (s.pwr.waits.filter (fun w => decide (w.2 ≤ s.clk.ticks))).map (fun w => .powerGoodTimeout w.1) ++
  (match s.pwr.down with
    | r :: _ => if !s.objBit Obj.elecRailPg (r + 1) || decide (s.pwr.downAt ≤ s.clk.ticks) then [.reverseEnableDrop r] else []
    | [] => []) ++
  (if s.obj Obj.thermTripped == 1 && s.obj Obj.thermAutoResume == 1 && s.came (s.pwr.tripCool.map (· + secT 1)) then [.tripAutoResume] else [])

/-- Deadlines of ports, pipes, straits, the flow table and the models (R148, R170, R177, R178, R187, R190, R200, R353, R362 to R366). -/
def dueNet (s : State) : List Instr :=
  dueOf (s.x.ports.map (·.1)) (fun q => s.came (s.port q).train) .trainTimeout ++
  dueOf (s.x.ports.map (·.1)) (fun q => s.past (s.port q).hold) .holdDeadline ++
  dueOf (s.x.ports.map (·.1)) (fun q => s.came (s.port q).damp) .dampEnd ++
  dueOf (s.x.ports.map (·.1)) (fun q => (s.port q).series != 0 && (s.port q).damp.isNone && decide ((s.port q).lastDown + msT 1 < s.clk.ticks)) .seriesClose ++
  -- writes in one core cycle: tier results, learning, statistics (R186)
  (s.t1.reqs.filter (fun q => q.trees.all (·.leaf.isSome))).map (fun q => .tier1Result q.id) ++
  (if s.flow.pend.isEmpty || s.plain then [] else [.learnInsert]) ++
  (if s.flow.statq.isEmpty then [] else [.statsUpdate]) ++
  dueOf (List.range 8) (fun n => (s.holds n).any (fun h => decide (h.deadline < s.clk.ticks))) .holdLimitExpiry ++
  dueOf (s.flow.tags.map (·.1)) (fun t => (s.tag t).sweep) .lockSweepDone ++
  dueOf (s.flow.tags.map (·.1)) (fun t => (s.tag t).live && !(s.tagLocks t).isEmpty && decide ((s.tag t).lease ≤ s.clk.ticks)) .lockLeaseExpiry ++
  (s.m.out2.filter (fun r => decide (r.deadline ≤ s.clk.ticks))).map (fun r => .t2Timeout r.seq) ++
  dueOf (List.range 8) (fun i => s.straitIn i 1 && s.came (s.strait i).deadline) .straitTrainTimeout ++
  dueOf (List.range 8) (fun i => s.straitIn i 2 && !(s.strait i).initGot && s.came (s.strait i).deadline) .straitInitTimeout ++
  dueOf (List.range 8) (fun i => s.straitIn i 4 && s.came (s.strait i).deadline) .straitRetrain ++
  dueOf (List.range 8) (fun i => s.straitIn i 3 && !(s.strait i).replay.isEmpty && decide ((s.strait i).sent.headD 0 + usT 2 ≤ s.clk.ticks)) .replayTimeout ++
  dueOf (List.range 8) (fun i => (s.straitIn i 2 || s.straitIn i 3) && decide ((s.strait i).lastSent + 5 ≤ s.clk.ticks)) .ackIdleTimeout

/-- Deadlines of the pool (R371, R372, R375). -/
def duePool (s : State) : List Instr :=
  (if s.inPool && s.each_ (usT 100) then [.heartbeatPeriod] else []) ++
  dueOf s.members (fun d => s.inPool && d != s.self && decide ((s.peer d).at_ + usT 300 ≤ s.clk.ticks)) .memberLost ++
  (s.pool.locks.filter (fun l => decide (l.deadline ≤ s.clk.ticks))).map (fun l => .replicaLockVoid l.region)

/-- Deadlines of the isles, cartridges, heat and recovery (R141, R383, R385, R388, R397, R401, R408, R415, R424). -/
def dueUnits (s : State) : List Instr :=
  dueOf (List.range 4) (fun n => (bit s.res.needIsle n || (!s.domain (2 + n) && s.isleWork n)) && s.isleMay n) (fun n => .residencyWake (8 * n)) ++
  dueOf (s.res.idle.map (·.1)) (fun c => decide (s.napAt c ≤ s.clk.ticks)) .napEntry ++
  dueOf (List.range 32) (fun q => s.mayDoze q && decide (s.dozeAt q ≤ s.clk.ticks)) .dozeEntry ++
  dueOf (List.range 4) (fun n => s.mayOff n && decide (s.offAt n ≤ s.clk.ticks)) .isleOffEntry ++
  (if s.netOn then (s.res.entering.filter (fun e => decide (s.entryEnd e ≤ s.clk.ticks))).map (fun e => .residencyEntryDone e.1 e.2) else []) ++
  dueOf (s.carts.map (·.1)) (fun e => (s.cart e).phase == 1 && s.came (s.cart e).deadline) .cartridgeReadyTimeout ++
  dueOf (s.carts.map (·.1)) (fun e => (s.cart e).phase == 2 && s.came (s.cart e).deadline) .challengeTimeout ++
  dueOf (s.carts.map (·.1)) (fun e => (s.cart e).phase == 4 && s.came (s.cart e).deadline) .cartridgeFwInstallTimeout ++
  dueOf (s.carts.map (·.1)) (fun e => s.lit e && !(s.cart e).usable && (s.cart e).loss.isNone && decide ((s.cart e).lightAt + msT 50 ≤ s.clk.ticks)) .lightUsable ++
  (if s.each_ (usT 250) then [.forecastStep] else []) ++
  (if s.each_ (secT 1) then [.thermalCycleSample] else []) ++
  dueOf (List.range 16) (fun p => match s.rotOf p with | some r => r.on && decide (r.next ≤ s.clk.ticks) | none => false) .rotationExchange ++
  dueOf (s.isle.cores.map (·.1)) (fun c => (s.core c).run == 1 && s.isleOn (c / 32) && !bit s.obs.halted (c / 32) &&
    decide ((s.core c).since + usT (s.obj Obj.faultCoreWd) ≤ s.clk.ticks)) .coreWatchdog ++
  dueOf (s.isle.cores.map (·.1)) (fun c => (s.core c).run == 2 && s.isleOn (c / 32)) .coreReset ++
  dueOf (List.range 4) (fun n => mget (fun _ => 0) s.fault.restoring n != 0 && decide (mget (fun _ => 0) s.fault.restoring n ≤ s.clk.ticks)) .restoreTrainTimeout ++
  dueOf (List.range 4) (fun n => mget (fun _ => 0) s.fault.fencedAt n != 0 && s.obj Obj.faultIsleAutoRestore == 1 &&
    decide (mget (fun _ => 0) s.fault.fencedAt n - 1 + secT 1 ≤ s.clk.ticks)) .isleAutoRestore

/-- Ends of trace frames, trace times and counter latches, and hangs, the lower unit kind and number first (R434, R439, R441, R444). -/
def dueObs (s : State) : List Instr :=
  dueOf (s.obs.srcs.map (·.1)) (fun n => !(s.src n).buf.isEmpty && decide ((s.src n).first + usT 1 ≤ s.clk.ticks)) .traceFrameClose ++
  (if s.each_ (usT (s.obj Obj.traceTimePeriod)) then (bitsOf 8 (s.obj Obj.traceEnable)).map .traceTimePeriod else []) ++
  dueOf (s.obs.latches.map (·.1)) (fun f => (s.latchOf f).next.isSome) .counterLatchComplete ++
  (s.obs.watch.filter (fun x => !x.2.fired && decide (x.2.since + msT (s.obj Obj.obsHangWindow) ≤ s.clk.ticks))).map (fun x => .hangDetect x.1.kind x.1.num)

/-- The timed events due at the present tick. -/
def dueEvents (s : State) : List Instr := dueStart s ++ dueCuhild s ++ dueNet s ++ duePool s ++ dueUnits s ++ dueObs s

/-- One grain tick passes, and what the block watches without a command is looked at: the stop conditions (R135), the cores that have
nothing to issue (R139) and the pending units (R444). -/
def State.tick (s : State) : State := (s.elapse 1).watchIdle.watchCores.watchHangs
/-- One grain tick with nothing commanded. In Off nothing runs (R120). -/
def idleTick (s : State) : State :=
  if s.on then { s.tick with pending := dueEvents s.tick } else s

end Sys2Proof.Machine
end

