-- ==== Sys2Proof/Machine/DebugPort.lean ====
section
/-! DEFINITION. The debug port (R448, R475): the TAP and the UART. The opcode table has no command for its pins; these are the operations that
the pins' events have on the state (notes/assumptions/112.md). -/
namespace Sys2Proof.Machine

/-- The data registers of the TAP: bypass, identification, boundary scan, and the one of a Gnomet debug instruction, of which the spec documents
nothing (R475). -/
inductive TapReg
  | bypass
  | idcode
  | boundary
  | debug
  deriving DecidableEq, Repr

/-- The data register that an instruction selects (R475): on a production-fused device every instruction but the required ones and IDCODE selects
bypass. That SAMPLE, PRELOAD and EXTEST select boundary scan is the standard's (PRESUMED, notes/assumptions/112.md). -/
def tapReg (fused : Bool) : TapInstr → TapReg
  | .bypass => .bypass
  | .idcode => .idcode
  | .sample | .preload | .extest => .boundary
  | .other _ => if fused then .bypass else .debug
/-- The device is production-fused. -/
def State.fused (s : State) : Bool := s.dev.productionFused == 1
/-- The data register between TDI and TDO. -/
def State.tapData (s : State) : TapReg := tapReg s.fused s.dbg.ir
/-- An instruction is loaded into the TAP. -/
def State.tapLoad (s : State) (i : TapInstr) : State := { s with dbg := { s.dbg with ir := i } }
/-- TRST_N is low: the TAP is reset, and IDCODE is selected, as the standard has it where the register exists (PRESUMED,
notes/assumptions/112.md). -/
def State.tapReset (s : State) : State := s.tapLoad .idcode
/-- What leaves on TDO while bits enter on TDI: bypass is one bit that captures 0, the identification register 32 bits, low bit first (PRESUMED,
notes/assumptions/112.md). The spec gives neither the order of the boundary-scan cells nor the debug registers: none. -/
def State.tapScan (s : State) (tdi : List Bool) : Option (List Bool) :=
  match s.tapData with
  | .bypass => some ((false :: tdi).take tdi.length)
  | .idcode => some (((List.range 32).map (fun i => Config.idcode.getLsbD i) ++ tdi).take tdi.length)
  | .boundary | .debug => none

/-- A byte on the UART's line (R475): a start bit, 8 data bits, low bit first (PRESUMED, notes/assumptions/112.md), no parity and one stop bit. -/
def uartFrame (b : Byte) : List Bool := false :: (List.range 8).map b.getLsbD ++ [true]
/-- Bits per second of the UART. -/
def uartBaud : Nat := 115200
/-- Bytes of the harbour firmware's log leave on UART_TX; what the firmware logs the spec does not say. -/
def State.uartLog (s : State) (bs : Bytes) : State := { s with dbg := { s.dbg with tx := s.dbg.tx ++ bs } }
/-- A byte arrives on UART_RX, which a production-fused device ignores. -/
def State.uartIn (s : State) (b : Byte) : State := if s.fused then s else { s with dbg := { s.dbg with rx := s.dbg.rx ++ [b] } }

end Sys2Proof.Machine
end

