-- ==== Sys2Proof/Safety.lean ====
section
/-! DEFINITION. What a safe run is, and the terms that claims about the block use: when a request reaches the dictionary sequencer
and is executed (R59 to R61, R476), who owns the device (R80, R84), and what a response holds (R53, R60). -/
namespace Sys2Proof

/-- A command answers a next state. -/
def Completes (i : Instr) (s : Machine.State) : Prop := ∃ t, Machine.exec i s = .next t

namespace Claims
open Sys2Proof.Machine

/-- No lease, claim window or live BLOB handle is at its deadline (R66, R80, R81). -/
def quiet (s : State) : Bool :=
  (match s.cu.lease with | some t => decide (s.clk.ticks < t) | none => true) &&
  (match s.cu.window with | some t => decide (s.clk.ticks < t) | none => true) &&
  s.cu.handles.all (fun h => h.dead.isSome || decide (s.clk.ticks < h.deadline))

/-- A request with operation code `op` from agent `n` reaches the sequencer and is executed now: its transport is served (R68), its
endpoint is agent n's (R78), no deadline is due, it is no repetition of a request already answered or of a claim that waits (R60), and the
agent has fewer requests outstanding than its endpoint's limit (R61). -/
def admitted (s : State) (r : Req) (op n : Nat) : Bool :=
  s.served r.ep && quiet s && decide (s.agentAt r.ep = some n) &&
  (match s.agent n with
   | some a => !(a.kept.any (fun k => k.1 == r.seq && k.2.1 == op)) && !(op == 0x20 && a.claims.contains r.seq) &&
       decide (s.outstanding a < Endpoint.limit r.ep)
   | none => false)

/-- Agent `n`, of device scope as every owner is (R80, R83), owns the device and names its epoch; the device is neither Restricted nor in
ROM recovery (R51, R58, R100). -/
def owns (s : State) (r : Req) (n : Nat) : Bool :=
  decide (r.ep.scope = 0xFF) && decide (s.obj Obj.ownerAgent = n) && decide (n < 8) && decide (r.epoch = s.obj Obj.ownerEpoch) && !s.restricted && !s.boot.recovery

/-- The state in which a request of agent `n` is executed: the agent has been heard at its endpoint (R79), the request counted. -/
def arrived (s : State) (r : Req) (n : Nat) : State :=
  (s.updAgent n (fun a => { a with heard := s.now, heardTick := s.clk.ticks, ep := r.ep })).ctr Obj.ctrCuhildRequests

/-- The latest response kept for agent `n` (R60) is the answer to request `r` with operation code `op`: this abort code (0: success)
and this payload, as (bytes, value) fields. -/
def answered (t : State) (n : Nat) (r : Req) (op code : Nat) (payload : List (Nat × Nat)) : Bool :=
  match t.agent n with
  | some a => (match a.kept.getLast? with
    | some k => k.1 == r.seq && k.2.1 == op && k.2.2.op == op && k.2.2.seq == r.seq && k.2.2.abort == code && decide (k.2.2.payload = payload)
    | none => false)
  | none => false

/-- The value is of the object's type and in its range (R47, R48). -/
def takes (idx sub v : Nat) : Bool :=
  match dictRow idx sub with
  | some d => decide (v < 256 ^ typeWidth d.ty) && d.dom.ok (8 * typeWidth d.ty) v
  | none => false

/-- The response to a WRITE of an object. -/
def wrote (t : State) (n : Nat) (r : Req) (idx sub : Nat) : Bool := answered t n r 0x02 0 [(2, idx), (1, sub), (1, 0)]

/-- Every object but those of `ks`, the request counter and the count of lost notifications reads as before. -/
def objsBut (s t : State) (ks : List Nat) : Prop :=
  ∀ j, ¬ j ∈ ks → j ≠ Obj.ctrCuhildRequests → j ≠ Obj.ctrNotifyLost → t.obj j = s.obj j

/-- Memory and flash hold what they held. -/
def storageSame (s t : State) : Prop := (∀ a, Memory.read t.mem a = Memory.read s.mem a) ∧ t.flash = s.flash

/-- The state once a ring has read its descriptor from the host (R194, R195). -/
def fetched (s : State) (d : Desc) : State := s.emit (.dmaRead d.fn ((s.ring (4 * d.fn + d.ring)).descAt 128) 128)

/-- A descriptor ring serves the descriptor at its consumer now (R194, R200): the function has it, PCIe is up, it is enabled without
error, a descriptor is there, its completion has room, and its lease and the descriptor's epoch are current. -/
def ringServes (s : State) (d : Desc) : Bool :=
  let k := 4 * d.fn + d.ring
  let r := s.ring k
  hasRing d.fn d.ring && s.pcie && r.en && !r.err && r.sp != r.sc && r.room && !r.fenced && (s.tag r.tag).ring == some k &&
  d.epoch == (s.tag r.tag).epoch

/-- A descriptor of ring `d` has been completed with this result (R194, R197): both pointers moved on by one, and the completion record
written to the host at the place of the old pointer. -/
def completed (s t : State) (d : Desc) (op : Nat) (res : DRes) : Bool :=
  let k := 4 * d.fn + d.ring
  let r := s.ring k
  decide ((t.ring k).sc = (r.sc + 1) % r.wrap) && decide ((t.ring k).cp = (r.cp + 1) % r.wrap) &&
  t.out.contains (.dma d.fn (r.comp + 32 * (r.cp % r.entries)) (completion d.cookie op res))

/-- The word `w` can join the bundle of core `c` in a slot (0 scalar, 1 vector, 2 array-stream; R257 to R261): the core runs a command, waits at
no barrier and for no pre-emption, the word is not reserved, and no word of the bundle has the slot. -/
def canJoin (s : State) (c w slot : Nat) : Bool :=
  s.coreReady c && !reservedWord w && !(s.core c).bundle.any (fun x => x.1 == slot)

/-- The word `w` is a whole bundle of core `c` and can issue (R257 to R261): the core is ready, the word is not reserved and ends its bundle, and
no other word of the bundle came before it. -/
def canIssue (s : State) (c w : Nat) : Bool :=
  s.coreReady c && !reservedWord w && bit w 31 && (s.core c).bundle.isEmpty

/-- The core, the word and the slot (0 scalar, 1 vector, 2 array-stream) of an isle instruction's command (R260, R275, R276), and whether the word is
the row's: its class and opcode, its reserved bits 0, its register numbers in range. -/
def wordOf : Instr → Option (Nat × Nat × Nat × Bool)
  | .scalarOp c w xd xa xb xc => some (c, w.toNat, 0, bits w.toNat 30 28 == 0 && [xd, xa, xb, xc].all (· < 32))
  | .branch c w xa xb _ => some (c, w.toNat, 0, isClass1 w.toNat && [xa, xb].all (· < 32))
  | .scalarLoadStore c w _ x _ _ => some (c, w.toNat, 0, isClass1 w.toNat && decide (x < 32))
  | .xmov c w _ _ _ _ _ _ => some (c, w.toNat, 0, isClass1 w.toNat)
  | .qbar c w _ _ => some (c, w.toNat, 0, isClass1 w.toNat)
  | .opset c w _ _ => some (c, w.toNat, 0, isClass1 w.toNat)
  | .done c w => some (c, w.toNat, 0, isClass1 w.toNat)
  | .wait c w => some (c, w.toNat, 0, isClass1 w.toNat)
  | .vectorOp c w vd va vb vc => some (c, w.toNat, 1, isClass2 w.toNat && [vd, va, vb, vc].all (· < 32))
  | .vld c w v _ _ => some (c, w.toNat, 1, isClass2 w.toNat && decide (v < 32))
  | .vst c w v _ => some (c, w.toNat, 1, isClass2 w.toNat && decide (v < 32))
  | .vtl c w v tile _ => some (c, w.toNat, 1, isClass2 w.toNat && decide (v < 32) && decide (tile < 8))
  | .vts c w tile _ v => some (c, w.toNat, 1, isClass2 w.toNat && decide (v < 32) && decide (tile < 8))
  | .vside c w ts _ td _ _ x => some (c, w.toNat, 1, isClass2 w.toNat && decide (ts < 8) && decide (td < 8) && decide (x < 32))
  | .tcfg c w => some (c, w.toNat, 0, isWord w.toNat 1 0x20 && bits w.toNat 11 0 == 0)
  | .trel c w => some (c, w.toNat, 0, isWord w.toNat 1 0x21 && bits w.toNat 13 0 == 0)
  | .csld c w => some (c, w.toNat, 0, isWord w.toNat 1 0x22 && !bit w.toNat 0)
  | .tld c w _ => some (c, w.toNat, 2, isWord w.toNat 3 0 && bits w.toNat 6 5 == 0 && !bit w.toNat 0)
  | .tldCvExpand c w _ => some (c, w.toNat, 2, isWord w.toNat 3 0 && bits w.toNat 6 5 == 1 && !bit w.toNat 0)
  | .tldCvWiden c w _ => some (c, w.toNat, 2, isWord w.toNat 3 0 && bits w.toNat 6 5 == 3 && !bit w.toNat 0)
  | .tldCvQuantise c w _ => some (c, w.toNat, 2, isWord w.toNat 3 0 && bits w.toNat 6 5 == 2 && !bit w.toNat 0 && bits w.toNat 18 14 != 31)
  | .tst c w => some (c, w.toNat, 2, isWord w.toNat 3 1 && bits w.toNat 6 5 == 0 && bits w.toNat 3 0 == 0)
  | .acfg c w => some (c, w.toNat, 2, isWord w.toNat 4 0 && bits w.toNat 18 0 == 0 && decide (bits w.toNat 21 19 ≤ 3))
  | .wld c w => some (c, w.toNat, 2, isWord w.toNat 4 1 && bits w.toNat 7 0 == 0)
  | .astr c w => some (c, w.toNat, 2, isWord w.toNat 4 2 && bits w.toNat 2 0 == 0)
  | .astrT c w => some (c, w.toNat, 2, isWord w.toNat 4 3 && bits w.toNat 2 0 == 0)
  | .aew c w => some (c, w.toNat, 2, isWord w.toNat 4 4 && bits w.toNat 6 0 == 0)
  | .rq c w => some (c, w.toNat, 1, isWord w.toNat 5 0 && bits w.toNat 1 0 == 0)
  | .rstat c w => some (c, w.toNat, 1, isWord w.toNat 5 1 && bits w.toNat 8 0 == 0)
  | _ => none

/-- The core `k` once a bundle of one word has been issued at device time `now` with no other effect (R260, R261): past the word, or at the
branch target after a taken branch. -/
def stepped (k : Core) (now : Nat) : Core :=
  { k with lastAt := now, pc := k.branch.getD ((k.pc + 4) % 2 ^ 22), branch := none, bundle := [] }

/-- Memory reads as before outside `n` bytes from address `a`. -/
def memoryBut (s t : State) (a n : Nat) : Prop := ∀ x, x < a ∨ a + n ≤ x → Memory.read t.mem x = Memory.read s.mem x

/-- Memory and flash are in canonical form: addresses strictly rising, nothing listed that an unlisted address reads as. -/
abbrev Inv (s : State) : Prop := Memory.wf s.mem = true ∧ mwf (fun _ => (0xFF : Byte)) none s.flash = true

end Claims
end Sys2Proof
end

