-- ==== Sys2Proof/WellFormed.lean ====
section
/-! DEFINITION. Well-formed commands: every number lies in the range the spec gives it. The meanings do not depend on these
checks: a command with a number out of range leaves the state as the meaning says for that number. -/
namespace Sys2Proof

/-- A payload or message is no longer than its transport carries (R55, R71, R73). -/
def Bytes.atMost (n : Nat) (b : Bytes) : Bool := decide (b.length ≤ n)

/-- The endpoint exists (R68): a partition, a CAN node, a port with a MAC and an 802.1Q tag, a device. -/
def Endpoint.wf : Endpoint → Bool
  | .cfgWindow => true
  | .pf => true
  | .vf p => decide (p < 16)
  | .can n => decide (n < 128)
  | .inband p m t => decide (p < 64) && decide (m < 2 ^ 48) && decide (t < 2 ^ 17)
  | .strait d => decide (d < 64)
/-- The header fields of a request fit their places (R53). -/
def Req.wf (r : Req) : Bool := r.ep.wf && decide (r.agent < 256) && decide (r.seq < 65536) && decide (r.epoch < 2 ^ 32)
/-- A dictionary reference (R45). -/
def refWf (idx sub : Nat) : Bool := decide (idx < 65536) && decide (sub < 256)
/-- A flow key's fields fit their widths (R154). -/
def FlowKey.wf (k : FlowKey) : Bool :=
  decide (k.part < 16) && decide (k.family < 4) && decide (k.tunnel < 4) && decide (k.proto < 256) && decide (k.vni < 2 ^ 24) &&
  decide (k.lo < 2 ^ 128) && decide (k.hi < 2 ^ 128) && decide (k.lop < 65536) && decide (k.hip < 65536)
/-- A flow descriptor's fields fit their widths (R194, R195). -/
def Desc.wf (d : Desc) : Bool :=
  decide (d.fn < 17) && decide (d.ring < 4) && decide (d.flags < 256) && decide (d.epoch < 2 ^ 16) && decide (d.cookie < 2 ^ 32) &&
  decide (d.buf < 2 ^ 64) && decide (d.a < 2 ^ 64) && decide (d.b < 2 ^ 64) && decide (d.mepoch < 2 ^ 32) && decide (d.score < 256) && d.key.wf
/-- A bundle descriptor's fields fit their widths (R350). -/
def BDesc.wf (d : BDesc) : Bool :=
  decide (d.fn < 17) && decide (d.epoch < 2 ^ 32) && decide (d.cookie < 2 ^ 32) && decide (d.host < 2 ^ 64) && decide (d.region < 65536) &&
  decide (d.off < 2 ^ 40) && decide (d.len < 2 ^ 32)
/-- A frame comes in at a port and has its two MAC addresses and a type (R150). -/
def FrameIn.wf (f : FrameIn) : Bool := decide (f.port < 64) && decide (14 ≤ f.bytes.length)
/-- An error names an array of the core, a cell or a streamed row of at most 128, and an output (R290, R296). -/
def Upset.wf (u : Upset) : Bool := decide (u.arr < 4) && decide (u.row < (if u.cell then 65 else 128)) && decide (u.col < 65)

/-- The numbers a command carries that are an index, each with the size of what it indexes. -/
def Instr.indexes : Instr → List (Nat × Nat)
  | .agentIdleExpiry a => [(a, 8)]
  | .blobHandleTimeout h => [(h, 65536)]
  | .mailboxDoorbell fn p _ => [(fn, 17), (p, 32)]
  | .mailboxResponseDeliver fn | .pcieFunctionReset fn | .counterLatch fn | .counterLatchComplete fn => [(fn, 17)]
  | .mmioRegisterWrite fn bar off v => [(fn, 17), (bar, 7), (off, 2 ^ 24), (v, 2 ^ 64)]
  | .canFdFrame id _ _ => [(id, 2 ^ 29)]
  | .canReassemblyTimeout n => [(n, 128)]
  | .rxSignalDetect l | .detectorBackoffEnd l => [(l, 128)]
  | .napEntry c | .coreReset c | .coreWatchdog c | .preemptRequest c | .contextRestore c => [(c, 128)]
  | .dozeEntry q | .residencyWake q => [(q, 32)]
  | .isleOffEntry n | .isleWatchdog n | .isleAutoRestore n | .restoreTrainTimeout n | .soundTrained n => [(n, 4)]
  | .residencyEntryDone isle u => [(u, if isle then 4 else 32)]
  | .slotRearm p n _ | .slotLoad _ p n _ | .slotUnload _ p n _ | .slotLoadComplete p n _ => [(p, 16), (n, 4)]
  | .partQuadsWrite _ p v => [(p, 16), (v, 2 ^ 32)]
  | .ownerDutyWrite _ n v => [(n, 4), (v, 256)]
  | .holdLimitExpiry p => [(p, 8)]
  | .frameTransmit q _ _ _ | .linkLoss ⟨q, _⟩ | .linkUp q | .holdDeadline q | .dampEnd q | .seriesClose q | .trainTimeout q => [(q, 64)]
  | .xoffInChange g _ => [(g, 4)]
  | .portModeWrite _ _ g v => [(g, 4), (v, 256)]
  | .flowRingDoorbell fn r ⟨v, _⟩ | .flowRingEnable fn r v => [(fn, 17), (r, 4), (v, 2 ^ 32)]
  | .ringKeepAlive fn r => [(fn, 17), (r, 4)]
  | .lockLeaseExpiry t | .lockSweepDone t => [(t, 64)]
  | .queuePush q e w _ => [(q, 264), (e, 2 ^ 32), (w.length, 65)]
  | .queueCommit q | .queuePop q _ _ | .queueRewind q | .spillRefillLand ⟨q, _⟩ => [(q, 264)]
  | .collectorRingDeliver q _ | .collectorFrameSend q _ => [(q, 256)]
  | .recordFetchComplete i k => [(i, 2 ^ 22), (k, 5)]
  | .nodeFetchComplete _ t k => [(t, 4096), (k, 4)]
  | .schedulerDispatch n c _ => [(n, 4), (c, 3)]
  | .scalarOp c _ d a b x => [(c, 128), (d, 32), (a, 32), (b, 32), (x, 32)]
  | .branch c _ a b t => [(c, 128), (a, 32), (b, 32), (t, 2 ^ 22)]
  | .scalarLoadStore c _ _ x o _ => [(c, 128), (x, 32), (o, 2 ^ 22)]
  | .vectorOp c _ d a b x => [(c, 128), (d, 32), (a, 32), (b, 32), (x, 32)]
  | .vld c _ v o _ | .vst c _ v o => [(c, 128), (v, 32), (o, 2 ^ 22)]
  | .vtl c _ v t r | .vts c _ t r v => [(c, 128), (v, 32), (t, 8), (r, 128)]
  | .vside c _ ts sr td dr w x => [(c, 128), (ts, 8), (sr, 128), (td, 8), (dr, 128), (w, 257), (x, 32)]
  | .xmov c _ _ _ o p l _ => [(c, 128), (o, 2 ^ 22), (p, 2 ^ 24), (l, 2 ^ 22)]
  | .qbar c _ _ m => [(c, 128), (m, 2 ^ 32)]
  | .opset c _ l o => [(c, 128), (l, 65536), (o, 65536)]
  | .done c _ | .wait c _ | .tcfg c _ | .trel c _ | .csld c _ | .tld c _ _ | .tldCvExpand c _ _ | .tldCvQuantise c _ _ | .tldCvWiden c _ _
  | .tst c _ | .acfg c _ | .wld c _ | .wldComplete c _ | .astr c _ | .astrT c _ | .aew c _ | .rq c _ | .rstat c _ => [(c, 128)]
  | .astrChunkCommit c m _ => [(c, 128), (m, 16)]
  | .bundleRingDoorbell fn ⟨v, _⟩ => [(fn, 17), (v, 2 ^ 32)]
  | .tier2Result n p _ => [(n, 4), (p, 16)]
  | .t2Timeout r => [(r, 2 ^ 48)]
  | .swap _ p v | .t1SlotWrite _ p v | .recoverResume _ p v => [(p, 16), (v, 2 ^ 32)]
  | .drainComplete p | .gapArmDone p _ | .rotationExchange p | .restartArmingDone p => [(p, 16)]
  | .straitTrained i | .straitTrainTimeout i | .straitInitDone i _ _ | .straitInitTimeout i | .straitLinkLoss i | .straitRetrain i
  | .replayTimeout i | .ackIdleTimeout i | .nakReceive i _ => [(i, 8)]
  | .flitReceive i f => [(i, 8), (f.length, 257)]
  | .straitCuhildMessage d _ | .memberLost d | .registryUpdate d _ | .admissionReply d _ | .replicaLockRequest d _ | .replicaLockReply d _ _ _
  | .segmentRequest d _ _ _ _ | .bundleSegment d _ _ _ | .weightStreamSegment d _ _ _ | .remoteWork d _ | .remoteResult d _
  | .workCredit d _ _ _ | .admissionRequest d _ _ _ _ _ => [(d, 64)]
  | .poolHeartbeat i o _ _ => [(i, 8), (o, 64)]
  | .replicaLockVoid r => [(r, 64)]
  | .cartridgeOccupied e | .cartridgeVacated e | .cartridgeReady e _ | .cartridgeReadyTimeout e | .challengeDone e _ | .challengeTimeout e
  | .cartridgeFwInstallTimeout e | .opticalMonitorSample e _ | .relightAttempt e _ | .lightUsable e | .lifeAccrual e _ _ _
  | .lifeRecordWrite e _ | .cartridgeRelease _ e _ | .driveSetpointWrite _ e _ => [(e, 8)]
  | .sensorSample n _ => [(n, 108)]
  | .soundTransferFail n _ => [(n, 4)]
  | .hangDetect k _ => [(k, 7)]
  | .traceFrameClose n | .traceTimePeriod n => [(n, 8)]
  | .powerGoodArrive r | .powerGoodTimeout r | .powerGoodFall r | .reverseEnableDrop r => [(r, 7)]
  | _ => []

/-- The structured operands of a command are well formed. -/
def Instr.operandsWf : Instr → Bool
  | .read r i u => r.wf && refWf i u
  | .write r i u t v => r.wf && refWf i u && decide (t < 256) && v.atMost 255
  | .readMulti r rs => r.wf && decide (1 ≤ rs.length) && decide (rs.length ≤ 32) && rs.all (fun e => refWf e.1 e.2)
  | .blobOpen r i u m l => r.wf && refWf i u && decide (m < 256) && decide (l < 2 ^ 32)
  | .blobSeg r h n o d => r.wf && decide (h < 65536) && decide (n < 65536) && decide (o < 2 ^ 32) && d.atMost 1000
  | .blobClose r h a c => r.wf && decide (h < 65536) && decide (a < 256) && (match c with | some v => decide (v < 2 ^ 32) | none => true)
  | .claim r p n => r.wf && decide (p < 256) && decide (n < 2 ^ 32)
  | .yield r t => r.wf && decide (t < 256)
  | .grant r p a => r.wf && decide (p < 256) && decide (a < 256)
  | .revoke r p => r.wf && decide (p < 256)
  | .notify r m => r.wf && decide (m < 2 ^ 32)
  | .heartbeat r | .nonceFeedRead r | .attestReportOpen r | .inspectOpen r | .traceReadOpen r _ => r.wf
  | .mailboxDoorbell _ _ bs => bs.all (Bytes.atMost 1024)
  | .configWindowGo m => m.atMost 256
  | .canFdFrame _ classic d => d.atMost (if classic then 8 else 64)
  | .startInferenceWrite r v | .powerCoreHoldWrite r v | .berthKeepWrite r v | .updRestartWrite r v | .meterApply r v | .portEnableWrite r _ v
  | .qStatsClear r v | .hbmApply r v | .straitEnableWrite r v | .offerRegion r v | .withdrawOffer r v | .fetchApply r v
  | .allowUnauthWrite r v | .tripClear r v | .isleRestore r v | .dumpClear r v | .hangRelease r v => r.wf && decide (v < 2 ^ 32)
  | .timeSetWrite r v => r.wf && decide (v < 2 ^ 64)
  | .partQuadsWrite r _ _ | .ownerDutyWrite r _ _ | .portModeWrite r _ _ _ | .slotLoad r _ _ _ | .slotUnload r _ _ _ | .swap r _ _
  | .t1SlotWrite r _ _ | .cartridgeRelease r _ _ | .driveSetpointWrite r _ _ | .recoverResume r _ _ => r.wf
  | .frameIngress f => f.wf
  | .readKey d | .readSlot d | .scan d | .insert d | .update d | .delete d | .ageDelete d | .lock d | .unlock d | .trieWrite d | .trieRead d => d.wf
  | .bundleHostToRegion d | .bundleRegionToHost d => d.wf
  | .wldComplete _ us | .astrChunkCommit _ _ us => us.all Upset.wf
  | .ppsEdge o => decide (o < 20)
  | .coreClockStart r _ => decide (r ≤ 6)
  | .straitCuhildMessage _ m => m.atMost 1024
  | _ => true

/-- A command is well formed. -/
def Instr.wf (i : Instr) : Bool := i.indexes.all (fun x => decide (x.1 < x.2)) && i.operandsWf

end Sys2Proof
end

