-- ==== Sys2Proof/Certificates/Slice0/Obligations.lean ====
section
/-! DEFINITION. The statements for the provers, each of a rule of spec/ or of the machine as a whole. -/
open Sys2Proof Sys2Proof.Machine Sys2Proof.Claims

/-- An admitted READ of a readable scalar answers its item with abort code 0 and changes no other object and no storage; a READ of attest.nonce_feed also shifts its sequence number into the words held for the agent; a READ_MULTI of readable scalars answers their items in order. The count of requests moves on by the sequencer and is exempt. -/
def Obligations.ReadAnswersItem : Prop :=
  (∀ (s : State) (r : Req) (n : Nat) (idx sub : Nat),
    admitted s r 0x01 n = true →
    (highestSub idx).isSome = true →
    (dictRow idx sub).isSome = true →
    inScope r.ep.scope idx sub = true →
    s.mayRead n idx sub = true →
    typeOf idx sub ≠ 0x0D →
    (accOf idx sub = .ro → s.sourceOn idx sub = true) →
    idx * 256 + sub ≠ Obj.attestNonceFeed →
    ∃ t, exec (.read r idx sub) s = .next t ∧
      answered t n r 0x01 0 ((arrived s r n).item n idx sub) = true ∧
      objsBut s t [] ∧
      storageSame s t) ∧
  (∀ (s : State) (r : Req) (n : Nat) (a : Agent),
    admitted s r 0x01 n = true →
    s.agent n = some a →
    ∃ t, exec (.nonceFeedRead r) s = .next t ∧
      answered t n r 0x01 0 [(2, 0x1220), (1, 1), (1, 3), (1, 2), (2, min 8 (a.nonce.length + 1))] = true ∧
      (t.agent n).map (·.nonce) = some (keepLast 8 (a.nonce ++ [r.seq])) ∧
      objsBut s t [] ∧
      storageSame s t) ∧
  (∀ (s : State) (r : Req) (n : Nat) (refs : List (Nat × Nat)),
    admitted s r 0x03 n = true →
    1 ≤ refs.length →
    refs.length ≤ 32 →
    (∀ e ∈ refs, (arrived s r n).readCheck n r.ep.scope e.1 e.2 = 0) →
    fieldsLen ([(1, refs.length), (1, 0)] ++ refs.flatMap (fun e => (arrived s r n).item n e.1 e.2)) ≤ 1008 →
    ∃ t, exec (.readMulti r refs) s = .next t ∧
      answered t n r 0x03 0 ([(1, refs.length), (1, 0)] ++ refs.flatMap (fun e => (arrived s r n).item n e.1 e.2)) = true ∧
      objsBut s t [] ∧
      storageSame s t)

/-- An admitted WRITE by the owner of an object outside the partition blocks whose own rule does no more than keep the value (the object has a row with access RW, OW or WO, it is no update object and no BLOB), with the object's type, its width and a value in its range, gives the object that value, answers with abort code 0, and leaves every other object and the storage as they were. -/
def Obligations.WriteKeepsValue : Prop :=
  ∀ (s : State) (r : Req) (n : Nat) (idx sub : Nat) (d : DRow) (val : Bytes),
    admitted s r 0x02 n = true →
    owns s r n = true →
    idx < 0x8000 →
    dictRow idx sub = some d →
    sub ≠ 0 →
    (highestSub idx).isSome = true →
    inScope r.ep.scope idx sub = true →
    (d.acc = .rw ∨ d.acc = .ow ∨ d.acc = .wo) →
    d.ty ≠ 0x0D →
    val.length = typeWidth d.ty →
    val.length ≤ 255 →
    d.dom.ok (8 * typeWidth d.ty) (unle val) = true →
    writers.lookup (idx * 256 + sub) = none →
    (idx < 0x4110 ∨ 0x4118 ≤ idx) →
    ∃ t, exec (.write r idx sub d.ty val) s = .next t ∧
      t.obj (idx * 256 + sub) = unle val ∧
      wrote t n r idx sub = true ∧
      objsBut s t [idx * 256 + sub] ∧
      storageSame s t

/-- Opening a readable BLOB for reading when the agent has room opens one handle more, on the value as it stands, answers its number, length and CRC-32C, and lets it live 2 s; a segment of a live read handle answers the bytes at its offset, renews the 2 s and changes no data; closing it removes the handle. ATTEST_REPORT_OPEN counts one more report. The model's reading, not a rule: the handle number (notes/assumptions/71), and that the length field of an opening for reading is not judged (notes/assumptions/116). -/
def Obligations.BlobTransfer : Prop :=
  (∀ (s : State) (r : Req) (n : Nat) (idx sub len : Nat),
    admitted s r 0x10 n = true →
    (arrived s r n).openCheck n r.ep.scope idx sub = 0 →
    idx * 256 + sub ≠ Obj.attestReport →
    s.cu.handles.length < 65536 →
    ∃ t, exec (.blobOpen r idx sub 1 len) s = .next t ∧
      (∃ h, t.cu.handles = s.cu.handles ++ [h] ∧ h.agent = n ∧ h.idx = idx ∧ h.sub = sub ∧ h.write = false ∧ h.dead = none ∧ h.data = ((arrived s r n).blobValue n idx sub).1 ∧ h.len = h.data.length ∧ h.deadline = s.clk.ticks + 100000000 ∧ (∀ g ∈ s.cu.handles, g.id ≠ h.id) ∧ answered t n r 0x10 0 [(2, h.id), (2, 0), (4, h.len), (4, crc32c h.data)] = true) ∧
      objsBut s t [] ∧
      storageSame s t) ∧
  (∀ (s : State) (r : Req) (n : Nat),
    admitted s r 0x10 n = true →
    s.handleRoom n = true →
    ∃ t, exec (.attestReportOpen r) s = .next t ∧
      t.obj Obj.ctrAttestReports = (s.obj Obj.ctrAttestReports + 1) % 2 ^ 64 ∧
      (∃ h, t.cu.handles = s.cu.handles ++ [h] ∧ h.data = (arrived s r n).report n ∧ answered t n r 0x10 0 [(2, h.id), (2, 0), (4, h.len), (4, crc32c h.data)] = true) ∧
      objsBut s t [Obj.ctrAttestReports] ∧
      storageSame s t) ∧
  (∀ (s : State) (r : Req) (n : Nat),
    admitted s r 0x10 n = true →
    (arrived s r n).openCheck n r.ep.scope 0x1630 0x09 = 0 →
    ∃ t, exec (.inspectOpen r) s = .next t ∧
      (∃ h, t.cu.handles = s.cu.handles ++ [h] ∧ h.data = (arrived s r n).inspectBytes.1 ∧ answered t n r 0x10 0 [(2, h.id), (2, 0), (4, h.len), (4, crc32c h.data)] = true) ∧
      objsBut s t [] ∧
      storageSame s t) ∧
  (∀ (s : State) (r : Req) (n : Nat) (ext : Bool),
    admitted s r 0x10 n = true →
    (arrived s r n).openCheck n r.ep.scope 0x1620 (if ext then 8 else 7) = 0 →
    ∃ t, exec (.traceReadOpen r ext) s = .next t ∧
      (∃ h, t.cu.handles = s.cu.handles ++ [h] ∧ h.data = ((arrived s r n).blobValue n 0x1620 (if ext then 8 else 7)).1 ∧ answered t n r 0x10 0 [(2, h.id), (2, 0), (4, h.len), (4, crc32c h.data)] = true) ∧
      t.traceRead = true ∧
      objsBut s t [] ∧
      storageSame s t) ∧
  (∀ (s : State) (r : Req) (n : Nat) (id count off : Nat) (h : Handle),
    admitted s r 0x11 n = true →
    s.cu.handles.find? (fun g => g.id == id && g.agent == n) = some h →
    h.write = false →
    h.dead = none →
    1 ≤ count →
    count ≤ (if r.ep = .cfgWindow then 232 else 992) →
    off < h.len →
    ∃ t, exec (.blobSeg r id count off []) s = .next t ∧
      answered t n r 0x11 0 ([(2, id), (2, ((h.data.drop off).take count).length), (4, off)] ++ ((h.data.drop off).take count).map (fun b => (1, b.toNat))) = true ∧
      t.cu.handles = s.cu.handles.map (fun g => if g.id = id then { g with deadline := s.clk.ticks + 100000000 } else g) ∧
      objsBut s t [] ∧
      storageSame s t) ∧
  (∀ (s : State) (r : Req) (n : Nat) (id : Nat) (h : Handle),
    admitted s r 0x12 n = true →
    s.cu.handles.find? (fun g => g.id == id && g.agent == n) = some h →
    h.write = false →
    h.dead = none →
    s.traceRead = false →
    ∃ t, exec (.blobClose r id 1 none) s = .next t ∧
      answered t n r 0x12 0 [(2, id), (2, 0)] = true ∧
      t.cu.handles = s.cu.handles.filter (fun g => g.id != id) ∧
      objsBut s t [] ∧
      storageSame s t)

/-- A CLAIM of a device-scope agent while the device is ownerless joins the bids (replacing the agent's own), opens a window of 16 ms where none is open, and stays unanswered; at the close the bid with the highest priority, then nonce, then the lowest agent number owns the device under the next epoch with a lease of 500 ms, every delegation has ended and the window is shut. -/
def Obligations.ClaimElectsOwner : Prop :=
  (∀ (s : State) (r : Req) (n : Nat) (prio nonce : Nat) (a : Agent),
    admitted s r 0x20 n = true →
    s.obj Obj.ownerAgent = 0xFF →
    r.ep.scope = 0xFF →
    s.agent n = some a →
    ∃ t, exec (.claim r prio nonce) s = .next t ∧
      t.cu.bids = s.cu.bids.filter (fun x => x.agent != n) ++ [({ agent := n, prio := prio, nonce := nonce } : Bid)] ∧
      t.cu.window = some (s.cu.window.getD (s.clk.ticks + 800000)) ∧
      (t.agent n).map (·.claims) = some (a.claims ++ [r.seq]) ∧
      (t.agent n).map (·.via) = some (a.via ++ [(r.seq, s.prioOf r.ep, r.ep)]) ∧
      objsBut s t [] ∧
      storageSame s t) ∧
  (∀ (s : State) (w : Nat) (b : Bid),
    s.cu.window = some w →
    bestBid s.cu.bids = some b →
    b.agent < 8 →
    ∃ t, exec (.claimWindowClose) s = .next t ∧
      t.obj Obj.ownerAgent = b.agent ∧
      t.obj Obj.ownerPriority = b.prio ∧
      t.obj Obj.ownerEpoch = (s.obj Obj.ownerEpoch + 1) % 2 ^ 32 ∧
      t.cu.lease = some (max s.clk.ticks w + 25000000) ∧
      t.cu.window = none ∧
      t.cu.bids = [] ∧
      (∀ p, p < 16 → t.obj (Obj.delegP p) = 0xFF) ∧
      storageSame s t)

/-- YIELD to 0xFF leaves the device ownerless, YIELD to a registered device-scope agent makes it the owner, both under the next epoch with every delegation ended. A HEARTBEAT of the owner, whatever number it carries, renews its lease to 500 ms and answers that; a HEARTBEAT with number 0xFF from an endpoint with no agent registers it under the lowest free number. GRANT gives a partition to another agent, REVOKE takes it back and discards the writes opened under it, NOTIFY sets the agent's subscription. -/
def Obligations.OwnerOperations : Prop :=
  (∀ (s : State) (r : Req) (n : Nat),
    admitted s r 0x21 n = true →
    owns s r n = true →
    ∃ t, exec (.yield r 0xFF) s = .next t ∧
      t.obj Obj.ownerAgent = 0xFF ∧
      t.obj Obj.ownerEpoch = (s.obj Obj.ownerEpoch + 1) % 2 ^ 32 ∧
      t.cu.lease = none ∧
      (∀ p, p < 16 → t.obj (Obj.delegP p) = 0xFF) ∧
      answered t n r 0x21 0 [(1, 0xFF), (3, 0)] = true ∧
      storageSame s t) ∧
  (∀ (s : State) (r : Req) (n : Nat) (target : Nat) (a : Agent),
    admitted s r 0x21 n = true →
    owns s r n = true →
    target < 8 →
    s.agent target = some a →
    a.ep.scope = 0xFF →
    ∃ t, exec (.yield r target) s = .next t ∧
      t.obj Obj.ownerAgent = target ∧
      t.obj Obj.ownerEpoch = (s.obj Obj.ownerEpoch + 1) % 2 ^ 32 ∧
      t.cu.lease = some (s.clk.ticks + 25000000) ∧
      (∀ p, p < 16 → t.obj (Obj.delegP p) = 0xFF) ∧
      answered t n r 0x21 0 [(1, target), (3, 0)] = true ∧
      storageSame s t) ∧
  (∀ (s : State) (r : Req) (n : Nat),
    admitted s r 0x22 n = true →
    owns s r n = true →
    ∃ t, exec (.heartbeat r) s = .next t ∧
      t.cu.lease = some (s.clk.ticks + 25000000) ∧
      answered t n r 0x22 0 [(1, n), (1, n), (1, s.obj Obj.powerState), (1, 0), (2, 500), (2, 0)] = true ∧
      objsBut s t [] ∧
      storageSame s t) ∧
  (∀ (s : State) (r : Req) (n : Nat),
    s.served r.ep = true →
    quiet s = true →
    s.agentAt r.ep = none →
    r.agent = 0xFF →
    (List.range 8).find? (fun m => (s.agent m).isNone) = some n →
    ∃ t, exec (.heartbeat r) s = .next t ∧
      t.agentAt r.ep = some n ∧
      answered t n r 0x22 0 (s.beat n) = true ∧
      objsBut s t [] ∧
      storageSame s t) ∧
  (∀ (s : State) (r : Req) (n : Nat) (p m : Nat) (a : Agent),
    admitted s r 0x30 n = true →
    owns s r n = true →
    p < 16 →
    s.agent m = some a →
    (a.ep.scope = 0xFF ∨ a.ep.scope = p) →
    m ≠ n →
    s.obj (Obj.delegP p) = 0xFF →
    ∃ t, exec (.grant r p m) s = .next t ∧
      t.obj (Obj.delegP p) = m ∧
      answered t n r 0x30 0 [(1, p), (1, m), (2, 0)] = true ∧
      objsBut s t [Obj.delegP p] ∧
      storageSame s t) ∧
  (∀ (s : State) (r : Req) (n : Nat) (p : Nat),
    admitted s r 0x31 n = true →
    owns s r n = true →
    p < 16 →
    ∃ t, exec (.revoke r p) s = .next t ∧
      t.obj (Obj.delegP p) = 0xFF ∧
      (∀ h ∈ t.cu.handles, h.write = true → h.basis = p → h.dead.isSome = true) ∧
      answered t n r 0x31 0 [(1, p), (1, s.obj (Obj.delegP p)), (2, 0)] = true ∧
      objsBut s t [Obj.delegP p] ∧
      storageSame s t) ∧
  (∀ (s : State) (r : Req) (n : Nat) (mask : Nat),
    admitted s r 0x40 n = true →
    r.ep ≠ .cfgWindow →
    ∃ t, exec (.notify r mask) s = .next t ∧
      (t.agent n).map (·.mask) = some (mask % 2 ^ 20) ∧
      answered t n r 0x40 0 [(4, mask % 2 ^ 20)] = true ∧
      objsBut s t [] ∧
      storageSame s t)

/-- At its end a lease leaves the device ownerless under the next epoch, counted and recorded in fault.log; an agent that is not the owner and has been idle is no longer registered and has no handle; a BLOB handle of 2 s without a segment is discarded; a partial CAN message of 50 ms is discarded and counted. Each lets the time of its deadline pass. -/
def Obligations.CuhildTimersEnd : Prop :=
  (∀ (s : State) (w : Nat),
    s.cu.lease = some w →
    ∃ t, exec (.ownerLeaseExpiry) s = .next t ∧
      t.obj Obj.ownerAgent = 0xFF ∧
      t.obj Obj.ownerEpoch = (s.obj Obj.ownerEpoch + 1) % 2 ^ 32 ∧
      t.cu.lease = none ∧
      (∀ p, p < 16 → t.obj (Obj.delegP p) = 0xFF) ∧
      t.obj Obj.ctrLeasesFenced = (s.obj Obj.ctrLeasesFenced + 1) % 2 ^ 64 ∧
      t.obj Obj.faultCount = (s.obj Obj.faultCount + 1) % 2 ^ 32 ∧
      (∃ x, t.fault.log = keepLast 128 (s.fault.log ++ [x])) ∧
      t.clk.ticks = max s.clk.ticks w ∧
      storageSame s t) ∧
  (∀ (s : State) (n : Nat) (a : Agent),
    s.agent n = some a →
    s.obj Obj.ownerAgent ≠ n →
    ∃ t, exec (.agentIdleExpiry n) s = .next t ∧
      t.agent n = none ∧
      (∀ h ∈ t.cu.handles, h.agent ≠ n) ∧
      t.obj Obj.ownerAgent = s.obj Obj.ownerAgent ∧
      t.clk.ticks = max s.clk.ticks (a.heardTick + msT (s.obj Obj.cuhildAgentIdle)) ∧
      storageSame s t) ∧
  (∀ (s : State) (id : Nat) (h : Handle),
    s.openHandles.find? (fun g => g.id == id) = some h →
    ∃ t, exec (.blobHandleTimeout id) s = .next t ∧
      (∀ g ∈ t.cu.handles, g.id = id → g.dead.isSome = true) ∧
      t.clk.ticks = max s.clk.ticks h.deadline ∧
      storageSame s t) ∧
  (∀ (s : State) (n : Nat) (p : CanPart),
    s.canPart n = some p →
    ∃ t, exec (.canReassemblyTimeout n) s = .next t ∧
      t.canPart n = none ∧
      t.obj Obj.ctrCanBad = (s.obj Obj.ctrCanBad + 1) % 2 ^ 64 ∧
      t.clk.ticks = max s.clk.ticks p.deadline ∧
      storageSame s t)

/-- A doorbell of a function whose mailbox is not served adds the new slots to those that wait; in a served mailbox the message of a slot is consumed and executed: an admitted READ is answered, and a message that R55 discards is counted as malformed. A response that waits is written to the next slot of a ring with room, with an MSI-X where enabled. A write of a mailbox register, of a ring page or of the configuration window's done bit changes that register alone: the consumer pointers of a mailbox keep 5 bits and its interrupt enable 2, a ring's bases and size are written only while the ring is not enabled, and enabling a collector or bundle ring starts its pointers at 0. The model's reading, not a rule: the writes it ignores while a ring is enabled (notes/assumptions/72), and how the host names the done bit (notes/assumptions/95). -/
def Obligations.MailboxesAndHostRegisters : Prop :=
  (∀ (s : State) (fn producer : Nat) (slots : List Bytes),
    fn ≤ 16 →
    s.linkOn = true →
    s.served (boxEp fn) = false →
    ∃ t, exec (.mailboxDoorbell fn producer slots) s = .next t ∧
      t.box fn = { s.box fn with reqP := producer % 32, reqs := (s.box fn).reqs ++ (List.range ((producer % 32 + 32 - (s.box fn).reqP % 32) % 32)).map (fun i => slots.getD i []) } ∧
      t.objs = s.objs ∧
      storageSame s t) ∧
  (∀ (s : State) (fn : Nat) (m : Bytes),
    fn ≤ 16 →
    s.linkOn = true →
    s.served (boxEp fn) = true →
    (s.box fn).reqs = [] →
    decodeMsg (boxEp fn) (slotMsg m) = none →
    ∃ t, exec (.mailboxDoorbell fn (((s.box fn).reqP + 1) % 32) [m]) s = .next t ∧
      t.box fn = { s.box fn with reqP := ((s.box fn).reqP + 1) % 32, reqC := ((s.box fn).reqC + 1) % 32, reqs := [] } ∧
      t.obj Obj.ctrCuhildMalformed = (s.obj Obj.ctrCuhildMalformed + 1) % 2 ^ 64 ∧
      storageSame s t) ∧
  (∀ (s u : State) (fn : Nat) (m : Bytes) (r : Req) (n idx sub : Nat),
    fn ≤ 16 →
    s.linkOn = true →
    s.served (boxEp fn) = true →
    (s.box fn).reqs = [] →
    decodeMsg (boxEp fn) (slotMsg m) = some (r, .read idx sub) →
    u = ((s.setBox fn { s.box fn with reqP := ((s.box fn).reqP + 1) % 32, reqs := [m] }).trigger 3).setBox fn
      { s.box fn with reqP := ((s.box fn).reqP + 1) % 32, reqC := ((s.box fn).reqC + 1) % 32, reqs := [] } →
    admitted u r 0x01 n = true →
    u.readCheck n r.ep.scope idx sub = 0 →
    idx * 256 + sub ≠ Obj.attestNonceFeed →
    ∃ t, exec (.mailboxDoorbell fn (((s.box fn).reqP + 1) % 32) [m]) s = .next t ∧
      answered t n r 0x01 0 ((arrived u r n).item n idx sub) = true ∧
      (t.box fn).reqP = ((s.box fn).reqP + 1) % 32 ∧
      (t.box fn).reqC = ((s.box fn).reqC + 1) % 32 ∧
      (t.box fn).reqs = [] ∧
      objsBut s t [] ∧
      storageSame s t) ∧
  (∀ (s : State) (fn : Nat) (m : Bytes) (ms : List Bytes),
    (s.box fn).waiting = m :: ms →
    ringFull5 (s.box fn).rspP (s.box fn).rspC = false →
    s.served (boxEp fn) = true →
    ∃ t, exec (.mailboxResponseDeliver fn) s = .next t ∧
      (t.box fn).waiting = ms ∧
      (t.box fn).rspP = ((s.box fn).rspP + 1) % 32 ∧
      mget (fun _ => []) (t.box fn).rsp ((s.box fn).rspP % 16) = m ∧
      t.out = (if bit (s.box fn).irq 0 then [.msix fn 0] else []) ++ s.out ∧
      t.objs = s.objs) ∧
  (∀ (s : State) (fn v : Nat),
    fn ≤ 16 →
    s.bar2On = true →
    exec (.mmioRegisterWrite fn 0 0x10 v) s = .next (s.setBox fn { s.box fn with rspC := v % 32 }) ∧
      exec (.mmioRegisterWrite fn 0 0x18 v) s = .next ((s.setBox fn { s.box fn with ntfC := v % 32 }).pumpAll) ∧
      exec (.mmioRegisterWrite fn 0 0x1C v) s = .next (s.setBox fn { s.box fn with irq := v % 4 })) ∧
  (∀ (s : State) (v : Nat),
    s.served .cfgWindow = true →
    bit v 1 = false →
    exec (.mmioRegisterWrite 0 6 0 v) s = .next { s with cu := { s.cu with cfgDone := false } }) ∧
  (∀ (s : State) (fn ring v : Nat),
    fn ≤ 16 →
    s.bar2On = true →
    hasRing fn ring = true →
    ring < 256 →
    (s.ring (4 * fn + ring)).en = false →
    ∃ t, exec (.mmioRegisterWrite fn 2 (ring * 0x1000) v) s = .next t ∧
      t.ring (4 * fn + ring) = { s.ring (4 * fn + ring) with sub := v % 2 ^ 64 } ∧
      t.objs = s.objs ∧
      storageSame s t) ∧
  (∀ (s : State) (fn ring v : Nat),
    fn ≤ 16 →
    s.bar2On = true →
    hasRing fn ring = true →
    ring < 256 →
    (s.ring (4 * fn + ring)).en = false →
    exec (.mmioRegisterWrite fn 2 (ring * 0x1000 + 0x008) v) s = .next (s.setRing (4 * fn + ring) { s.ring (4 * fn + ring) with comp := v % 2 ^ 64 }) ∧
      (v < 7 → exec (.mmioRegisterWrite fn 2 (ring * 0x1000 + 0x010) v) s = .next (s.setRing (4 * fn + ring) { s.ring (4 * fn + ring) with size := v }))) ∧
  (∀ (s : State) (fn ring v : Nat),
    fn ≤ 16 →
    s.bar2On = true →
    hasRing fn ring = true →
    ring < 256 →
    exec (.mmioRegisterWrite fn 2 (ring * 0x1000 + 0x024) v) s = .next (s.setRing (4 * fn + ring) { s.ring (4 * fn + ring) with cc := v % (s.ring (4 * fn + ring)).wrap })) ∧
  (∀ (s : State) (fn i v : Nat),
    fn ≤ 16 →
    s.bar2On = true →
    i < (if fn = 0 then 64 else 4) →
    (s.cRing (64 * fn + i)).en = false →
    bit v 0 = true →
    exec (.mmioRegisterWrite fn 2 (0x100000 + i * 0x1000 + 0x00C) v) s = .next (s.setCRing (64 * fn + i) { s.cRing (64 * fn + i) with en := true, irq := bit v 1, prod := 0, cons := 0 })) ∧
  (∀ (s : State) (fn v : Nat),
    fn ≤ 16 →
    s.bar2On = true →
    (s.bRing fn).en = false →
    bit v 0 = true →
    exec (.mmioRegisterWrite fn 2 0x200014 v) s = .next (s.setBRing fn { s.bRing fn with en := true, irq := bit v 1, sp := 0, sc := 0, cp := 0, cc := 0, err := false }))

/-- Go of a served configuration window runs the request that its area spells, or counts it as malformed and clears go; while a request is outstanding go is counted as an overrun. A CAN FD frame to Brolum's node that is first and last is the whole message, one that is only first starts a partial message of 50 ms, a classic frame is counted and discarded. A message from a pool member runs as the request it spells. A function reset deregisters the function's mailbox agent. PERST_N asserted takes the link down and changes nothing else; released it comes up. The model's reading, not a rule: what a function reset leaves and that PERST_N deregisters nobody (notes/assumptions/97 and 47). -/
def Obligations.MessagesByTransport : Prop :=
  (∀ (s : State) (msg : Bytes),
    s.served .cfgWindow = true →
    s.cu.cfgGo = true →
    exec (.configWindowGo msg) s = .next (s.ctr Obj.ctrCuhildOverrun)) ∧
  (∀ (s : State) (msg : Bytes),
    s.served .cfgWindow = true →
    s.cu.cfgGo = false →
    leAt (padTo 256 msg) 6 2 ≤ 240 →
    decodeMsg .cfgWindow ((padTo 256 msg).take (16 + leAt (padTo 256 msg) 6 2)) = none →
    ∃ t, exec (.configWindowGo msg) s = .next t ∧
      t.cu.cfgGo = false ∧
      t.cu.cfgDone = s.cu.cfgDone ∧
      t.cu.cfgReq = padTo 256 msg ∧
      t.obj Obj.ctrCuhildMalformed = (s.obj Obj.ctrCuhildMalformed + 1) % 2 ^ 64 ∧
      storageSame s t) ∧
  (∀ (s : State) (msg : Bytes) (r : Req) (b : Body),
    s.served .cfgWindow = true →
    s.cu.cfgGo = false →
    leAt (padTo 256 msg) 6 2 ≤ 240 →
    decodeMsg .cfgWindow ((padTo 256 msg).take (16 + leAt (padTo 256 msg) 6 2)) = some (r, b) →
    exec (.configWindowGo msg) s = .next (({ s with cu := { s.cu with cfgGo := true, cfgReq := padTo 256 msg } } : State).request r b)) ∧
  (∀ (s : State) (id : Nat) (data : Bytes),
    s.on = true →
    s.boot.served = true →
    exec (.canFdFrame id true data) s = .next (s.ctr Obj.ctrCanBad)) ∧
  (∀ (s : State) (id : Nat) (data : Bytes),
    s.on = true →
    s.boot.served = true →
    bits id 25 19 = s.obj Obj.cuhildCanNode →
    bits id 11 8 = 1 →
    bits id 18 12 ≤ 126 →
    s.canPart (bits id 18 12) = none →
    byteAt data 0 = 0x80 →
    ∃ t, exec (.canFdFrame id false data) s = .next t ∧
      t.canPart (bits id 18 12) = some { next := 1, data := data.drop 1, deadline := s.clk.ticks + 2500000 } ∧
      t.objs = s.objs ∧
      storageSame s t) ∧
  (∀ (s : State) (id : Nat) (data : Bytes),
    s.on = true →
    s.boot.served = true →
    bits id 25 19 = s.obj Obj.cuhildCanNode →
    bits id 11 8 = 1 →
    bits id 18 12 ≤ 126 →
    s.canPart (bits id 18 12) = none →
    byteAt data 0 = 0xC0 →
    exec (.canFdFrame id false data) s = .next (({ s.setCanPart (bits id 18 12) none with cu := { (s.setCanPart (bits id 18 12) none).cu with canPrio := mset (fun _ => 0) s.cu.canPrio (bits id 18 12) (bits id 28 26) } } : State).submit (.can (bits id 18 12)) (canMsg (data.drop 1) data.length))) ∧
  (∀ (s : State) (src : Nat) (msg : Bytes) (r : Req) (b : Body),
    s.served (.strait src) = true →
    decodeMsg (.strait src) msg = some (r, b) →
    exec (.straitCuhildMessage src msg) s = .next (s.request r b)) ∧
  (∀ (s : State) (fn : Nat),
    fn ≤ 16 →
    s.linkOn = true →
    ∃ t, exec (.pcieFunctionReset fn) s = .next t ∧
      t.agentAt (boxEp fn) = none ∧
      storageSame s t) ∧
  (∀ (s : State),
    exec .perstNAssert s = .next { s with pwr := { s.pwr with perst := true, pcieUp := false } }) ∧
  (∀ (s : State),
    ∃ t, exec (.perstNRelease) s = .next t ∧
      t.pwr = { s.pwr with perst := false, pcieUp := true } ∧
      objsBut s t [] ∧
      storageSame s t)

/-- Released in Off under its conditions PORST_N starts the device: Cuhild is served, the device is in Berth (power.state 1) with no domain powered, nobody owns it, memory is lost and flash holds what it held. Without its conditions the release is not defined and the model stops. Asserted, or with the always-on supply lost, the device is Off: every object reads its default, memory is lost, flash and the device's fixed facts stay. A restart whose 10 ms are over starts the device again, the grain clock going on and the device time beginning at 0. The model's reading, not a rule: what survives a restart (notes/assumptions/60). -/
def Obligations.StartAndOff : Prop :=
  (∀ (s : State),
    s.on = false →
    ∃ t, exec (.porstNRelease true) s = .next t ∧
      t.on = true ∧
      t.boot.served = true ∧
      t.obj Obj.powerState = 1 ∧
      t.obj Obj.powerDomains = 0 ∧
      t.obj Obj.ownerAgent = 0xFF ∧
      ((∀ a, Memory.read t.mem a = 0)) ∧
      t.flash = s.flash ∧
      t.dev = s.dev) ∧
  (∀ (s : State),
    s.on = false →
    exec (.porstNRelease false) s = .fault .undefinedRelease) ∧
  (∀ (s : State),
    ∃ t, exec (.porstNAssert) s = .next t ∧
      t.on = false ∧
      (∀ k, t.obj k = objDefault k) ∧
      (∀ a, Memory.read t.mem a = 0) ∧
      t.flash = s.flash ∧
      t.dev = s.dev) ∧
  (∀ (s : State),
    ∃ t, exec (.aonLoss) s = .next t ∧
      t.on = false ∧
      (∀ k, t.obj k = objDefault k) ∧
      (∀ a, Memory.read t.mem a = 0) ∧
      t.flash = s.flash ∧
      t.dev = s.dev) ∧
  (∀ (s : State) (w : Nat),
    s.boot.restartAt = some w →
    ∃ t, exec (.restart) s = .next t ∧
      t.on = true ∧
      t.boot.served = true ∧
      t.boot.restartAt = none ∧
      t.obj Obj.powerState = 1 ∧
      t.obj Obj.powerDomains = 0 ∧
      t.clk.ticks = max s.clk.ticks w ∧
      t.clk.dev = 0 ∧
      (∀ a, Memory.read t.mem a = 0) ∧
      t.dev = s.dev)

/-- Written by the owner: start.inference keeps its value and, with PD-NET running, decides plain crossing; power.core_hold keeps its value, and 1 is a start trigger in Berth; power.berth_keep keeps six bits where no domain is kept whose base is not; upd.restart 1 sets the restart 10 ms away unless an update is being programmed, and a restart that is set already stands; time.set arms its value for 1.5 s; a duty keeps its value. The model's reading, not a rule: that reserved bits are masked (notes/assumptions/100). -/
def Obligations.StartAndPowerWrites : Prop :=
  (∀ (s : State) (r : Req) (n : Nat) (v : Nat),
    admitted s r 0x02 n = true →
    owns s r n = true →
    v ≤ 1 →
    ∃ t, exec (.startInferenceWrite r v) s = .next t ∧
      t.obj Obj.startInference = v ∧
      (s.netOn = true → t.obj Obj.startPlainCrossing = (if v = 1 then 0 else 1)) ∧
      wrote t n r 0x1200 0x03 = true ∧
      objsBut s t [Obj.startInference, Obj.startPlainCrossing] ∧
      storageSame s t) ∧
  (∀ (s : State) (r : Req) (n : Nat) (v : Nat),
    admitted s r 0x02 n = true →
    owns s r n = true →
    v ≤ 1 →
    ∃ t, exec (.powerCoreHoldWrite r v) s = .next t ∧
      t.obj Obj.powerCoreHold = v ∧
      t.pwr.trigger = (if v = 1 ∧ s.berth = true ∧ s.boot.served = true ∧ s.obj Obj.thermTripped = 0 ∧ s.pwr.trigger = none then some 2 else s.pwr.trigger) ∧
      wrote t n r 0x1300 0x02 = true ∧
      objsBut s t [Obj.powerCoreHold] ∧
      storageSame s t) ∧
  (∀ (s : State) (r : Req) (n : Nat) (v : Nat),
    admitted s r 0x02 n = true →
    owns s r n = true →
    v < 256 →
    (bit v 1 = true → bit v 0 = true) →
    ((bit v 2 || bit v 3 || bit v 4 || bit v 5) = true → bit v 1 = true) →
    ∃ t, exec (.berthKeepWrite r v) s = .next t ∧
      t.obj Obj.powerBerthKeep = v % 64 ∧
      wrote t n r 0x1300 0x05 = true ∧
      objsBut s t [Obj.powerBerthKeep] ∧
      storageSame s t) ∧
  (∀ (s : State) (r : Req) (n : Nat),
    admitted s r 0x02 n = true →
    owns s r n = true →
    s.obj Obj.updStatus ≠ 1 →
    ∃ t, exec (.updRestartWrite r 1) s = .next t ∧
      t.boot.restartAt = some (s.boot.restartAt.getD (s.clk.ticks + 500000)) ∧
      wrote t n r 0x1250 0x07 = true ∧
      objsBut s t [] ∧
      storageSame s t) ∧
  (∀ (s : State) (r : Req) (n : Nat) (v : Nat),
    admitted s r 0x02 n = true →
    owns s r n = true →
    v < 2 ^ 64 →
    ∃ t, exec (.timeSetWrite r v) s = .next t ∧
      t.clk.armed = some (v, s.clk.ticks + 75000000) ∧
      wrote t n r 0x1330 0x02 = true ∧
      objsBut s t [] ∧
      storageSame s t) ∧
  (∀ (s : State) (r : Req) (n : Nat) (isle v : Nat),
    admitted s r 0x02 n = true →
    owns s r n = true →
    isle < 4 →
    1 ≤ v →
    v ≤ 16 →
    ∃ t, exec (.ownerDutyWrite r isle v) s = .next t ∧
      t.obj (Obj.thrIsleDuty isle) = v ∧
      wrote t n r 0x1320 (1 + isle) = true ∧
      objsBut s t [Obj.thrIsleDuty isle] ∧
      storageSame s t)

/-- A trigger that waits in Berth starts the core clock when the PLL locks: Ready, the wake reason and one more core wake, and PD-NET, not powered, begins to power up with its first two enables. Where the PLL does not lock, power.pll_fail is 1 and the lock is tried again 10 ms later; the retry does the same. Receive signal on a lane of an enabled port or strait that is not in backoff is trigger 4. The end of a backoff lets its time pass. The stop in Ready or Crossing, automatic and not held, leaves the core clock stopped and the device in Berth; PD-NET and PD-HBM stay powered only where power.berth_keep keeps them. The model's reading, not a rule: which trigger starts the clock and when the stop acts (notes/assumptions/57, 59 and 63). -/
def Obligations.CoreClockStartsAndStops : Prop :=
  (∀ (s : State) (reason q : Nat),
    s.berth = true →
    s.pwr.trigger = some q →
    s.pwr.pllRetry = none →
    s.domain 0 = false →
    ∃ t, exec (.coreClockStart reason true) s = .next t ∧
      t.obj Obj.powerState = 2 ∧
      t.pwr.coreClock = true ∧
      t.obj Obj.powerWakeReason = q ∧
      t.obj Obj.powerPllFail = 0 ∧
      t.obj Obj.ctrCoreWakes = (s.obj Obj.ctrCoreWakes + 1) % 2 ^ 64 ∧
      t.obj Obj.startPhase = 2 ∧
      t.pwr.up = some 0 ∧
      bit t.pwr.en 0 = true ∧
      bit t.pwr.en 1 = true ∧
      t.pwr.trigger = none) ∧
  (∀ (s : State) (reason q : Nat),
    s.berth = true →
    s.pwr.trigger = some q →
    s.pwr.pllRetry = none →
    ∃ t, exec (.coreClockStart reason false) s = .next t ∧
      t.obj Obj.powerPllFail = 1 ∧
      t.pwr.pllRetry = some (s.clk.ticks + 500000) ∧
      t.pwr.coreClock = s.pwr.coreClock ∧
      t.obj Obj.powerState = 1 ∧
      t.pwr.trigger = some q) ∧
  (∀ (s : State) (w q : Nat),
    s.pwr.pllRetry = some w →
    s.pwr.trigger = some q →
    s.domain 0 = false →
    ∃ t, exec (.pllLockRetry true) s = .next t ∧
      t.obj Obj.powerState = 2 ∧
      t.pwr.coreClock = true ∧
      t.pwr.pllRetry = none ∧
      t.obj Obj.powerPllFail = 0 ∧
      t.pwr.up = some 0 ∧
      t.clk.ticks = max s.clk.ticks w) ∧
  (∀ (s : State) (w q : Nat),
    s.pwr.pllRetry = some w →
    s.pwr.trigger = some q →
    ∃ t, exec (.pllLockRetry false) s = .next t ∧
      t.pwr.pllRetry = some (max s.clk.ticks w + 500000) ∧
      t.obj Obj.powerPllFail = 1 ∧
      t.pwr.coreClock = s.pwr.coreClock ∧
      t.clk.ticks = max s.clk.ticks w) ∧
  (∀ (s : State) (l : Nat),
    s.berth = true →
    s.laneEnabled l = true →
    (∀ b ∈ s.pwr.backoff, b.1 = l → b.2.2 ≤ s.clk.ticks) →
    s.boot.served = true →
    s.boot.recovery = false →
    s.obj Obj.thermTripped = 0 →
    s.pwr.trigger = none →
    ∃ t, exec (.rxSignalDetect l) s = .next t ∧
      t.pwr.trigger = some 4 ∧
      t.pwr.wakeLanes = (if s.pwr.wakeLanes.contains l then s.pwr.wakeLanes else s.pwr.wakeLanes ++ [l]) ∧
      t.objs = s.objs) ∧
  (∀ (s : State) (l : Nat) (b : Nat × Nat × Nat),
    s.pwr.backoff.find? (fun b => b.1 == l) = some b →
    ∃ t, exec (.detectorBackoffEnd l) s = .next t ∧
      t.clk.ticks = max s.clk.ticks b.2.2 ∧
      t.objs = s.objs ∧
      t.pwr = s.pwr) ∧
  (∀ (s : State),
    s.running = true →
    s.obj Obj.powerAutoStop = 1 →
    s.obj Obj.powerCoreHold = 0 →
    s.idleNow = true →
    ∃ t, exec (.coreClockStop) s = .next t ∧
      t.pwr.coreClock = false ∧
      t.obj Obj.powerState = 1 ∧
      t.obj Obj.startPhase = 1 ∧
      t.obj Obj.ctrCoreStops = (s.obj Obj.ctrCoreStops + 1) % 2 ^ 64 ∧
      t.domain 0 = (s.domain 0 && bit (s.obj Obj.powerBerthKeep) 0) ∧
      t.domain 1 = (s.domain 1 && bit (s.obj Obj.powerBerthKeep) 1) ∧
      t.pwr.wakeLanes = [])

/-- The power-good of a rail sets its bit; where it is the last that PD-NET's first step waits for, the next enable rises and its power-good is due within 10 ms. The next enable of a domain that powers down falls at its turn, EN_CORE together with EN_SRAM. -/
def Obligations.RailsRiseAndFall : Prop :=
  (∀ (s : State) (q : Nat),
    s.on = true →
    q < 7 →
    s.pwr.waits.any (fun w => w.1 == q) = false →
    ∃ t, exec (.powerGoodArrive q) s = .next t ∧
      t.objBit Obj.elecRailPg q = true ∧
      t.pwr = s.pwr ∧
      objsBut s t [Obj.elecRailPg] ∧
      storageSame s t) ∧
  (∀ (s : State) (q : Nat),
    s.on = true →
    q < 7 →
    s.pwr.waits.any (fun w => w.1 == q) = true →
    s.pwr.waits.all (fun w => w.1 == q) = true →
    s.pwr.up = some 0 →
    bit s.pwr.en 2 = false →
    ∃ t, exec (.powerGoodArrive q) s = .next t ∧
      t.objBit Obj.elecRailPg q = true ∧
      t.pwr.waits = [(2, s.clk.ticks + 500000)] ∧
      t.pwr.en = setBit s.pwr.en 2 true ∧
      objsBut s t [Obj.elecRailPg] ∧
      storageSame s t) ∧
  (∀ (s : State) (q : Nat) (rest : List Nat),
    s.pwr.down = q :: rest →
    ∃ t, exec (.reverseEnableDrop q) s = .next t ∧
      t.pwr.down = rest ∧
      bit t.pwr.en q = false ∧
      (q = 1 → bit t.pwr.en 0 = false) ∧
      t.objs = s.objs ∧
      storageSame s t)

/-- THERM_TRIP_N from outside, the loss of PLL lock while the core clock runs, a power-good missing at its 10 ms and a power-good that falls while its enable is high each trip the device: therm.tripped 1 with cause 0xFE and source 1, 3, 2 and 2, the core clock stopped, every enable low, Berth; each is counted, and the rail is shown. therm.trip_clear 1 while no sensor in use reads above therm.resume_temp clears the trip; with therm.auto_resume 1 it clears once every die has been cool for 1 s. The model's reading, not a rule: that a power-good which falls outside a trip is a trip of its own (notes/assumptions/73). -/
def Obligations.TripsAndTheirClearing : Prop :=
  (∀ (s : State),
    s.on = true →
    s.obj Obj.thermTripped = 0 →
    ∃ t, exec (.externalTrip) s = .next t ∧
      t.obj Obj.thermTripped = 1 ∧
      t.obj Obj.thermTripCause = 0xFE ∧
      t.pwr.coreClock = false ∧
      t.pwr.en = 0 ∧
      t.obj Obj.powerState = 1 ∧
      t.obj Obj.elecTripSource = 1 ∧
      t.obj Obj.ctrThermTrips = (s.obj Obj.ctrThermTrips + 1) % 2 ^ 64) ∧
  (∀ (s : State),
    s.pwr.coreClock = true →
    s.obj Obj.thermTripped = 0 →
    ∃ t, exec (.pllLockLoss) s = .next t ∧
      t.obj Obj.thermTripped = 1 ∧
      t.obj Obj.thermTripCause = 0xFE ∧
      t.pwr.coreClock = false ∧
      t.pwr.en = 0 ∧
      t.obj Obj.powerState = 1 ∧
      t.obj Obj.elecTripSource = 3 ∧
      t.obj Obj.powerPllFail = 1 ∧
      t.obj Obj.ctrPllLockLosses = (s.obj Obj.ctrPllLockLosses + 1) % 2 ^ 64) ∧
  (∀ (s : State) (q : Nat) (w : Nat × Nat),
    s.pwr.waits.find? (fun w => w.1 == q) = some w →
    s.obj Obj.thermTripped = 0 →
    ∃ t, exec (.powerGoodTimeout q) s = .next t ∧
      t.obj Obj.thermTripped = 1 ∧
      t.obj Obj.thermTripCause = 0xFE ∧
      t.pwr.coreClock = false ∧
      t.pwr.en = 0 ∧
      t.obj Obj.powerState = 1 ∧
      t.obj Obj.elecTripSource = 2 ∧
      t.obj Obj.elecRailFault = 2 ^ q ∧
      t.obj Obj.ctrRailFaults = (s.obj Obj.ctrRailFaults + 1) % 2 ^ 64) ∧
  (∀ (s : State) (q : Nat),
    s.on = true →
    q < 7 →
    bit s.pwr.en q = true →
    s.obj Obj.thermTripped = 0 →
    ∃ t, exec (.powerGoodFall q) s = .next t ∧
      t.obj Obj.thermTripped = 1 ∧
      t.obj Obj.thermTripCause = 0xFE ∧
      t.pwr.coreClock = false ∧
      t.pwr.en = 0 ∧
      t.obj Obj.powerState = 1 ∧
      t.obj Obj.elecTripSource = 2 ∧
      t.obj Obj.elecRailFault = 2 ^ q ∧
      t.objBit Obj.elecRailPg q = false) ∧
  (∀ (s : State) (r : Req) (n : Nat),
    admitted s r 0x02 n = true →
    owns s r n = true →
    s.obj Obj.thermTripped = 1 →
    s.heat.sensors.all (fun e => decide (e.2.val ≤ (s.obj Obj.thermResumeTemp : Int) * 256)) = true →
    ∃ t, exec (.tripClear r 1) s = .next t ∧
      t.obj Obj.thermTripped = 0 ∧
      t.pwr.tripCool = none ∧
      wrote t n r 0x1400 0x0F = true ∧
      objsBut s t [Obj.thermTripped] ∧
      storageSame s t) ∧
  (∀ (s : State) (w : Nat),
    s.obj Obj.thermTripped = 1 →
    s.obj Obj.thermAutoResume = 1 →
    s.pwr.tripCool = some w →
    ∃ t, exec (.tripAutoResume) s = .next t ∧
      t.obj Obj.thermTripped = 0 ∧
      t.pwr.tripCool = none ∧
      t.clk.ticks = max s.clk.ticks (w + 50000000) ∧
      objsBut s t [Obj.thermTripped] ∧
      storageSame s t)

/-- A pending rewrite of the kept objects goes to the other copy with the next sequence; flash outside that copy's 64 KiB holds what it held. A good read-back ends an update's programming with its magic written and upd.status 2; a bad one leaves the flash and shows 3. -/
def Obligations.FlashAndUpdates : Prop :=
  (∀ (s : State),
    s.boot.keptPending = true →
    ∃ t, exec (.keptObjectRewrite) s = .next t ∧
      t.boot.keptPending = false ∧
      t.boot.keptCopy = 1 - s.boot.keptCopy ∧
      t.boot.keptSeq = (s.boot.keptSeq + 1) % 2 ^ 32 ∧
      t.flashRead (keptAt (1 - s.boot.keptCopy)) (s.keptBytes t.boot.keptSeq).length = s.keptBytes t.boot.keptSeq ∧
      ((∀ a, a < keptAt (1 - s.boot.keptCopy) ∨ keptAt (1 - s.boot.keptCopy) + 0x10000 ≤ a → t.flashRead a 1 = s.flashRead a 1)) ∧
      t.objs = s.objs) ∧
  (∀ (s : State) (p : Prog),
    s.boot.prog = some p →
    4 ≤ p.image.length →
    ∃ t, exec (.updateProgrammingDone true) s = .next t ∧
      t.boot.prog = none ∧
      t.obj Obj.updStatus = 2 ∧
      t.flashRead (bankAt p.kind p.bank).1 4 = p.image.take 4 ∧
      objsBut s t [Obj.updStatus]) ∧
  (∀ (s : State) (p : Prog),
    s.boot.prog = some p →
    ∃ t, exec (.updateProgrammingDone false) s = .next t ∧
      t.boot.prog = none ∧
      t.obj Obj.updStatus = 3 ∧
      t.flash = s.flash ∧
      objsBut s t [Obj.updStatus])

/-- An edge within 500 ms of the one before it is ignored. Of the others, an edge with a time.set armed sets the device time to it as a step; one whose error is within time.step_limit corrects the learnt frequency by an eighth of the error and the rate by a further half, each bound to 200 ppm; one beyond it lets the next grain tick step the time by the error. The lock follows the errors: it ends above 1,000 ns and begins with the eighth edge in a row within 100 ns. 1.5 s without an edge ends the lock; 1.5 s after time.set its value takes effect. The model's reading, not a rule: that the edge of an armed time.set is not judged (notes/assumptions/61). -/
def Obligations.DeviceTimeDiscipline : Prop :=
  (∀ (s : State) (off p : Nat),
    s.clk.ppsTick = some p →
    s.clk.ticks < p + 25000000 →
    exec (.ppsEdge off) s = .next s) ∧
  (∀ (s : State) (off v w : Nat),
    s.on = true →
    (∀ p, s.clk.ppsTick = some p → p + 25000000 ≤ s.clk.ticks) →
    s.clk.armed = some (v, w) →
    ∃ t, exec (.ppsEdge off) s = .next t ∧
      t.clk = { s.clk with dev := v % 2 ^ 64, step := 0, armed := none, ppsTick := some s.clk.ticks } ∧
      t.obj Obj.ctrTimeSteps = (s.obj Obj.ctrTimeSteps + 1) % 2 ^ 64 ∧
      objsBut s t [Obj.ctrTimeSteps] ∧
      storageSame s t) ∧
  (∀ (s : State) (off good : Nat) (e f : Int),
    s.on = true →
    (∀ p, s.clk.ppsTick = some p → p + 25000000 ≤ s.clk.ticks) →
    s.clk.armed = none →
    e = ((s.clk.dev + off % 20 : Nat) + 500000000 : Int) % 1000000000 - 500000000 →
    good = (if e.natAbs ≤ 100 then min 8 (s.clk.ppsGood + 1) else 0) →
    f = max (-200000) (min 200000 (roundEvenI (8 * s.clk.freq - e) 8)) →
    e.natAbs ≤ s.obj Obj.timeStepLimit →
    ∃ t, exec (.ppsEdge off) s = .next t ∧
      t.clk = { s.clk with freq := f, ppsGood := good, ppsTick := some s.clk.ticks } ∧
      t.obj Obj.timeRatePpb = ofSigned 32 (max (-200000) (min 200000 (roundEvenI (2 * f - e) 2))) ∧
      t.obj Obj.timePpsLocked = (if 1000 < e.natAbs then 0 else if good = 8 then 1 else s.obj Obj.timePpsLocked) ∧
      objsBut s t [Obj.timeRatePpb, Obj.timePpsLocked] ∧
      storageSame s t) ∧
  (∀ (s : State) (off good : Nat) (e : Int),
    s.on = true →
    (∀ p, s.clk.ppsTick = some p → p + 25000000 ≤ s.clk.ticks) →
    s.clk.armed = none →
    e = ((s.clk.dev + off % 20 : Nat) + 500000000 : Int) % 1000000000 - 500000000 →
    good = (if e.natAbs ≤ 100 then min 8 (s.clk.ppsGood + 1) else 0) →
    s.obj Obj.timeStepLimit < e.natAbs →
    ∃ t, exec (.ppsEdge off) s = .next t ∧
      t.clk = { s.clk with step := -e, ppsGood := good, ppsTick := some s.clk.ticks } ∧
      t.obj Obj.ctrTimeSteps = (s.obj Obj.ctrTimeSteps + 1) % 2 ^ 64 ∧
      t.obj Obj.timePpsLocked = (if 1000 < e.natAbs then 0 else if good = 8 then 1 else s.obj Obj.timePpsLocked) ∧
      objsBut s t [Obj.ctrTimeSteps, Obj.timePpsLocked] ∧
      storageSame s t) ∧
  (∀ (s : State) (w : Nat),
    s.clk.ppsTick = some w →
    ∃ t, exec (.ppsLossTimeout) s = .next t ∧
      t.obj Obj.timePpsLocked = 0 ∧
      t.clk.ppsGood = 0 ∧
      t.clk.ppsTick = none ∧
      t.clk.ticks = max s.clk.ticks (w + 75000000) ∧
      objsBut s t [Obj.timePpsLocked] ∧
      storageSame s t) ∧
  (∀ (s : State) (v w : Nat),
    s.clk.armed = some (v, w) →
    ∃ t, exec (.timeSetTimeout) s = .next t ∧
      t.clk.dev = v % 2 ^ 64 ∧
      t.clk.armed = none ∧
      t.clk.step = 0 ∧
      t.clk.ticks = max s.clk.ticks w ∧
      t.obj Obj.ctrTimeSteps = (s.obj Obj.ctrTimeSteps + 1) % 2 ^ 64 ∧
      objsBut s t [Obj.ctrTimeSteps] ∧
      storageSame s t)

/-- An idle core of a running isle enters Nap once it has had nothing to issue for res.nap_after; a quad in Nap for res.doze_after whose floor allows it begins Doze, an isle whose quads all doze under floor 3 for res.isle_off_after begins Off, and each entry that no wake met completes: the quad dozes, the isle's domain is down and counted. A wake of a quad of a powered isle ends Nap and Doze, or waits for an entry under way. part.quads takes quads that no other partition holds and gives up quads that no slot uses. The model's reading, not a rule: the ends of the residency timers as commands (notes/assumptions/50). -/
def Obligations.ResidencyOfCores : Prop :=
  (∀ (s : State) (c : Nat),
    s.isleOn (c / 32) = true →
    (s.core c).idle = true →
    s.napping c = false →
    ∃ t, exec (.napEntry c) s = .next t ∧
      t.napping c = true ∧
      (∀ d, d ≠ c → t.napping d = s.napping d) ∧
      t.clk.ticks = max s.clk.ticks (s.napAt c) ∧
      t.objs = s.objs ∧
      storageSame s t) ∧
  (∀ (s : State) (q : Nat),
    s.isleOn (q / 8) = true →
    s.quadState q = 1 →
    2 ≤ s.floor q →
    s.entersAt q = false →
    ∃ t, exec (.dozeEntry q) s = .next t ∧
      t.res.entering = s.res.entering ++ [(false, q)] ∧
      t.res.ends = s.res.ends ++ [((false, q), t.clk.ticks + 1)] ∧
      t.clk.ticks = max s.clk.ticks (s.dozeAt q) ∧
      t.objs = s.objs ∧
      storageSame s t) ∧
  (∀ (s : State) (n : Nat),
    s.isleOn n = true →
    s.res.entering.contains (true, n) = false →
    (∀ i ∈ List.range 8, s.dozing (8 * n + i) = true ∧ s.floor (8 * n + i) = 3) →
    ∃ t, exec (.isleOffEntry n) s = .next t ∧
      t.res.entering = s.res.entering ++ [(true, n)] ∧
      t.res.ends = s.res.ends ++ [((true, n), t.clk.ticks + 500)] ∧
      t.clk.ticks = max s.clk.ticks (s.offAt n) ∧
      t.objs = s.objs ∧
      storageSame s t) ∧
  (∀ (s : State) (q : Nat),
    q < 32 →
    s.res.entering.contains (false, q) = true →
    s.res.wakes.contains q = false →
    2 ≤ s.floor q →
    (∀ i ∈ List.range 32, i ≠ q → s.domain (2 + i / 8) = true → s.entersAt i = false → s.quadState i ≤ s.floor i) →
    (∀ i ∈ List.range 4, (s.sched (q / 8)).waiting.any (fun e => e.1 == 4 * q + i) = false) →
    ∃ t, exec (.residencyEntryDone false q) s = .next t ∧
      t.dozing q = true ∧
      t.res.entering = s.res.entering.erase (false, q) ∧
      t.objs = s.objs ∧
      storageSame s t) ∧
  (∀ (s : State) (n : Nat),
    n < 4 →
    s.res.entering.contains (true, n) = true →
    ∃ t, exec (.residencyEntryDone true n) s = .next t ∧
      t.domain (2 + n) = false ∧
      t.obj Obj.ctrIsleOffEntries = (s.obj Obj.ctrIsleOffEntries + 1) % 2 ^ 64 ∧
      bit t.res.off n = true) ∧
  (∀ (s : State) (q : Nat),
    q < 32 →
    s.domain (2 + q / 8) = true →
    s.res.entering.any (fun e => if e.1 then e.2 == q / 8 else e.2 == q) = false →
    ∃ t, exec (.residencyWake q) s = .next t ∧
      t.dozing q = false ∧
      (∀ i, i < 4 → t.napping (4 * q + i) = false) ∧
      t.objs = s.objs ∧
      storageSame s t) ∧
  (∀ (s : State) (r : Req) (n : Nat) (p v : Nat),
    admitted s r 0x02 n = true →
    owns s r n = true →
    p < 16 →
    v < 2 ^ 32 →
    (∀ q ∈ List.range 32, bit v q = true → bit (s.obj (Obj.partQuads p)) q = false → (∀ o ∈ List.range 16, o ≠ p → bit (s.obj (Obj.partQuads o)) q = false) ∧ bit (s.obj Obj.faultIslesFenced) (q / 8) = false) →
    (∀ q ∈ List.range 32, bit (s.obj (Obj.partQuads p)) q = true → bit v q = false → ∀ m ∈ List.range 4, s.slotState p m = 0 ∨ bit (s.obj (Obj.partSlotQuads p m)) q = false) →
    ∃ t, exec (.partQuadsWrite r p v) s = .next t ∧
      t.obj (Obj.partQuads p) = v ∧
      wrote t n r (0x8300 + 0x400 * p) 1 = true ∧
      objsBut s t [Obj.partQuads p] ∧
      storageSame s t)

/-- A frame of admissible length at a port that is Up, which Brolum does not consume, is counted at its port; in plain crossing a good one joins the egress queue of the paired port unchanged, and one found bad before it could leave is discarded and counted; a good non-IP frame under a plain permit verdict joins that queue too; a frame below 64 or above port.max_frame bytes with its FCS is counted as bad and goes no further. The head of the egress queue of a port that is Up and not held by XOFF_IN leaves whole and is counted; one of whose storage a word is uncorrectable is discarded and counted as lost to a fault. XOFF_IN shows its level. The model's reading, not a rule: a frame below 64 bytes counted as a long one is (notes/assumptions/46). -/
def Obligations.FramesCross : Prop :=
  (∀ (s : State) (f : FrameIn),
    s.portTakes f.port = true →
    64 ≤ f.bytes.length + 4 →
    f.bytes.length + 4 ≤ s.obj Obj.portMaxFrame →
    s.consumes f = false →
    f.fcsOk = true →
    f.fecBad = false →
    s.obj Obj.startPlainCrossing = 1 →
    s.admits (paired f.port) = .in_ →
    ∃ t, exec (.frameIngress f) s = .next t ∧
      (t.eq (paired f.port)).frames = (s.eq (paired f.port)).frames ++ [{ bytes := f.bytes, bad := false, since := s.clk.ticks, judge := false }] ∧
      t.light (portLight f.port 0) = (s.light (portLight f.port 0) + 1) % 2 ^ 64 ∧
      t.light (portLight f.port 1) = (s.light (portLight f.port 1) + (f.bytes.length + 4)) % 2 ^ 64 ∧
      storageSame s t) ∧
  (∀ (s : State) (f : FrameIn),
    s.portTakes f.port = true →
    64 ≤ f.bytes.length + 4 →
    f.bytes.length + 4 ≤ s.obj Obj.portMaxFrame →
    s.consumes f = false →
    f.fcsOk = true →
    f.fecBad = false →
    s.obj Obj.startPlainCrossing = 0 →
    (s.parse f.bytes).cls = .nonip →
    bits (s.obj (Obj.partNonipVerdict (s.partOf f.port (s.parse f.bytes).vid))) 31 28 = 0 →
    s.obj (Obj.partTagMode (s.partOf f.port (s.parse f.bytes).vid)) ≠ 1 →
    s.admits (paired f.port) = .in_ →
    ∃ t, exec (.frameIngress f) s = .next t ∧
      (t.eq (paired f.port)).frames = (s.eq (paired f.port)).frames ++ [{ bytes := f.bytes, bad := false, since := s.clk.ticks, judge := false }] ∧
      storageSame s t) ∧
  (∀ (s : State) (f : FrameIn),
    s.portTakes f.port = true →
    64 ≤ f.bytes.length + 4 →
    f.bytes.length + 4 ≤ s.obj Obj.portMaxFrame →
    (f.fcsOk = false ∨ f.fecBad = true) →
    f.badLate = false →
    s.obj Obj.startPlainCrossing = 1 →
    s.admits (paired f.port) = .in_ →
    ∃ t, exec (.frameIngress f) s = .next t ∧
      t.obj Obj.ctrIngressBad = (s.obj Obj.ctrIngressBad + 1) % 2 ^ 64 ∧
      t.x = s.x ∧
      t.light (portLight f.port 0) = (s.light (portLight f.port 0) + 1) % 2 ^ 64 ∧
      storageSame s t) ∧
  (∀ (s : State) (f : FrameIn),
    s.portTakes f.port = true →
    (f.bytes.length + 4 < 64 ∨ s.obj Obj.portMaxFrame < f.bytes.length + 4) →
    ∃ t, exec (.frameIngress f) s = .next t ∧
      t.obj Obj.ctrIngressBad = (s.obj Obj.ctrIngressBad + 1) % 2 ^ 64 ∧
      t.x = s.x ∧
      t.flow = s.flow ∧
      storageSame s t) ∧
  (∀ (s : State) (q : Nat) (f : EFrame) (fs : List EFrame) (late : Bool),
    s.netOn = true →
    s.portState q = 2 →
    s.xoffed q = false →
    (s.eq q).frames = f :: fs →
    f.judge = false →
    f.bad = false →
    ∃ t, exec (.frameTransmit q 0 0 late) s = .next t ∧
      t.out.head? = some (.frame q f.bytes false) ∧
      (t.eq q).frames = fs ∧
      t.light (portLight q 2) = (s.light (portLight q 2) + 1) % 2 ^ 64 ∧
      t.light (portLight q 3) = (s.light (portLight q 3) + (f.bytes.length + 4)) % 2 ^ 64 ∧
      storageSame s t) ∧
  (∀ (s : State) (q bad fixed : Nat) (f : EFrame) (fs : List EFrame),
    s.netOn = true →
    s.portState q = 2 →
    s.xoffed q = false →
    (s.eq q).frames = f :: fs →
    f.judge = false →
    f.bad = false →
    0 < bad →
    ∃ t, exec (.frameTransmit q bad fixed false) s = .next t ∧
      (t.eq q).frames = fs ∧
      t.light (portLight q 2) = s.light (portLight q 2) ∧
      t.obj Obj.ctrFaultFramesLost = (s.obj Obj.ctrFaultFramesLost + 1) % 2 ^ 64 ∧
      t.obj Obj.ctrQueueEccUncorrectable = (s.obj Obj.ctrQueueEccUncorrectable + bad) % 2 ^ 64 ∧
      storageSame s t) ∧
  (∀ (s : State) (g : Nat) (level : Bool),
    s.on = true →
    g < 4 →
    ∃ t, exec (.xoffInChange g level) s = .next t ∧
      t.objBit Obj.elecXoffIn g = level ∧
      objsBut s t [Obj.elecXoffIn] ∧
      storageSame s t)

/-- At the hold limit of a pipe's earliest held key its time passes, and the keys that are due leave the pipe's hold list; the others stay in their order. -/
def Obligations.HeldFramesLeave : Prop :=
  ∀ (s : State) (n : Nat) (h : HeldKey) (hs : List HeldKey),
    s.netOn = true →
    s.holds n = h :: hs →
    ∃ t, exec (.holdLimitExpiry n) s = .next t ∧
      t.clk.ticks = max s.clk.ticks (hs.foldl (fun m x => min m x.deadline) h.deadline) ∧
      t.holds n = (h :: hs).filter (fun x => decide (t.clk.ticks < x.deadline)) ∧
      storageSame s t

/-- A port that is Up and loses its link with no series open goes to Held until port.hold_time, its link epoch and down count moved on and a series begun, a frame in transmission cut off and counted as a link-down drop; a Held or Down port of a matched group that gains its link is Up, and the device is in Crossing; once the tick of the hold deadline is over a Held port goes Down with an empty queue; damping ends with training and no series; a series closes once 1 ms after its last down is over; training over time restarts and is counted. -/
def Obligations.PortsFollowTheirLinks : Prop :=
  (∀ (s : State) (q : Nat),
    s.netOn = true →
    q < 64 →
    s.portState q = 2 →
    (s.port q).series = 0 →
    0 < s.obj Obj.portHoldTime →
    (∀ f ∈ (s.eq q).frames.head?, f.bad = false) →
    ∃ t, exec (.linkLoss ⟨q, false⟩) s = .next t ∧
      t.portState q = 3 ∧
      t.obj (portObj q 2) = (s.obj (portObj q 2) + 1) % 2 ^ 32 ∧
      t.obj (portObj q 10) = (s.obj (portObj q 10) + 1) % 2 ^ 32 ∧
      (t.port q).hold = some (s.clk.ticks + usT (s.obj Obj.portHoldTime)) ∧
      (t.port q).series = 1 ∧
      (t.port q).link = false ∧
      (t.eq q).frames = (s.eq q).frames ∧
      storageSame s t) ∧
  (∀ (s : State) (q : Nat) (f : EFrame) (fs : List EFrame),
    s.netOn = true →
    q < 64 →
    s.portState q = 2 →
    (s.port q).series = 0 →
    0 < s.obj Obj.portHoldTime →
    (s.eq q).frames = f :: fs →
    ∃ t, exec (.linkLoss ⟨q, true⟩) s = .next t ∧
      t.portState q = 3 ∧
      (t.eq q).frames = fs ∧
      t.obj (portObj q 6) = (s.obj (portObj q 6) + 1) % 2 ^ 64 ∧
      (t.port q).link = false ∧
      storageSame s t) ∧
  (∀ (s : State) (q : Nat),
    s.netOn = true →
    q < 64 →
    s.running = true →
    s.present q = true →
    s.mismatched q = false →
    (s.portState q = 3 ∨ s.portState q = 4) →
    (s.port q).followed = false →
    (32 ≤ q → s.lightOk q = true) →
    ∃ t, exec (.linkUp q) s = .next t ∧
      t.portState q = 2 ∧
      t.obj Obj.powerState = 3 ∧
      (t.port q).hold = none ∧
      (t.eq q).frames.length = (s.eq q).frames.length ∧
      storageSame s t) ∧
  (∀ (s : State) (q d : Nat),
    q < 64 →
    (s.port q).hold = some d →
    s.portState q = 3 →
    ∃ t, exec (.holdDeadline q) s = .next t ∧
      t.portState q = 4 ∧
      (t.eq q).frames = [] ∧
      (t.port q).hold = none ∧
      t.clk.ticks = max s.clk.ticks (d + 1) ∧
      storageSame s t) ∧
  (∀ (s : State) (q d : Nat),
    q < 64 →
    (s.port q).damp = some d →
    ∃ t, exec (.dampEnd q) s = .next t ∧
      t.portState q = (if (s.port q).hold.isSome then 3 else 4) ∧
      (t.port q).damp = none ∧
      (t.port q).series = 0 ∧
      t.clk.ticks = max s.clk.ticks d ∧
      storageSame s t) ∧
  (∀ (s : State) (q : Nat),
    0 < (s.port q).series →
    (s.port q).damp = none →
    ∃ t, exec (.seriesClose q) s = .next t ∧
      (t.port q).series = 0 ∧
      t.clk.ticks = max s.clk.ticks ((s.port q).lastDown + 50001) ∧
      t.objs = s.objs ∧
      storageSame s t) ∧
  (∀ (s : State) (q d : Nat),
    (s.port q).train = some d →
    ∃ t, exec (.trainTimeout q) s = .next t ∧
      (t.port q).train = some (max s.clk.ticks d + msT (s.obj Obj.portTrainTimeout)) ∧
      t.obj (portObj q 12) = (s.obj (portObj q 12) + 1) % 2 ^ 32 ∧
      t.clk.ticks = max s.clk.ticks d ∧
      storageSame s t)

/-- Written by the owner, a port enable word or a group's mode keeps its value; meter.apply 1 gives the selected meter the staged rates, bursts and yellow parameter, full buckets and the present tick where the peak rate is at least the committed one and both bursts take a frame of port.max_frame. -/
def Obligations.PortAndMeterWrites : Prop :=
  (∀ (s : State) (r : Req) (n : Nat) (line : Bool) (v : Nat),
    admitted s r 0x02 n = true →
    owns s r n = true →
    v < 2 ^ 32 →
    ∃ t, exec (.portEnableWrite r line v) s = .next t ∧
      t.obj (if line then Obj.portLineEnable else Obj.portHostEnable) = v ∧
      storageSame s t) ∧
  (∀ (s : State) (r : Req) (n : Nat) (line : Bool) (g v : Nat),
    admitted s r 0x02 n = true →
    owns s r n = true →
    g < 4 →
    1 ≤ v →
    v ≤ 3 →
    ∃ t, exec (.portModeWrite r line g v) s = .next t ∧
      t.obj (if line then Obj.portLineMode g else Obj.portHostMode g) = v ∧
      storageSame s t) ∧
  (∀ (s : State) (r : Req) (n : Nat),
    admitted s r 0x02 n = true →
    owns s r n = true →
    s.obj Obj.meterCir ≤ s.obj Obj.meterPir →
    s.obj Obj.portMaxFrame ≤ s.obj Obj.meterCbs →
    s.obj Obj.portMaxFrame ≤ s.obj Obj.meterPbs →
    ∃ t, exec (.meterApply r 1) s = .next t ∧
      t.meter (s.obj Obj.meterSelect) = { s.meter (s.obj Obj.meterSelect) with cir := s.obj Obj.meterCir, cbs := s.obj Obj.meterCbs, pir := s.obj Obj.meterPir, pbs := s.obj Obj.meterPbs, yellow := s.obj Obj.meterYellow, tc := s.obj Obj.meterCbs * 400000, tp := s.obj Obj.meterPbs * 400000, at_ := s.clk.ticks } ∧
      wrote t n r 0x2100 0x0C = true ∧
      objsBut s t [] ∧
      storageSame s t)

/-- Descriptors of a ring that serves them: READ_KEY writes the entry of its key to the host's buffer, READ_SLOT and SCAN the slots from their address, TRIE_READ the words of its range (word 0 of the result table reads 0); each is completed with status 0, and the table and the trie are as before. -/
def Obligations.TableReads : Prop :=
  (∀ (s : State) (d : Desc) (i : Nat),
    ringServes s d = true →
    keyScope d = true →
    s.findKey d.key = some i →
    d.ecc = [] →
    ∃ t, exec (.readKey d) s = .next t ∧
      completed s t d 0x01 { st := 0, slot := some i, ent := s.entry i } = true ∧
      t.out.contains (.dma d.fn d.buf (entryBytes (s.entry i))) = true ∧
      t.flow.entries = s.flow.entries ∧
      t.flow.trie = s.flow.trie ∧
      storageSame s t) ∧
  (∀ (s : State) (d : Desc) (i : Nat),
    ringServes s d = true →
    d.fn = 0 →
    d.ecc = [] →
    i < 4194304 →
    d.a = 0x6000000000 + 64 * i →
    ∃ t, exec (.readSlot d) s = .next t ∧
      completed s t d 0x02 { st := 0, slot := some i, ent := s.entry i } = true ∧
      t.out.contains (.dma 0 d.buf (entryBytes (s.entry i))) = true ∧
      t.flow.entries = s.flow.entries ∧
      t.flow.trie = s.flow.trie ∧
      storageSame s t) ∧
  (∀ (s : State) (d : Desc) (i : Nat),
    ringServes s d = true →
    d.fn = 0 →
    d.ecc = [] →
    1 ≤ d.b →
    d.b ≤ 4096 →
    i + d.b ≤ 4194304 →
    d.a = 0x6000000000 + 64 * i →
    ∃ t, exec (.scan d) s = .next t ∧
      completed s t d 0x03 { st := 0, slot := none, ent := FEntry.empty } = true ∧
      t.out.contains (.dma 0 d.buf ((List.range d.b).flatMap (fun j => entryBytes (s.entry (i + j))))) = true ∧
      t.flow.entries = s.flow.entries ∧
      t.flow.trie = s.flow.trie ∧
      storageSame s t) ∧
  (∀ (s : State) (d : Desc) (target first : Nat),
    ringServes s d = true →
    d.fn = 0 →
    d.a = target * 2 ^ 32 + first →
    target ≤ 9 →
    1 ≤ d.b →
    d.b ≤ 1024 →
    first + d.b ≤ trieSize target →
    ∃ t, exec (.trieRead d) s = .next t ∧
      completed s t d 0x31 { st := 0 } = true ∧
      t.out.contains (.dma 0 d.buf ((List.range d.b).flatMap (fun j => le 4 (if target = 9 ∧ first + j = 0 then 0 else s.trieAt target (first + j))))) = true ∧
      t.flow.entries = s.flow.entries ∧
      t.flow.trie = s.flow.trie ∧
      storageSame s t)

/-- Descriptors of a ring that serves them, on a key in their scope: INSERT of a new unpinned key that finds a free slot without a move puts a tier 3 entry with the descriptor's verdict, score and epoch there; UPDATE of an entry that no other owner has locked gives it tier 3 and the descriptor's verdict, score and epoch; DELETE, and AGE_DELETE of an entry old enough, empty its slot; LOCK and UNLOCK set and clear its lock. Each is completed with status 0 and leaves every other slot as it was. An UPDATE that finds an uncorrectable word in its key's entry first invalidates the slot, and ends with status 1. -/
def Obligations.TableChanges : Prop :=
  (∀ (s : State) (d : Desc) (i : Nat),
    ringServes s d = true →
    keyScope d = true →
    bits d.flags 2 0 = 0 →
    (∀ x ∈ d.ecc, (s.candidates d.key).contains x = false) →
    s.findKey d.key = none →
    s.partCount d.key.part < s.obj (Obj.partFlowQuota d.key.part) →
    (s.candidates d.key).find? (fun j => !(s.entry j).valid) = some i →
    ∃ t, exec (.insert d) s = .next t ∧
      t.entry i = { FEntry.empty with valid := true, key := d.key, tier := 3, score := d.score, verdict := d.verdict.toNat, epoch := d.mepoch, stamp := s.stamp } ∧
      completed s t d 0x10 { st := 0, slot := some i, ent := t.entry i } = true ∧
      (∀ j, j ≠ i → t.entry j = s.entry j) ∧
      storageSame s t) ∧
  (∀ (s : State) (d : Desc) (i : Nat),
    ringServes s d = true →
    keyScope d = true →
    (∀ x ∈ d.ecc, (s.candidates d.key).contains x = false) →
    s.findKey d.key = some i →
    (s.locked (s.entry i) = false ∨ (s.entry i).owner = (s.ring (4 * d.fn + d.ring)).tag) →
    bits d.flags 1 0 = 0 →
    ∃ t, exec (.update d) s = .next t ∧
      (t.entry i).verdict = d.verdict.toNat ∧
      (t.entry i).tier = 3 ∧
      (t.entry i).score = d.score ∧
      (t.entry i).epoch = d.mepoch ∧
      (t.entry i).key = (s.entry i).key ∧
      (t.entry i).lock = (s.entry i).lock ∧
      completed s t d 0x11 { st := 0, slot := some i, ent := t.entry i } = true ∧
      (∀ j, j ≠ i → t.entry j = s.entry j) ∧
      storageSame s t) ∧
  (∀ (s : State) (d : Desc) (i : Nat),
    ringServes s d = true →
    keyScope d = true →
    (∀ x ∈ d.ecc, (s.candidates d.key).contains x = false) →
    s.findKey d.key = some i →
    (s.locked (s.entry i) = false ∨ ((s.entry i).owner = (s.ring (4 * d.fn + d.ring)).tag ∧ bit d.flags 1 = true)) →
    (d.fn = 0 ∨ (s.entry i).pinned = false) →
    ∃ t, exec (.delete d) s = .next t ∧
      t.entry i = FEntry.empty ∧
      completed s t d 0x12 { st := 0, slot := some i, ent := s.entry i } = true ∧
      (∀ j, j ≠ i → t.entry j = s.entry j) ∧
      storageSame s t) ∧
  (∀ (s : State) (d : Desc) (i : Nat),
    ringServes s d = true →
    keyScope d = true →
    (∀ x ∈ d.ecc, (s.candidates d.key).contains x = false) →
    s.findKey d.key = some i →
    (s.locked (s.entry i) = false ∨ ((s.entry i).owner = (s.ring (4 * d.fn + d.ring)).tag ∧ bit d.flags 1 = true)) →
    d.a ≤ (s.stamp + 2 ^ 32 - (s.entry i).stamp) % 2 ^ 32 →
    ∃ t, exec (.ageDelete d) s = .next t ∧
      t.entry i = FEntry.empty ∧
      completed s t d 0x13 { st := 0, slot := some i, ent := s.entry i } = true ∧
      (∀ j, j ≠ i → t.entry j = s.entry j) ∧
      storageSame s t) ∧
  (∀ (s : State) (d : Desc) (i : Nat),
    ringServes s d = true →
    keyScope d = true →
    (∀ x ∈ d.ecc, (s.candidates d.key).contains x = false) →
    s.findKey d.key = some i →
    (s.locked (s.entry i) = false ∨ (s.entry i).owner = (s.ring (4 * d.fn + d.ring)).tag) →
    ∃ t, exec (.lock d) s = .next t ∧
      t.entry i = { s.entry i with lock := true, owner := (s.ring (4 * d.fn + d.ring)).tag } ∧
      completed s t d 0x20 { st := 0, slot := some i, ent := t.entry i } = true ∧
      (∀ j, j ≠ i → t.entry j = s.entry j) ∧
      storageSame s t) ∧
  (∀ (s : State) (d : Desc) (i : Nat),
    ringServes s d = true →
    keyScope d = true →
    (∀ x ∈ d.ecc, (s.candidates d.key).contains x = false) →
    s.findKey d.key = some i →
    (s.locked (s.entry i) = false ∨ (s.entry i).owner = (s.ring (4 * d.fn + d.ring)).tag) →
    ∃ t, exec (.unlock d) s = .next t ∧
      t.entry i = { s.entry i with lock := false, owner := 0 } ∧
      completed s t d 0x21 { st := 0, slot := some i, ent := t.entry i } = true ∧
      (∀ j, j ≠ i → t.entry j = s.entry j) ∧
      storageSame s t) ∧
  (∀ (s : State) (d : Desc) (i : Nat),
    ringServes s d = true →
    keyScope d = true →
    d.ecc = [i] →
    s.findKey d.key = some i →
    (∀ j ∈ s.candidates d.key, j ≠ i → (s.entry j).valid = true → (s.entry j).key ≠ d.key) →
    ∃ t, exec (.update d) s = .next t ∧
      t.entry i = FEntry.empty ∧
      completed s t d 0x11 { st := 1 } = true ∧
      t.obj Obj.ctrFlowEccUncorrectable = (s.obj Obj.ctrFlowEccUncorrectable + 1) % 2 ^ 64 ∧
      (∀ j, j ≠ i → t.entry j = s.entry j) ∧
      storageSame s t)

/-- A TRIE_WRITE of the physical function within a target's size, not of word 0 of the result table, gives each word of its range the buffer's word and leaves every other word of the trie. -/
def Obligations.TrieWritesWords : Prop :=
  ∀ (s : State) (d : Desc) (target first : Nat),
    ringServes s d = true →
    d.fn = 0 →
    d.a = target * 2 ^ 32 + first →
    target ≤ 9 →
    1 ≤ d.b →
    d.b ≤ 1024 →
    first + d.b ≤ trieSize target →
    ¬ (target = 9 ∧ first = 0) →
    ∃ t, exec (.trieWrite d) s = .next t ∧
      completed s t d 0x30 { st := 0 } = true ∧
      (∀ j, j < d.b → t.trieAt target (first + j) = d.data.getD j 0 % 2 ^ 32) ∧
      (∀ k, k < target * 2 ^ 32 + first ∨ target * 2 ^ 32 + first + d.b ≤ k → mget (fun _ => 0) t.flow.trie k = mget (fun _ => 0) s.flow.trie k) ∧
      t.flow.entries = s.flow.entries ∧
      storageSame s t

/-- The lease of a live tag that holds a lock ends: its epoch moves on, its ring is fenced and the sweep runs; at the sweep's end no entry is locked by the tag. A doorbell writes the submission producer modulo twice the entries, powered or not, and the descriptors fetched then are served in their order, each as the command of its operation code on the 128 bytes; enabling a ring gives it the lowest free tag with its epoch, pointers at 0 and no error; disabling one that holds its lease ends the lease; a keep-alive of a ring with its lease renews it. The model's reading, not a rule: the lowest free tag (notes/assumptions/48). -/
def Obligations.LeasesOfRings : Prop :=
  (∀ (s : State) (g k : Nat),
    (s.tag g).ring = some k →
    (s.tag g).sweep = false →
    (s.tagLocks g).isEmpty = false →
    ∃ t, exec (.lockLeaseExpiry g) s = .next t ∧
      (t.tag g).epoch = ((s.tag g).epoch + 1) % 65536 ∧
      (t.tag g).ring = none ∧
      (t.tag g).sweep = true ∧
      (t.ring k).fenced = true ∧
      t.obj Obj.ctrLeasesFenced = (s.obj Obj.ctrLeasesFenced + 1) % 2 ^ 64 ∧
      t.flow.entries = s.flow.entries ∧
      t.clk.ticks = max s.clk.ticks (s.tag g).lease ∧
      storageSame s t) ∧
  (∀ (s : State) (g : Nat),
    (s.tag g).sweep = true →
    ∃ t, exec (.lockSweepDone g) s = .next t ∧
      (∀ i, (t.entry i).lock = true → (t.entry i).owner ≠ g) ∧
      (t.tag g).sweep = false ∧
      t.obj Obj.ctrFlowLockVoided = (s.obj Obj.ctrFlowLockVoided + (s.tagLocks g).length) % 2 ^ 64 ∧
      storageSame s t) ∧
  (∀ (s : State) (fn ring producer : Nat),
    hasRing fn ring = true →
    s.linkOn = true →
    ∃ t, exec (.flowRingDoorbell fn ring ⟨producer, []⟩) s = .next t ∧
      (t.ring (4 * fn + ring)).sp = producer % (s.ring (4 * fn + ring)).wrap ∧
      (∀ k, k ≠ 4 * fn + ring → t.ring k = s.ring k) ∧
      t.objs = s.objs ∧
      storageSame s t) ∧
  (∀ (s u : State) (fn ring producer : Nat) (fetched : List (Bytes × Bytes)),
    exec (.flowRingDoorbell fn ring ⟨producer, []⟩) s = .next u →
    hasRing fn ring = true →
    exec (.flowRingDoorbell fn ring ⟨producer, fetched⟩) s = .next (fetched.foldl (fun x d => x.serveDesc fn ring d.1 d.2) u)) ∧
  (∀ (s : State) (fn ring : Nat) (b buf : Bytes),
    (byteAt b 0 = 0x01 → exec (.readKey (descOf fn ring b buf)) s = .next (s.serveDesc fn ring b buf)) ∧
    (byteAt b 0 = 0x02 → exec (.readSlot (descOf fn ring b buf)) s = .next (s.serveDesc fn ring b buf)) ∧
    (byteAt b 0 = 0x03 → exec (.scan (descOf fn ring b buf)) s = .next (s.serveDesc fn ring b buf)) ∧
    (byteAt b 0 = 0x10 → exec (.insert (descOf fn ring b buf)) s = .next (s.serveDesc fn ring b buf)) ∧
    (byteAt b 0 = 0x11 → exec (.update (descOf fn ring b buf)) s = .next (s.serveDesc fn ring b buf)) ∧
    (byteAt b 0 = 0x12 → exec (.delete (descOf fn ring b buf)) s = .next (s.serveDesc fn ring b buf)) ∧
    (byteAt b 0 = 0x13 → exec (.ageDelete (descOf fn ring b buf)) s = .next (s.serveDesc fn ring b buf)) ∧
    (byteAt b 0 = 0x20 → exec (.lock (descOf fn ring b buf)) s = .next (s.serveDesc fn ring b buf)) ∧
    (byteAt b 0 = 0x21 → exec (.unlock (descOf fn ring b buf)) s = .next (s.serveDesc fn ring b buf)) ∧
    (byteAt b 0 = 0x30 → exec (.trieWrite (descOf fn ring b buf)) s = .next (s.serveDesc fn ring b buf)) ∧
    (byteAt b 0 = 0x31 → exec (.trieRead (descOf fn ring b buf)) s = .next (s.serveDesc fn ring b buf))) ∧
  (∀ (s : State) (fn ring v g : Nat),
    hasRing fn ring = true →
    s.bar2On = true →
    bit v 0 = true →
    (s.ring (4 * fn + ring)).en = false →
    (List.range 64).find? (fun x => (s.tag x).ring.isNone && !(s.tag x).sweep) = some g →
    ∃ t, exec (.flowRingEnable fn ring v) s = .next t ∧
      t.ring (4 * fn + ring) = { s.ring (4 * fn + ring) with en := true, irq := bit v 1, sp := 0, sc := 0, cp := 0, cc := 0, tag := g, epoch := (s.tag g).epoch, fenced := false, err := false } ∧
      (t.tag g).ring = some (4 * fn + ring) ∧
      t.objs = s.objs ∧
      storageSame s t) ∧
  (∀ (s : State) (fn ring v : Nat),
    hasRing fn ring = true →
    s.bar2On = true →
    bit v 0 = false →
    (s.ring (4 * fn + ring)).en = true →
    (s.tag (s.ring (4 * fn + ring)).tag).ring = some (4 * fn + ring) →
    ∃ t, exec (.flowRingEnable fn ring v) s = .next t ∧
      (t.ring (4 * fn + ring)).en = false ∧
      (t.tag (s.ring (4 * fn + ring)).tag).ring = none ∧
      (t.tag (s.ring (4 * fn + ring)).tag).sweep = true ∧
      t.objs = s.objs ∧
      storageSame s t) ∧
  (∀ (s : State) (fn ring : Nat),
    hasRing fn ring = true →
    s.bar2On = true →
    (s.ring (4 * fn + ring)).en = true →
    (s.tag (s.ring (4 * fn + ring)).tag).ring = some (4 * fn + ring) →
    (s.tag (s.ring (4 * fn + ring)).tag).sweep = false →
    ∃ t, exec (.ringKeepAlive fn ring) s = .next t ∧
      (t.tag (s.ring (4 * fn + ring)).tag).lease = s.clk.ticks + msT (s.obj Obj.flowLockLease) ∧
      t.objs = s.objs ∧
      storageSame s t)

/-- The learning engine gives its oldest pending key the free slot it finds, with the merged counts and the record built so far, and counts the insert, the record in the slot where its stack can be reached; a queued statistics update adds one to the total of its key's entry, to the count under the verdict where the frame had left, and sets its stamp; a pass of the scrubber over a host's shadow or an internal one without a mismatch counts one pass and keeps nothing to confirm; a pass whose shadow read failed is counted, and one whose internal shadow may not be read also as a refused access. -/
def Obligations.LearningAndScrubbing : Prop :=
  (∀ (s : State) (p : Pend) (rest : List Pend) (i : Nat),
    s.netOn = true →
    s.plain = false →
    s.flow.pend = p :: rest →
    s.partCount p.key.part < s.obj (Obj.partFlowQuota p.key.part) →
    s.findKey p.key = none →
    (s.candidates p.key).find? (fun j => !(s.entry j).valid) = some i →
    ∃ t, exec (.learnInsert) s = .next t ∧
      t.entry i = { FEntry.empty with valid := true, key := p.key, stamp := p.stamp, total := min 0xFFFFFFFF p.merged, under := min 0xFFFFFF p.crossed } ∧
      t.recOf i = (if s.stackUp (recStack i) then some p.record else none) ∧
      t.flow.pend = rest ∧
      t.obj Obj.ctrFlowInserts = (s.obj Obj.ctrFlowInserts + 1) % 2 ^ 64 ∧
      (∀ j, j ≠ i → t.entry j = s.entry j) ∧
      storageSame s t) ∧
  (∀ (s : State) (u : StatUpd) (rest : List StatUpd) (i : Nat),
    s.flow.statq = u :: rest →
    s.findKey u.key = some i →
    ∃ t, exec (.statsUpdate) s = .next t ∧
      t.entry i = { s.entry i with total := min 0xFFFFFFFF ((s.entry i).total + 1), under := (if u.under then min 0xFFFFFF ((s.entry i).under + 1) else (s.entry i).under), stamp := u.stamp } ∧
      t.flow.statq = rest ∧
      t.objs = s.objs ∧
      storageSame s t) ∧
  (∀ (s : State) (ws : List ShadowWord),
    s.netOn = true →
    s.obj Obj.shadowMode ≠ 0 →
    s.obj Obj.shadowLocation ≠ 0 →
    ws.all (fun w => (s.scrubPair w).1 == (s.scrubPair w).2) = true →
    ∃ t, exec (.shadowPass (some ws)) s = .next t ∧
      t.obj Obj.shadowPasses = (s.obj Obj.shadowPasses + 1) % 2 ^ 32 ∧
      t.flow.unconf = [] ∧
      t.flow.entries = s.flow.entries ∧
      t.flow.trie = s.flow.trie ∧
      storageSame s t) ∧
  (∀ (s : State) (ws : List ShadowWord),
    s.netOn = true →
    s.obj Obj.shadowMode ≠ 0 →
    s.obj Obj.shadowLocation = 0 →
    s.shadowOk = true →
    s.innerShadow.all (fun w => (s.scrubPair w).1 == (s.scrubPair w).2) = true →
    ∃ t, exec (.shadowPass (some ws)) s = .next t ∧
      t.obj Obj.shadowPasses = (s.obj Obj.shadowPasses + 1) % 2 ^ 32 ∧
      t.flow.unconf = [] ∧
      t.flow.entries = s.flow.entries ∧
      t.flow.trie = s.flow.trie ∧
      storageSame s t) ∧
  (∀ (s : State) (ws : List ShadowWord),
    s.netOn = true →
    s.obj Obj.shadowMode ≠ 0 →
    s.obj Obj.shadowLocation = 0 →
    s.shadowOk = false →
    ∃ t, exec (.shadowPass (some ws)) s = .next t ∧
      t.obj Obj.ctrShadowReadFail = (s.obj Obj.ctrShadowReadFail + 1) % 2 ^ 64 ∧
      t.obj Obj.ctrAddrRefused = (s.obj Obj.ctrAddrRefused + 1) % 2 ^ 64 ∧
      t.flow = s.flow ∧
      storageSame s t) ∧
  (∀ (s : State),
    s.netOn = true →
    s.obj Obj.shadowMode ≠ 0 →
    ∃ t, exec (.shadowPass none) s = .next t ∧
      t.obj Obj.ctrShadowReadFail = (s.obj Obj.ctrShadowReadFail + 1) % 2 ^ 64 ∧
      t.flow = s.flow ∧
      storageSame s t)

/-- A word from the producer of the current fencing epoch joins the uncommitted words of a queue with room, padded to 64 bytes, and the write pointer moves on; a commit makes the uncommitted words one packet behind the packets before it, with a notice to its consumer; a rewind drops them, the write pointer back at the commit pointer, and is counted. A pop of a work or result queue hands the oldest packet whole to its consumer, poisoned where a word is, each such word counted, and the read pointer passes it; a pop of a collector queue whose packet is in the head fills the lost count and the sequence into its envelope and clears and advances them. A refill fills the head of a spill queue from its middle and ends a stall, what the stack corrects counted. The oldest packet of a collector queue whose destination is an enabled ring with room is written there word by word with its envelope, and the producer moves on by its words; where the destination is a port that takes it, it leaves as one frame and is counted. -/
def Obligations.QueuesKeepWholePackets : Prop :=
  (∀ (s : State) (q : Nat) (w : Bytes) (poison : Bool),
    s.netOn = true →
    64 ≤ q →
    q < 264 →
    (s.queue q).depth < s.qCap q →
    (isSpill q = true → (s.queue q).words.length < 16) →
    (s.queue q).skip = 0 →
    (isResult q = true → s.objBit Obj.faultIslesFenced ((q - 128) / 16) = false) →
    (isCollector q = true → 0 < (s.queue q).unc ∨ (s.queue q).depth + max 1 (byteAt w 1) ≤ s.qCap q) →
    ∃ t, exec (.queuePush q (s.queue q).epoch w poison) s = .next t ∧
      (t.queue q).words = (s.queue q).words ++ [⟨padTo 64 w, poison⟩] ∧
      (t.queue q).unc = (s.queue q).unc + 1 ∧
      (t.queue q).wr = ((s.queue q).wr + 1) % ptrMod q ∧
      (t.queue q).pkts = (s.queue q).pkts ∧
      storageSame s t) ∧
  (∀ (s : State) (q : Nat),
    0 < (s.queue q).unc →
    ∃ t, exec (.queueCommit q) s = .next t ∧
      (t.queue q).pkts = (s.queue q).pkts ++ [(s.queue q).unc] ∧
      (t.queue q).unc = 0 ∧
      (t.queue q).skip = 0 ∧
      (t.queue q).cm = (s.queue q).wr ∧
      (isBulk q = false → t.out.contains (.notice q) = true) ∧
      t.objs = s.objs ∧
      storageSame s t) ∧
  (∀ (s : State) (q : Nat),
    0 < (s.queue q).unc →
    ∃ t, exec (.queueRewind q) s = .next t ∧
      (t.queue q).words = (s.queue q).words.take ((s.queue q).words.length - (s.queue q).unc) ∧
      (t.queue q).unc = 0 ∧
      (t.queue q).wr = (s.queue q).cm ∧
      (t.queue q).pkts = (s.queue q).pkts ∧
      t.obj Obj.ctrQueueRewinds = (s.obj Obj.ctrQueueRewinds + 1) % 2 ^ 64 ∧
      storageSame s t) ∧
  (∀ (s : State) (q k : Nat) (ks : List Nat),
    s.netOn = true →
    64 ≤ q →
    q < 192 →
    (s.queue q).pkts = k :: ks →
    (isWork q = true → s.m.out2 = [] ∧ s.m.waiting = []) →
    ∃ t, exec (.queuePop q 0 0) s = .next t ∧
      t.out.head? = some (.packet q (((s.queue q).words.take k).map (·.bytes)) (((s.queue q).words.take k).any (·.poison))) ∧
      (t.queue q).pkts = ks ∧
      (t.queue q).words = (s.queue q).words.drop k ∧
      (t.queue q).rd = ((s.queue q).rd + k) % ptrMod q ∧
      t.obj Obj.ctrPoisonDelivered = (s.obj Obj.ctrPoisonDelivered + ((s.queue q).words.take k).countP (·.poison)) % 2 ^ 64 ∧
      storageSame s t) ∧
  (∀ (s : State) (q k : Nat) (ks : List Nat),
    s.netOn = true →
    192 ≤ q →
    q < 256 →
    (s.queue q).pkts = k :: ks →
    k ≤ (s.queue q).head.length →
    (∀ w ∈ (s.queue q).head.take k, w.poison = false) →
    ∃ t, exec (.queuePop q 0 0) s = .next t ∧
      t.out.head? = some (.packet q (envelope (s.queue q) ((s.queue q).head.take k)) false) ∧
      (t.queue q).pkts = ks ∧
      (t.queue q).rd = ((s.queue q).rd + k) % ptrMod q ∧
      (t.queue q).lost = 0 ∧
      (t.queue q).seq = ((s.queue q).seq + 1) % 2 ^ 32 ∧
      storageSame s t) ∧
  (∀ (s : State) (q : Nat) (err : Bursts),
    (s.queue q).refill = true →
    (s.queue q).words.length ≤ (s.queue q).unc →
    (s.queue q).head.length ≤ 16 →
    err.failed = false →
    ∃ t, exec (.spillRefillLand ⟨q, err⟩) s = .next t ∧
      (t.queue q).head = (s.queue q).head ++ (s.queue q).mid.take (16 - (s.queue q).head.length) ∧
      (t.queue q).mid = (s.queue q).mid.drop (16 - (s.queue q).head.length) ∧
      (t.queue q).refill = false ∧
      (t.queue q).stall = false ∧
      t.obj Obj.ctrHbmEccCorrected = (s.obj Obj.ctrHbmEccCorrected + err.fixed) % 2 ^ 64 ∧
      (∀ k, k ≠ Obj.ctrHbmEccCorrected → k ≠ Obj.ctrHbmEccUncorrectable → k ≠ Obj.ctrHbmE2eFail → t.obj k = s.obj k) ∧
      storageSame s t) ∧
  (∀ (s : State) (i k n : Nat) (kk : Nat) (ks : List Nat),
    i < 64 →
    s.pcie = true →
    s.obj (Obj.partCollDest (i / 4) (i % 4)) / 2 ^ 13 = 1 →
    (s.cRing i).en = true →
    n = 2 ^ (8 + (s.cRing i).size) →
    (s.queue (192 + i)).pkts = kk :: ks →
    k = ((s.queue (192 + i)).head.take kk).length →
    kk ≤ (s.queue (192 + i)).head.length →
    (∀ w ∈ (s.queue (192 + i)).head.take kk, w.poison = false) →
    ((s.cRing i).prod + 2 * n - (s.cRing i).cons) % (2 * n) + k ≤ n →
    ∃ t, exec (.collectorRingDeliver (192 + i) {}) s = .next t ∧
      (t.cRing i).prod = ((s.cRing i).prod + (envelope (s.queue (192 + i)) ((s.queue (192 + i)).head.take kk)).length) % (2 * n) ∧
      (t.queue (192 + i)).pkts = ks ∧
      (t.queue (192 + i)).seq = ((s.queue (192 + i)).seq + 1) % 2 ^ 32 ∧
      (∀ e ∈ (envelope (s.queue (192 + i)) ((s.queue (192 + i)).head.take kk)).zipIdx, t.out.contains (.dma 0 ((s.cRing i).base + 64 * (((s.cRing i).prod + e.2) % n)) e.1) = true) ∧
      storageSame s t) ∧
  (∀ (s : State) (i port kk : Nat) (ks : List Nat),
    i < 64 →
    s.netOn = true →
    (s.obj (Obj.partCollDest (i / 4) (i % 4)) / 2 ^ 13 = 2 ∧ port = s.obj (Obj.partCollDest (i / 4) (i % 4)) % 32 ∨ s.obj (Obj.partCollDest (i / 4) (i % 4)) / 2 ^ 13 = 3 ∧ port = s.obj (Obj.partCollDest (i / 4) (i % 4)) % 32 + 32) →
    s.admits port = .in_ →
    s.portState port ≠ 1 →
    (s.queue (192 + i)).pkts = kk :: ks →
    kk ≤ (s.queue (192 + i)).head.length →
    (∀ w ∈ (s.queue (192 + i)).head.take kk, w.poison = false) →
    ∃ t, exec (.collectorFrameSend (192 + i) {}) s = .next t ∧
      t.obj Obj.ctrCollectorTxFrames = (s.obj Obj.ctrCollectorTxFrames + 1) % 2 ^ 64 ∧
      (t.eq port).frames.length = (s.eq port).frames.length + 1 ∧
      (t.queue (192 + i)).pkts = ks ∧
      storageSame s t)

/-- The fetch of a flow record ends with the one update that waited for it applied to the record; a node that arrives good is a leaf whose value its tree keeps, or a test that moves the tree on and is counted; a walk with every leaf writes its verdict and score at tier 1 into an entry that its key still has, unlocked, unpinned and not superseded, and is no longer in the walkers. -/
def Obligations.TierOneWalks : Prop :=
  (∀ (s : State) (i : Nat) (u : FetchUpd) (r0 : Rec),
    s.t1.fetches.find? (fun f => f.1 == i) = some (i, [u]) →
    u.req = none →
    s.stackUp (recStack i) = true →
    s.recOf i = some r0 →
    ∃ t, exec (.recordFetchComplete i 0) s = .next t ∧
      t.recOf i = some (r0.update u.fact) ∧
      t.t1.fetches = s.t1.fetches.filter (fun g => g.1 != i) ∧
      t.objs = s.objs ∧
      storageSame s t) ∧
  (∀ (s : State) (id tree : Nat) (q : T1Req) (x : TreePos),
    s.t1.reqs.find? (fun r => r.id == id) = some q →
    q.trees[tree]? = some x →
    x.fetch = true →
    (∀ r ∈ s.t1.reqs, ∀ y ∈ r.trees, y.waits = false) →
    (s.treeNode q x.node).leaf = true →
    ∃ t, exec (.nodeFetchComplete id tree 0) s = .next t ∧
      (t.t1.reqs.find? (fun r => r.id == id)).map (·.trees) = some (setAt q.trees tree { x with leaf := some (s.treeNode q x.node).threshold, fetch := false }) ∧
      t.objs = s.objs ∧
      storageSame s t) ∧
  (∀ (s : State) (id tree : Nat) (q : T1Req) (x : TreePos),
    s.t1.reqs.find? (fun r => r.id == id) = some q →
    q.trees[tree]? = some x →
    x.fetch = true →
    (s.treeNode q x.node).leaf = false →
    ∃ t, exec (.nodeFetchComplete id tree 0) s = .next t ∧
      (t.t1.reqs.find? (fun r => r.id == id)).map (fun r => (r.trees[tree]?).map (·.depth)) = some (some (x.depth + 1)) ∧
      t.obj Obj.ctrT1NodeFetches = (s.obj Obj.ctrT1NodeFetches + 1) % 2 ^ 64 ∧
      storageSame s t) ∧
  (∀ (s : State) (id i word score : Nat) (q : T1Req),
    s.plain = false →
    s.t1.reqs.find? (fun r => r.id == id) = some q →
    s.walkResult q = some (word, score) →
    s.judge q.key 1 q.epoch = .written i →
    ∃ t, exec (.tier1Result id) s = .next t ∧
      (t.entry i).verdict = word ∧
      (t.entry i).tier = 1 ∧
      (t.entry i).score = score ∧
      (t.entry i).epoch = q.epoch ∧
      t.t1.reqs = s.t1.reqs.filter (·.id != id) ∧
      storageSame s t)

/-- The scheduler of a running isle takes the oldest work record of the queue that round-robin serves next, the queues whose record waits for its slot's reload left out; it has then served that queue last. A record of a slot that is neither in use nor Faulted is answered in the partition's result queue with status 3; one of a slot in use keeps its vector, padded, in the scheduler for the slot's command list. -/
def Obligations.SchedulerReadsWork : Prop :=
  (∀ (s : State) (n p k : Nat) (ks : List Nat) (err : Bursts),
    n < 4 →
    s.netOn = true →
    s.isleOn n = true →
    bit s.obs.halted n = false →
    s.res.entering.contains (true, n) = false →
    s.nextWork n = some p →
    (s.queue (64 + 16 * n + p)).pkts = k :: ks →
    (∀ w ∈ (s.queue (64 + 16 * n + p)).words.take k, w.poison = false) →
    s.m.out2 = [] →
    s.m.waiting = [] →
    err.failed = false →
    ∃ t, exec (.schedulerDispatch n 0 err) s = .next t ∧
      (t.sched n).rr = p ∧
      (t.queue (64 + 16 * n + p)).pkts = ks ∧
      (t.queue (64 + 16 * n + p)).words = (s.queue (64 + 16 * n + p)).words.drop k ∧
      storageSame s t) ∧
  (∀ (s : State) (n p k : Nat) (ks : List Nat) (w : Bytes),
    n < 4 →
    s.netOn = true →
    s.isleOn n = true →
    bit s.obs.halted n = false →
    s.res.entering.contains (true, n) = false →
    s.nextWork n = some p →
    (s.queue (64 + 16 * n + p)).pkts = k :: ks →
    (∀ w ∈ (s.queue (64 + 16 * n + p)).words.take k, w.poison = false) →
    s.m.out2 = [] →
    s.m.waiting = [] →
    w = (((s.queue (64 + 16 * n + p)).words.take k).map (·.bytes)).flatten →
    s.slotUsed p (byteAt w 2) = false →
    s.slotState p (byteAt w 2) ≠ 6 →
    byteAt w 1 < 16 →
    (s.queue (128 + 16 * n + byteAt w 1)).unc = 0 →
    (s.queue (128 + 16 * n + byteAt w 1)).skip = 0 →
    (s.queue (128 + 16 * n + byteAt w 1)).depth < 512 →
    ∃ t, exec (.schedulerDispatch n 0 {}) s = .next t ∧
      (t.queue (128 + 16 * n + byteAt w 1)).words = (s.queue (128 + 16 * n + byteAt w 1)).words ++ [⟨padTo 64 (resultFor w 3), false⟩] ∧
      (t.queue (128 + 16 * n + byteAt w 1)).pkts = (s.queue (128 + 16 * n + byteAt w 1)).pkts ++ [1] ∧
      storageSame s t) ∧
  (∀ (s : State) (n p k : Nat) (ks : List Nat) (w : Bytes),
    n < 4 →
    s.netOn = true →
    s.isleOn n = true →
    bit s.obs.halted n = false →
    s.res.entering.contains (true, n) = false →
    s.nextWork n = some p →
    (s.queue (64 + 16 * n + p)).pkts = k :: ks →
    (∀ w ∈ (s.queue (64 + 16 * n + p)).words.take k, w.poison = false) →
    s.m.out2 = [] →
    s.m.waiting = [] →
    (s.sched n).poison = [] →
    w = (((s.queue (64 + 16 * n + p)).words.take k).map (·.bytes)).flatten →
    s.slotUsed p (byteAt w 2) = true →
    ∃ t, exec (.schedulerDispatch n 0 {}) s = .next t ∧
      (t.sched n).vecs.contains (leAt w 8 8, paddedVec w) = true ∧
      storageSame s t)

/-- Issued in the scalar slot: a class 0 word writes Xd with its result on its operands (X0 discards it); a branch that is taken sets the target for the end of its bundle, one that is not changes nothing; OPSET replaces both identifiers; WAIT only advances; a load takes eight bytes of the core store, with poison where they are uncorrectable, and a store writes them and no other byte. The core moves past the word and no other core changes. The model's reading, not a rule: issue by command and the result functions of class 0 (notes/assumptions/80 and 8). -/
def Obligations.ScalarSlot : Prop :=
  (∀ (s : State) (c : Nat) (w : W32) (xd xa xb xc : Nat),
    canIssue s c w.toNat = true →
    bits w.toNat 30 28 = 0 →
    xd < 32 →
    xa < 32 →
    xb < 32 →
    xc < 32 →
    (s.core c).xOk [xa, xb, xc] = true →
    ∃ t, exec (.scalarOp c w xd xa xb xc) s = .next t ∧
      t.core c = stepped ((s.core c).setX xd (Config.scalarResult w (BitVec.ofNat 64 ((s.core c).xr xa)) (BitVec.ofNat 64 ((s.core c).xr xb)) (BitVec.ofNat 64 ((s.core c).xr xc))).toNat false) s.now ∧
      (∀ d, d ≠ c → t.core d = s.core d) ∧
      storageSame s t) ∧
  (∀ (s : State) (c : Nat) (w : W32) (xa xb target : Nat),
    canIssue s c w.toNat = true →
    isClass1 w.toNat = true →
    xa < 32 →
    xb < 32 →
    (s.core c).xOk [xa, xb] = true →
    ∃ t, exec (.branch c w xa xb target) s = .next t ∧
      t.core c = stepped (if Config.branchTaken w (BitVec.ofNat 64 ((s.core c).xr xa)) (BitVec.ofNat 64 ((s.core c).xr xb)) then { (s.core c) with branch := some (target % 2 ^ 22) } else (s.core c)) s.now ∧
      (∀ d, d ≠ c → t.core d = s.core d) ∧
      storageSame s t) ∧
  (∀ (s : State) (c : Nat) (w : W32) (layer oper : Nat),
    canIssue s c w.toNat = true →
    isClass1 w.toNat = true →
    ∃ t, exec (.opset c w layer oper) s = .next t ∧
      t.core c = stepped ({ (s.core c) with ident := layer % 2 ^ 16 * 2 ^ 16 + oper % 2 ^ 16 }) s.now ∧
      (∀ d, d ≠ c → t.core d = s.core d) ∧
      storageSame s t) ∧
  (∀ (s : State) (c : Nat) (w : W32),
    canIssue s c w.toNat = true →
    isClass1 w.toNat = true →
    ∃ t, exec (.wait c w) s = .next t ∧
      t.core c = stepped ((s.core c)) s.now ∧
      (∀ d, d ≠ c → t.core d = s.core d) ∧
      storageSame s t) ∧
  (∀ (s : State) (c : Nat) (w : W32) (x off : Nat) (bad : Bool),
    canIssue s c w.toNat = true →
    isClass1 w.toNat = true →
    x < 32 →
    off + 8 ≤ 0x3F0000 →
    (s.core c).xOk [x] = true →
    ∃ t, exec (.scalarLoadStore c w true x off bad) s = .next t ∧
      t.core c = stepped ((s.core c)) s.now ∧
      t.memRead (coreStore c + off) 8 = le 8 ((s.core c).xr x) ∧
      memoryBut s t (coreStore c + off) 8 ∧
      (∀ d, d ≠ c → t.core d = s.core d) ∧
      t.flash = s.flash) ∧
  (∀ (s : State) (c : Nat) (w : W32) (x off : Nat) (bad : Bool),
    canIssue s c w.toNat = true →
    isClass1 w.toNat = true →
    x < 32 →
    off + 8 ≤ 0x3F0000 →
    ∃ t, exec (.scalarLoadStore c w false x off bad) s = .next t ∧
      t.core c = stepped ((s.core c).setX x (s.memLE (coreStore c + off) 8) bad) s.now ∧
      (∀ d, d ≠ c → t.core d = s.core d) ∧
      storageSame s t)

/-- XMOV copies its bytes between the core store and the isle shared SRAM or another core store of the isle and changes no other byte. At QBAR a core whose mask names a core that is not at the barrier waits there, one whose mask names itself alone goes on. DONE sets the completion status from X3, counts the command, and the port's next command starts, or the core is idle. The model's reading, not a rule: issue by command and when a barrier opens (notes/assumptions/80 and 82). -/
def Obligations.MovesAndBarriers : Prop :=
  (∀ (s : State) (c : Nat) (w : W32) (toPeer bad : Bool) (peer : XPeer) (off po len : Nat),
    canIssue s c w.toNat = true →
    isClass1 w.toNat = true →
    off + len ≤ 0x3F0000 →
    (xmovPeer c peer po len).2 = true →
    ∃ t, exec (.xmov c w toPeer peer off po len bad) s = .next t ∧
      t.memRead (if toPeer then (xmovPeer c peer po len).1 else coreStore c + off) len = s.memRead (if toPeer then coreStore c + off else (xmovPeer c peer po len).1) len ∧
      memoryBut s t (if toPeer then (xmovPeer c peer po len).1 else coreStore c + off) len ∧
      t.core c = stepped ((s.core c)) s.now ∧
      (∀ d, d ≠ c → t.core d = s.core d) ∧
      t.flash = s.flash) ∧
  (∀ (s : State) (c : Nat) (w : W32) (b m i : Nat),
    canIssue s c w.toNat = true →
    isClass1 w.toNat = true →
    i < 32 →
    bit m i = true →
    i ≠ c % 32 →
    (s.core (c / 32 * 32 + i)).barrier.all (fun e => e.1 != b) = true →
    (∀ j, j < 32 → (s.core (c / 32 * 32 + j)).preempt = false) →
    ∃ t, exec (.qbar c w b m) s = .next t ∧
      (t.core c).barrier = some (b, m % 2 ^ 32) ∧
      storageSame s t) ∧
  (∀ (s : State) (c : Nat) (w : W32) (b m : Nat),
    canIssue s c w.toNat = true →
    isClass1 w.toNat = true →
    bitsOf 32 (m % 2 ^ 32) = [c % 32] →
    (∀ j, j < 32 → (s.core (c / 32 * 32 + j)).preempt = false) →
    ∃ t, exec (.qbar c w b m) s = .next t ∧
      (t.core c).barrier = none ∧
      (t.core c).pc = (stepped (s.core c) s.now).pc ∧
      storageSame s t) ∧
  (∀ (s : State) (c : Nat) (w : W32),
    canIssue s c w.toNat = true →
    isClass1 w.toNat = true →
    (s.core c).xOk [3] = true →
    (s.core c).port = [] →
    (s.sched (c / 32)).waiting.find? (fun e => e.1 == c) = none →
    ∃ t, exec (.done c w) s = .next t ∧
      (t.core c).run = 0 ∧
      (t.core c).cur = none ∧
      (t.core c).status = (s.core c).xr 3 ∧
      t.obj Obj.ctrCommands = (s.obj Obj.ctrCommands + 1) % 2 ^ 64 ∧
      storageSame s t) ∧
  (∀ (s : State) (c : Nat) (w : W32) (m : CoreCmd) (rest : List CoreCmd),
    canIssue s c w.toNat = true →
    isClass1 w.toNat = true →
    (s.core c).xOk [3] = true →
    (s.core c).port = m :: rest →
    (s.sched (c / 32)).poison.contains m.tag = false →
    ∃ t, exec (.done c w) s = .next t ∧
      (t.core c).run = 1 ∧
      (t.core c).cur = some m ∧
      (t.core c).pc = m.entry % 2 ^ 22 ∧
      (t.core c).xr 1 = m.arg % 2 ^ 64 ∧
      (t.core c).xr 2 = m.tag % 2 ^ 64 ∧
      (t.core c).status = (s.core c).xr 3 ∧
      t.obj Obj.ctrCommands = (s.obj Obj.ctrCommands + 1) % 2 ^ 64 ∧
      storageSame s t)

/-- Issued in the vector slot: a class 2 arithmetic word writes Vd with its result, each lane of a floating-point one rounded to nearest with ties to even; VLD and VST move 64 bytes between the core store and a vector register, VST changing no other byte; VTL reads a filled, clean tile row that no pass still writes; VTS writes a row that may be written, with a tag that is a free value; VSIDE with no escape and a finite scale in its side row leaves the sums as they are. The model's reading, not a rule: issue by command, which class 2 words are floating-point, the results of the others and the free tag (notes/assumptions/80, 8 and 7). -/
def Obligations.VectorSlot : Prop :=
  (∀ (s : State) (c : Nat) (w : W32) (vd va vb vc : Nat),
    canIssue s c w.toNat = true →
    isClass2 w.toNat = true →
    vd < 32 →
    va < 32 →
    vb < 32 →
    vc < 32 →
    [va, vb, vc].all (fun i => !bit (s.core c).vbad i) = true →
    ∃ t, exec (.vectorOp c w vd va vb vc) s = .next t ∧
      t.core c = stepped ((s.core c).setV vd (match Config.vectorFloat w with | some (op, half) => floatLanes op half ((s.core c).vr va) ((s.core c).vr vb) ((s.core c).vr vc) | none => (Config.vectorResult w (BitVec.ofNat 512 ((s.core c).vr va)) (BitVec.ofNat 512 ((s.core c).vr vb)) (BitVec.ofNat 512 ((s.core c).vr vc))).toNat) false) s.now ∧
      (∀ d, d ≠ c → t.core d = s.core d) ∧
      storageSame s t) ∧
  (∀ (s : State) (c : Nat) (w : W32) (v off : Nat) (bad : Bool),
    canIssue s c w.toNat = true →
    isClass2 w.toNat = true →
    v < 32 →
    off + 64 ≤ 0x3F0000 →
    ∃ t, exec (.vld c w v off bad) s = .next t ∧
      t.core c = stepped ((s.core c).setV v (s.memLE (coreStore c + off) 64) bad) s.now ∧
      (∀ d, d ≠ c → t.core d = s.core d) ∧
      storageSame s t) ∧
  (∀ (s : State) (c : Nat) (w : W32) (v off : Nat),
    canIssue s c w.toNat = true →
    isClass2 w.toNat = true →
    v < 32 →
    off + 64 ≤ 0x3F0000 →
    bit (s.core c).vbad v = false →
    ∃ t, exec (.vst c w v off) s = .next t ∧
      t.core c = stepped ((s.core c)) s.now ∧
      t.memRead (coreStore c + off) 64 = le 64 ((s.core c).vr v) ∧
      memoryBut s t (coreStore c + off) 64 ∧
      (∀ d, d ≠ c → t.core d = s.core d) ∧
      t.flash = s.flash) ∧
  (∀ (s : State) (c : Nat) (w : W32) (v tile row : Nat),
    canIssue s c w.toNat = true →
    isClass2 w.toNat = true →
    v < 32 →
    tile < 8 →
    (s.core c).dstBusy tile row 1 = false →
    (s.core c).filled tile row 1 = true →
    (s.core c).clean tile row 1 = true →
    ∃ t, exec (.vtl c w v tile row) s = .next t ∧
      t.core c = stepped ((s.core c).setV v ((s.core c).row tile row) false) s.now ∧
      (∀ d, d ≠ c → t.core d = s.core d) ∧
      storageSame s t) ∧
  (∀ (s : State) (c : Nat) (w : W32) (tile row v : Nat),
    canIssue s c w.toNat = true →
    isClass2 w.toNat = true →
    v < 32 →
    tile < 8 →
    (s.core c).writeWait tile row 1 = false →
    (s.core c).writable tile row 1 = true →
    bit (s.core c).vbad v = false →
    ∃ t, exec (.vts c w tile row v) s = .next t ∧
      t.core c = stepped ((s.core c).putRow tile row ((s.core c).vr v) s.freeTag.1) s.now ∧
      t.free = s.free + 1 ∧
      (∀ d, d ≠ c → t.core d = s.core d) ∧
      storageSame s t) ∧
  (∀ (s : State) (c : Nat) (w : W32) (ts sr td dr width xb : Nat),
    canIssue s c w.toNat = true →
    isClass2 w.toNat = true →
    ts < 8 →
    td < 8 →
    xb < 32 →
    (s.core c).xOk [xb] = true →
    (width = 64 ∨ width = 256) →
    (s.core c).dstBusy ts sr 1 = false →
    (s.core c).writeWait td dr (width / 16) = false →
    (s.core c).role ts = 5 →
    (s.core c).role td = 3 →
    (s.core c).filled ts sr 1 = true →
    (s.core c).filled td dr (width / 16) = true →
    (s.core c).clean ts sr 1 = true →
    (s.core c).clean td dr (width / 16) = true →
    (s.core c).row ts sr % 256 = 0 →
    bfFinite ((s.core c).row ts sr / 2 ^ 16 % 2 ^ 16) = true →
    ∃ t, exec (.vside c w ts sr td dr width xb) s = .next t ∧
      (∀ i, i < width / 16 → (t.core c).row td (dr + i) = (s.core c).row td (dr + i) % 2 ^ 512) ∧
      t.obj Obj.ctrEscapeSaturated = s.obj Obj.ctrEscapeSaturated % 2 ^ 64 ∧
      (t.core c).pc = (stepped (s.core c) s.now).pc ∧
      (∀ d, d ≠ c → t.core d = s.core d) ∧
      storageSame s t)

/-- TCFG with nothing in flight and words that pass every check gives the eight tiles their configuration words, and every tile is empty; TREL empties the tiles of its mask where no pass and no load of an array uses them and keeps the other fill counts; CSLD loads its channel scales from the core store and keeps the others. -/
def Obligations.TilesAreConfiguredAndReleased : Prop :=
  (∀ (s : State) (c : Nat) (w : W32),
    canIssue s c w.toNat = true →
    isWord w.toNat 1 0x20 = true →
    bits w.toNat 11 0 = 0 →
    (s.core c).xOk [bits w.toNat 21 17, bits w.toNat 16 12] = true →
    (s.core c).inFlight = false →
    tcfgCheck (tcfgWords ((s.core c).xr (bits w.toNat 21 17)) ((s.core c).xr (bits w.toNat 16 12))) = none →
    ∃ t, exec (.tcfg c w) s = .next t ∧
      (∀ i, i < 8 → (t.core c).cfgOf i = (tcfgWords ((s.core c).xr (bits w.toNat 21 17)) ((s.core c).xr (bits w.toNat 16 12))).getD i 0) ∧
      (∀ i, (t.core c).fillOf i = 0) ∧
      (t.core c).cache = [] ∧
      (t.core c).pc = (stepped (s.core c) s.now).pc ∧
      (∀ d, d ≠ c → t.core d = s.core d) ∧
      storageSame s t) ∧
  (∀ (s : State) (c : Nat) (w : W32),
    canIssue s c w.toNat = true →
    isWord w.toNat 1 0x21 = true →
    bits w.toNat 13 0 = 0 →
    (s.core c).passes = [] →
    (s.core c).wld.all (fun e => !bit (bits w.toNat 21 14) (bits e.1 17 15)) = true →
    ∃ t, exec (.trel c w) s = .next t ∧
      (∀ i, (t.core c).fillOf i = if bit (bits w.toNat 21 14) i then 0 else (s.core c).fillOf i) ∧
      (t.core c).pc = (stepped (s.core c) s.now).pc ∧
      (∀ d, d ≠ c → t.core d = s.core d) ∧
      storageSame s t) ∧
  (∀ (s : State) (c : Nat) (w : W32) (first count off : Nat),
    canIssue s c w.toNat = true →
    isWord w.toNat 1 0x22 = true →
    bit w.toNat 0 = false →
    (s.core c).xOk [bits w.toNat 13 9] = true →
    first = bits w.toNat 21 14 →
    count = bits w.toNat 8 1 + 1 →
    off = (s.core c).xr (bits w.toNat 13 9) % 2 ^ 22 →
    off + 2 * count ≤ 0x3F0000 →
    first + count ≤ 256 →
    ∃ t, exec (.csld c w) s = .next t ∧
      (∀ i, i < count → (t.core c).csr (first + i) = s.memLE (coreStore c + off + 2 * i) 2) ∧
      (∀ i, i < first ∨ first + count ≤ i → (t.core c).csr i = (s.core c).csr i) ∧
      (t.core c).pc = (stepped (s.core c) s.now).pc ∧
      (∀ d, d ≠ c → t.core d = s.core d) ∧
      storageSame s t)

/-- With nothing in flight and without .T: TLD, TLD.CV expand and TLD.CV widen give each row of their tile the row of the core store, expanded or widened, with a plain tag, and raise the fill count; TLD.CV quantise to an 8-bit or 16-bit A tile gives each row its quantised elements; TST writes the rows to the core store and changes no other byte. -/
def Obligations.TileLoadsAndStores : Prop :=
  (∀ (s : State) (c : Nat) (w : W32) (m : TileMove),
    canIssue s c w.toNat = true →
    isWord w.toNat 3 0 = true →
    bit w.toNat 0 = false →
    bit w.toNat 4 = false →
    m = tileMove w.toNat ((s.core c).xr (bits w.toNat 18 14)) →
    (s.core c).xOk [bits w.toNat 18 14] = true →
    (s.core c).passes = [] →
    (s.core c).wld = none →
    (s.core c).writable m.t m.first m.count = true →
    m.off % 64 = 0 →
    bits w.toNat 6 5 = 0 →
    m.off + 64 * m.count ≤ 0x3F0000 →
    ∃ t, exec (.tld c w []) s = .next t ∧
      (∀ i, i < m.count → (t.core c).row m.t (m.first + i) = (s.memLE (coreStore c + m.off + 64 * i) 64) % 2 ^ 512 ∧ (t.core c).tag m.t (m.first + i) = setBit plainTag 15 false) ∧
      (t.core c).fillOf m.t = max ((s.core c).fillOf m.t) (m.first + m.count) ∧
      (t.core c).pc = (stepped (s.core c) s.now).pc ∧
      (∀ d, d ≠ c → t.core d = s.core d) ∧
      storageSame s t) ∧
  (∀ (s : State) (c : Nat) (w : W32) (m : TileMove),
    canIssue s c w.toNat = true →
    isWord w.toNat 3 0 = true →
    bit w.toNat 0 = false →
    bit w.toNat 4 = false →
    m = tileMove w.toNat ((s.core c).xr (bits w.toNat 18 14)) →
    (s.core c).xOk [bits w.toNat 18 14] = true →
    (s.core c).passes = [] →
    (s.core c).wld = none →
    (s.core c).writable m.t m.first m.count = true →
    m.off % 64 = 0 →
    bits w.toNat 6 5 = 1 →
    m.off + 32 * m.count ≤ 0x3F0000 →
    (s.core c).role m.t = 2 →
    (s.core c).ty m.t = 2 →
    ∃ t, exec (.tldCvExpand c w []) s = .next t ∧
      (∀ i, i < m.count → (t.core c).row m.t (m.first + i) = expandRow (s.memLE (coreStore c + m.off + 32 * i) 32) % 2 ^ 512 ∧ (t.core c).tag m.t (m.first + i) = setBit plainTag 15 false) ∧
      (t.core c).fillOf m.t = max ((s.core c).fillOf m.t) (m.first + m.count) ∧
      (t.core c).pc = (stepped (s.core c) s.now).pc ∧
      (∀ d, d ≠ c → t.core d = s.core d) ∧
      storageSame s t) ∧
  (∀ (s : State) (c : Nat) (w : W32) (m : TileMove),
    canIssue s c w.toNat = true →
    isWord w.toNat 3 0 = true →
    bit w.toNat 0 = false →
    bit w.toNat 4 = false →
    m = tileMove w.toNat ((s.core c).xr (bits w.toNat 18 14)) →
    (s.core c).xOk [bits w.toNat 18 14] = true →
    (s.core c).passes = [] →
    (s.core c).wld = none →
    (s.core c).writable m.t m.first m.count = true →
    m.off % 64 = 0 →
    bits w.toNat 6 5 = 3 →
    m.off + 32 * m.count ≤ 0x3F0000 →
    ((s.core c).role m.t = 1 ∨ (s.core c).role m.t = 2) →
    (s.core c).ty m.t = 2 →
    ∃ t, exec (.tldCvWiden c w []) s = .next t ∧
      (∀ i, i < m.count → (t.core c).row m.t (m.first + i) = widenRow (s.memLE (coreStore c + m.off + 32 * i) 32) % 2 ^ 512 ∧ (t.core c).tag m.t (m.first + i) = setBit plainTag 15 false) ∧
      (t.core c).fillOf m.t = max ((s.core c).fillOf m.t) (m.first + m.count) ∧
      (t.core c).pc = (stepped (s.core c) s.now).pc ∧
      (∀ d, d ≠ c → t.core d = s.core d) ∧
      storageSame s t) ∧
  (∀ (s : State) (c : Nat) (w : W32) (m : TileMove) (cl : Nat),
    canIssue s c w.toNat = true →
    isWord w.toNat 3 0 = true →
    bit w.toNat 0 = false →
    bit w.toNat 4 = false →
    m = tileMove w.toNat ((s.core c).xr (bits w.toNat 18 14)) →
    (s.core c).xOk [bits w.toNat 18 14] = true →
    (s.core c).passes = [] →
    (s.core c).wld = none →
    (s.core c).writable m.t m.first m.count = true →
    m.off % 64 = 0 →
    bits w.toNat 6 5 = 2 →
    m.off + 128 * m.count ≤ 0x3F0000 →
    bits w.toNat 18 14 ≠ 31 →
    cl = (s.core c).xr (bits w.toNat 18 14 + 1) →
    bit (s.core c).xbad (bits w.toNat 18 14 + 1) = false →
    (s.core c).role m.t = 1 →
    ((s.core c).ty m.t = 0 ∨ (s.core c).ty m.t = 2) →
    bfFinite (bits cl 31 16) = true →
    bfFinite (bits cl 15 0) = true →
    (List.range (64 * m.count)).all (fun i => bfFinite (s.memLE (coreStore c + m.off + 2 * i) 2)) = true →
    ∃ t, exec (.tldCvQuantise c w []) s = .next t ∧
      (∀ i, i < m.count → (t.core c).row m.t (m.first + i) = (((quantise ((s.core c).ty m.t) (bits cl 31 16) (bits cl 15 0) ((List.range (64 * m.count)).map (fun j => bfWiden (s.memLE (coreStore c + m.off + 2 * j) 2)))).rows.map (·.pack ((s.core c).ty m.t))).getD i 0) % 2 ^ 512) ∧
      (t.core c).fillOf m.t = max ((s.core c).fillOf m.t) (m.first + m.count) ∧
      (t.core c).pc = (stepped (s.core c) s.now).pc ∧
      (∀ d, d ≠ c → t.core d = s.core d) ∧
      storageSame s t) ∧
  (∀ (s : State) (c : Nat) (w : W32) (m : TileMove),
    canIssue s c w.toNat = true →
    isWord w.toNat 3 1 = true →
    bits w.toNat 6 4 = 0 →
    bits w.toNat 3 0 = 0 →
    m = tileMove w.toNat ((s.core c).xr (bits w.toNat 18 14)) →
    (s.core c).xOk [bits w.toNat 18 14] = true →
    (s.core c).dstBusy m.t m.first m.count = false →
    (s.core c).filled m.t m.first m.count = true →
    (s.core c).clean m.t m.first m.count = true →
    m.off % 64 = 0 →
    m.off + 64 * m.count ≤ 0x3F0000 →
    ∃ t, exec (.tst c w) s = .next t ∧
      t.memRead (coreStore c + m.off) (64 * m.count) = (List.range m.count).flatMap (fun i => le 64 ((s.core c).row m.t (m.first + i))) ∧
      memoryBut s t (coreStore c + m.off) (64 * m.count) ∧
      t.core c = stepped ((s.core c)) s.now ∧
      (∀ d, d ≠ c → t.core d = s.core d) ∧
      t.flash = s.flash)

/-- ACFG with nothing in flight sets a mode that the enabled arrays support and unloads every array; WLD of 64 filled, clean rows of a W tile, on a mask that the mode allows, takes the rows and unloads its arrays; at its end they hold the rows with their checksums, count as loaded, and the load is counted. -/
def Obligations.ArraysAreLoaded : Prop :=
  (∀ (s : State) (c : Nat) (w : W32),
    canIssue s c w.toNat = true →
    isWord w.toNat 4 0 = true →
    bits w.toNat 18 0 = 0 →
    bits w.toNat 21 19 ≤ 3 →
    (s.core c).inFlight = false →
    modeOk (bits w.toNat 21 19) (s.arrEn c) = true →
    ∃ t, exec (.acfg c w) s = .next t ∧
      t.core c = stepped ({ (s.core c) with mode := bits w.toNat 21 19, loaded := 0 }) s.now ∧
      (∀ d, d ≠ c → t.core d = s.core d) ∧
      storageSame s t) ∧
  (∀ (s : State) (c : Nat) (w : W32) (mask ts first : Nat),
    canIssue s c w.toNat = true →
    isWord w.toNat 4 1 = true →
    bits w.toNat 7 0 = 0 →
    mask = bits w.toNat 21 18 →
    ts = bits w.toNat 17 15 →
    first = bits w.toNat 14 8 →
    (s.core c).passes = [] →
    (s.core c).wld = none →
    wldOk (s.core c).mode (s.arrEn c) mask = true →
    (s.core c).role ts = 2 →
    (s.core c).ty ts = 2 →
    first + 64 ≤ (s.core c).tileRows ts →
    (s.core c).filled ts first 64 = true →
    (s.core c).clean ts first 64 = true →
    ∃ t, exec (.wld c w) s = .next t ∧
      t.core c = stepped ({ (s.core c) with loaded := (s.core c).loaded &&& (15 - mask), wld := some (w.toNat, (s.core c).pc, (List.range 64).map (fun i => (s.core c).row ts (first + i))) }) s.now ∧
      (∀ d, d ≠ c → t.core d = s.core d) ∧
      storageSame s t) ∧
  (∀ (s : State) (c w0 pc : Nat) (rows : List Nat),
    (s.core c).wld = some (w0, pc, rows) →
    bit s.obs.halted (c / 32) = false →
    ∃ t, exec (.wldComplete c []) s = .next t ∧
      (∀ i ∈ bitsOf 4 (bits w0 21 18), t.marr (4 * c + i) = mkArr rows) ∧
      (t.core c).wld = none ∧
      (t.core c).loaded = (s.core c).loaded ||| bits w0 21 18 ∧
      t.obj Obj.ctrWld = (s.obj Obj.ctrWld + 1) % 2 ^ 64 ∧
      t.flash = s.flash)

/-- With nothing in flight, a stream of filled, clean source rows through loaded arrays of a group that the mode allows, into a D tile with room, starts one pass; a chunk whose rows pass the compare of their checksums counts its rows, one whose first row fails it stops the core with fault 0x0F and unloads its arrays, and the pass goes on with its next chunk or ends with its last row; the one row of a one-row ASTR pass of a single array writes its 64 sums to four destination rows. -/
def Obligations.ArraysStream : Prop :=
  (∀ (s : State) (c : Nat) (w : W32) (p : Pass),
    canIssue s c w.toNat = true →
    isWord w.toNat 4 2 = true →
    bits w.toNat 2 0 = 0 →
    p = ⟨w.toNat, (s.core c).pc, (s.core c).xr (bits w.toNat 7 3), 0, false⟩ →
    (s.core c).xOk [bits w.toNat 7 3] = true →
    (s.core c).passes = [] →
    (s.core c).wld = none →
    groupOk (s.core c).mode (s.arrEn c) p.mask = true →
    p.mask ≠ 0 →
    (s.core c).role p.ts = 1 →
    (s.core c).role p.td = 3 →
    ((s.core c).ty p.ts = 1 → (s.core c).role p.side = 5 ∧ (s.core c).filled p.side p.first p.count = true ∧ p.first + p.count ≤ (s.core c).tileRows p.side) →
    p.first + p.count ≤ (s.core c).tileRows p.ts →
    p.dst + (s.core c).perRow p * p.count ≤ (s.core c).tileRows p.td →
    (s.core c).filled p.ts p.first p.count = true →
    (s.core c).clean p.ts p.first p.count = true →
    (if p.acc then (s.core c).filled p.td p.dst ((s.core c).perRow p * p.count) && (s.core c).clean p.td p.dst ((s.core c).perRow p * p.count) else decide (p.dst ≤ (s.core c).fillOf p.td)) = true →
    (s.core c).loaded &&& p.mask = p.mask →
    ∃ t, exec (.astr c w) s = .next t ∧
      t.core c = stepped ({ (s.core c) with passes := [p], progress := 0 }) s.now ∧
      (∀ d, d ≠ c → t.core d = s.core d) ∧
      storageSame s t) ∧
  (∀ (s : State) (c : Nat) (w : W32) (p : Pass),
    canIssue s c w.toNat = true →
    isWord w.toNat 4 3 = true →
    bits w.toNat 2 0 = 0 →
    p = ⟨w.toNat, (s.core c).pc, (s.core c).xr (bits w.toNat 7 3), 0, false⟩ →
    (s.core c).xOk [bits w.toNat 7 3] = true →
    (s.core c).passes = [] →
    (s.core c).wld = none →
    groupOk (s.core c).mode (s.arrEn c) p.mask = true →
    (s.core c).mode ≠ 2 →
    (s.core c).role p.ts = 1 →
    (s.core c).role p.td = 3 →
    ((s.core c).ty p.ts = 1 → (s.core c).role p.side = 5 ∧ (s.core c).filled p.side p.first p.count = true ∧ p.first + p.count ≤ (s.core c).tileRows p.side) →
    p.first + p.count ≤ (s.core c).tileRows p.ts →
    p.dst + (s.core c).perRow p * p.count ≤ (s.core c).tileRows p.td →
    (s.core c).filled p.ts p.first p.count = true →
    (s.core c).clean p.ts p.first p.count = true →
    (if p.acc then (s.core c).filled p.td p.dst ((s.core c).perRow p * p.count) && (s.core c).clean p.td p.dst ((s.core c).perRow p * p.count) else decide (p.dst ≤ (s.core c).fillOf p.td)) = true →
    (s.core c).loaded &&& p.mask = p.mask →
    ∃ t, exec (.astrT c w) s = .next t ∧
      t.core c = stepped ({ (s.core c) with passes := [p], progress := 0 }) s.now ∧
      (∀ d, d ≠ c → t.core d = s.core d) ∧
      storageSame s t) ∧
  (∀ (s : State) (c : Nat) (w : W32) (p : Pass),
    canIssue s c w.toNat = true →
    isWord w.toNat 4 4 = true →
    bits w.toNat 6 0 = 0 →
    p = ⟨w.toNat, (s.core c).pc, (s.core c).xr (bits w.toNat 11 7), 0, false⟩ →
    (s.core c).xOk [bits w.toNat 11 7] = true →
    (s.core c).passes = [] →
    (s.core c).wld = none →
    groupOk (s.core c).mode (s.arrEn c) p.mask = true →
    (s.core c).mode ≠ 2 →
    ((s.core c).role p.ts = 1 ∨ (s.core c).role p.ts = 4 ∧ (s.core c).ty p.ts = 4) →
    (s.core c).role p.td = 3 →
    p.first + p.count ≤ (s.core c).tileRows p.ts →
    p.dst + (s.core c).perRow p * p.count ≤ (s.core c).tileRows p.td →
    (s.core c).filled p.ts p.first p.count = true →
    (s.core c).clean p.ts p.first p.count = true →
    (if p.acc then (s.core c).filled p.td p.dst ((s.core c).perRow p * p.count) && (s.core c).clean p.td p.dst ((s.core c).perRow p * p.count) else decide (p.dst ≤ (s.core c).fillOf p.td)) = true →
    (s.core c).loaded &&& p.mask = p.mask →
    ∃ t, exec (.aew c w) s = .next t ∧
      t.core c = stepped ({ (s.core c) with passes := [p], progress := 0 }) s.now ∧
      (∀ d, d ≠ c → t.core d = s.core d) ∧
      storageSame s t) ∧
  (∀ (s : State) (c mask : Nat) (p : Pass),
    (s.core c).passes = [p] →
    p.mask = mask →
    p.stop = false →
    (s.core c).run = 1 →
    (s.core c).preempt = false →
    bit s.obs.halted (c / 32) = false →
    (wOp p.w = 4 ∨ ∀ n, 16 * p.chunks ≤ n → n < min p.count (16 * p.chunks + 16) → ∀ x ∈ takers ((s.core c).mode == 2) (bitsOf 4 mask) n, rowOk (s.rowOut c p (s.core c) [] n x) = true) →
    ∃ t, exec (.astrChunkCommit c mask []) s = .next t ∧
      t.obj Obj.ctrAstrRows = (s.obj Obj.ctrAstrRows + (min p.count (16 * p.chunks + 16) - 16 * p.chunks)) % 2 ^ 64 ∧
      (t.core c).passes = (if min p.count (16 * p.chunks + 16) = p.count then [] else [{ p with chunks := p.chunks + 1 }]) ∧
      (∀ d, d ≠ c → t.core d = s.core d) ∧
      storageSame s t) ∧
  (∀ (s : State) (c mask x : Nat) (p : Pass) (xs : List Nat),
    (s.core c).passes = [p] →
    p.mask = mask →
    p.stop = false →
    (s.core c).run = 1 →
    bit s.obs.halted (c / 32) = false →
    wOp p.w ≠ 4 →
    16 * p.chunks < p.count →
    takers ((s.core c).mode == 2) (bitsOf 4 mask) (16 * p.chunks) = x :: xs →
    rowOk (s.rowOut c p (s.core c) [] (16 * p.chunks) x) = false →
    ∃ t, exec (.astrChunkCommit c mask []) s = .next t ∧
      (t.core c).run = 2 ∧
      (t.core c).passes = [] ∧
      (t.core c).loaded = 0 ∧
      ((t.core c).fault).map (·.1) = some 0x0F ∧
      t.obj Obj.ctrArrayMismatch = (s.obj Obj.ctrArrayMismatch + 1) % 2 ^ 64 ∧
      (∀ d, d ≠ c → t.core d = s.core d) ∧
      storageSame s t) ∧
  (∀ (s : State) (c x : Nat) (p : Pass),
    (s.core c).passes = [p] →
    p.stop = false →
    (s.core c).run = 1 →
    (s.core c).preempt = false →
    bit s.obs.halted (c / 32) = false →
    (s.core c).mode = 0 →
    bitsOf 4 p.mask = [x] →
    wOp p.w = 2 →
    p.acc = false →
    p.count = 1 →
    p.chunks = 0 →
    rowOk (s.rowOut c p (s.core c) [] 0 x) = true →
    ∃ t, exec (.astrChunkCommit c p.mask []) s = .next t ∧
      (∀ j, j < 4 → (t.core c).row p.td (p.dst + j) = packBits 32 (((((arrOut 2 (s.marr (4 * c + x)) false ((s.core c).ty p.ts) ((s.core c).row p.ts p.first)).take 64).drop (16 * j)).take 16).map (ofSigned 32)) % 2 ^ 512) ∧
      (t.core c).passes = [] ∧
      (∀ d, d ≠ c → t.core d = s.core d) ∧
      storageSame s t)

/-- RQ of a filled, clean D tile with finite scales to an FP32 G tile, without correction and with nothing in flight, writes each output as its sum times the row scale and the channel scale, with ReLU where its bit is set, sixteen to a row; RSTAT of a filled, clean A, D or G tile gives Xd the largest magnitude, the escapes, and the counts of zeroed and underscaled rows. -/
def Obligations.RequantisingAndStatistics : Prop :=
  (∀ (s : State) (c : Nat) (w : W32) (td ts a q first g dst cs : Nat),
    canIssue s c w.toNat = true →
    isWord w.toNat 5 0 = true →
    bits w.toNat 1 0 = 0 →
    (s.core c).xOk [bits w.toNat 12 8, bits w.toNat 7 3] = true →
    td = bits w.toNat 21 19 →
    ts = bits w.toNat 18 16 →
    a = (s.core c).xr (bits w.toNat 12 8) →
    q = (s.core c).xr (bits w.toNat 7 3) →
    first = bits a 6 0 →
    bits a 14 8 + 1 = 4 * g →
    dst = bits a 22 16 →
    cs = bits a 31 24 →
    bit a 35 = false →
    (s.core c).passes = [] →
    (s.core c).wld = none →
    (s.core c).role ts = 3 →
    (s.core c).role td = 4 →
    (s.core c).ty td = 5 →
    first + 4 * g ≤ (s.core c).tileRows ts →
    (s.core c).writable td dst (4 * g) = true →
    (s.core c).filled ts first (4 * g) = true →
    cs + 64 * g ≤ 256 →
    (s.core c).clean ts first (4 * g) = true →
    (List.range (64 * g)).all (fun j => bfFinite ((s.core c).csr (cs + j))) = true →
    (List.range g).all (fun i => bfFinite (tagScale ((s.core c).tag ts (first + 4 * i)))) = true →
    (List.range (64 * g)).all (fun j => fFinite (rqValue (toSigned 32 (elem32 ((s.core c).row ts (first + j / 16)) (j % 16))) none ((s.core c).tag ts (first + j / 64 * 4)) ((s.core c).csr (cs + j)) (bit w.toNat 2))) = true →
    ∃ t, exec (.rq c w) s = .next t ∧
      (∀ i, i < 4 * g → (t.core c).row td (dst + i) = packBits 32 ((List.range 16).map (fun j => rqValue (toSigned 32 (elem32 ((s.core c).row ts (first + i)) j)) none ((s.core c).tag ts (first + i / 4 * 4)) ((s.core c).csr (cs + 16 * i + j)) (bit w.toNat 2))) % 2 ^ 512) ∧
      (t.core c).fillOf td = max ((s.core c).fillOf td) (dst + 4 * g) ∧
      (t.core c).pc = (stepped (s.core c) s.now).pc ∧
      (∀ d, d ≠ c → t.core d = s.core d) ∧
      storageSame s t) ∧
  (∀ (s : State) (c : Nat) (w : W32) (ts xd first count : Nat),
    canIssue s c w.toNat = true →
    isWord w.toNat 5 1 = true →
    bits w.toNat 8 0 = 0 →
    (s.core c).xOk [bits w.toNat 13 9] = true →
    ts = bits w.toNat 21 19 →
    xd = bits w.toNat 18 14 →
    first = bits ((s.core c).xr (bits w.toNat 13 9)) 6 0 →
    count = bits ((s.core c).xr (bits w.toNat 13 9)) 14 8 + 1 →
    (s.core c).dstBusy ts first count = false →
    ((s.core c).role ts = 1 ∨ (s.core c).role ts = 3 ∨ (s.core c).role ts = 4) →
    first + count ≤ (s.core c).tileRows ts →
    (s.core c).filled ts first count = true →
    (s.core c).clean ts first count = true →
    ∃ t, exec (.rstat c w) s = .next t ∧
      t.core c = stepped ((s.core c).setX xd (bfRound (((List.range count).map (first + ·)).foldl (fun m i => fMax m (rowMax ((s.core c).role ts) ((s.core c).ty ts) ((s.core c).row ts i) ((s.core c).tag ts i))) 0) * 2 ^ 48 + min 65535 (((List.range count).map (first + ·)).foldl (fun n i => n + bits ((s.core c).tag ts i) 11 9) 0) * 2 ^ 32 + ((List.range count).map (first + ·)).countP (fun i => bit ((s.core c).tag ts i) 14) * 2 ^ 16 + ((List.range count).map (first + ·)).countP (fun i => bit ((s.core c).tag ts i) 13)) false) s.now ∧
      (∀ d, d ≠ c → t.core d = s.core d) ∧
      storageSame s t)

/-- A pre-emption of a running core with nothing in flight saves its context in the save area of its core store, changes no other byte, and is counted; one with a load or a pass in flight waits. A restore takes the program counter, identifiers, mode and scalar registers back from the area, and the core runs. q.stats_clear 1 clears the operator statistics. The model's reading, not a rule: when a pre-emption saves the context (notes/assumptions/83). -/
def Obligations.ContextOfACore : Prop :=
  (∀ (s : State) (c : Nat),
    c < 128 →
    s.isleOn (c / 32) = true →
    (s.core c).run = 1 →
    (s.core c).wld = none →
    (s.core c).barrier = none →
    (s.core c).passes = [] →
    ∃ t, exec (.preemptRequest c) s = .next t ∧
      (t.core c).run = 3 ∧
      (t.core c).preempt = false ∧
      t.memRead (coreStore c + 0x3F0000) (s.core c).context.length = (s.core c).context ∧
      memoryBut s t (coreStore c + 0x3F0000) (s.core c).context.length ∧
      t.obj Obj.ctrContextSaves = (s.obj Obj.ctrContextSaves + 1) % 2 ^ 64 ∧
      (∀ d, d ≠ c → t.core d = s.core d) ∧
      t.flash = s.flash) ∧
  (∀ (s : State) (c : Nat) (x : Nat × Nat × List Nat),
    c < 128 →
    s.isleOn (c / 32) = true →
    (s.core c).run = 1 →
    (s.core c).wld = some x →
    ∃ t, exec (.preemptRequest c) s = .next t ∧
      t.core c = { (s.core c) with preempt := true } ∧
      (∀ d, d ≠ c → t.core d = s.core d) ∧
      storageSame s t) ∧
  (∀ (s : State) (c : Nat),
    c < 128 →
    s.isleOn (c / 32) = true →
    (s.core c).run = 3 →
    s.memLE (coreStore c + 0x3F0000) 4 = 0x43585431 →
    ∃ t, exec (.contextRestore c) s = .next t ∧
      (t.core c).run = 1 ∧
      (t.core c).pc = s.memLE (coreStore c + 0x3F000C) 4 % 2 ^ 22 ∧
      (t.core c).ident = s.memLE (coreStore c + 0x3F0010) 4 ∧
      (t.core c).mode = s.memLE (coreStore c + 0x3F0014) 1 ∧
      (∀ i, 1 ≤ i → i < 32 → (t.core c).xr i = s.memLE (coreStore c + 0x3F0040 + 8 * i) 8) ∧
      t.obj Obj.ctrContextRestores = (s.obj Obj.ctrContextRestores + 1) % 2 ^ 64 ∧
      (∀ d, d ≠ c → t.core d = s.core d) ∧
      storageSame s t) ∧
  (∀ (s : State) (r : Req) (n : Nat),
    admitted s r 0x02 n = true →
    owns s r n = true →
    ∃ t, exec (.qStatsClear r 1) s = .next t ∧
      t.isle.stats = [] ∧
      wrote t n r 0x3100 0x0A = true ∧
      objsBut s t [] ∧
      storageSame s t)

/-- A load of a region held by the partition into an Empty or Resident slot whose quads are acceptable makes the slot Loading. A load of a bundle that passes every check, its stack's bursts good or corrected, gives the slot its command list and its placement on the ladder, and leaves the slot Staged where its quads overlap the active slot's and Resident, armed, otherwise, with status 0, and is counted; one whose region cannot be reached leaves it Empty with status 8, and is counted as refused and as a refused address. Unload empties a Resident, Staged or Quarantined slot and withdraws its requests. A used slot on a powered isle is armed again from its region; without the contents it becomes Empty with status 8. hbm.apply of an aligned grant that meets no other region and changes no held one gives the region its base, size and holder under the next fencing epoch. -/
def Obligations.SlotsLoadAndUnload : Prop :=
  (∀ (s : State) (r : Req) (n : Nat) (part slot v : Nat),
    admitted s r 0x02 n = true →
    owns s r n = true →
    part < 16 →
    slot < 4 →
    v < 64 →
    (s.slotState part slot = 0 ∨ s.slotState part slot = 3) →
    ((s.region v).holder = part ∨ (s.region v).holder = 0xF0) →
    s.quadsOk part slot (if s.regionUp v then quadsNeeded (s.slotBytes part slot (some v)) ((s.region v).size * mib) else none) = true →
    ∃ t, exec (.slotLoad r part slot v) s = .next t ∧
      t.slotState part slot = 1 ∧
      t.obj (Obj.partSlotLoad part slot) = v ∧
      (t.slot part slot).load = some v ∧
      (t.slot part slot).lquads = s.obj (Obj.partSlotQuads part slot) ∧
      wrote t n r (0x8210 + 0x400 * part + slot) 1 = true ∧
      storageSame s t) ∧
  (∀ (s : State) (part slot v : Nat) (b x : Bytes) (err : Bursts),
    (s.slot part slot).load = some v →
    v < 64 →
    s.slotState part slot = 1 →
    s.netOn = true →
    part < 16 →
    slot < 4 →
    s.regionUp v = true →
    (bitsOf 32 (s.slot part slot).lquads).head?.all (fun q => !s.objBit Obj.faultIslesFenced (q / 8) && s.isleOn (q / 8)) = true →
    b = s.slotBytes part slot (some v) →
    bundleHeadOk b ((s.region v).size * mib) = true →
    bundleDigestsOk b = true →
    s.isleRecord = some x →
    hasSec b 1 = true →
    pairOutcome x (recTrim (secBytes b 1)) ≠ 2 →
    sectionStatus b = 0 →
    (hasSec b 4 = true → popCount 32 (s.slot part slot).lquads = byteAt (secBytes b 4) 1 ∧ ∃ pl, placingOf b = some pl ∧ s.placeOk (s.slot part slot).lquads pl (graphCmds b) = true ∧ (s.ladder part slot (((bitsOf 32 (s.slot part slot).lquads).head?.map (· / 8)).getD 0) (some (s.region v).base) pl).isSome = true) →
    err.failed = false →
    ∃ t, exec (.slotLoadComplete part slot err) s = .next t ∧
      t.slotState part slot = (if s.obj (Obj.partT2Active part) < 4 ∧ s.obj (Obj.partT2Active part) ≠ slot ∧ (s.slot part (s.obj (Obj.partT2Active part))).quads &&& (s.slot part slot).lquads ≠ 0 then 2 else 3) ∧
      (t.slotState part slot = 3 → (t.slot part slot).armed = true) ∧
      (t.slot part slot).region = some v ∧
      (t.slot part slot).digest = bundleDigest b ∧
      (t.slot part slot).quads = (s.slot part slot).lquads ∧
      (t.slot part slot).cmds = (if hasSec b 4 then graphCmds b else []) ∧
      (hasSec b 4 = true → (t.slot part slot).place = (placingOf b).bind (s.ladder part slot (((bitsOf 32 (s.slot part slot).lquads).head?.map (· / 8)).getD 0) (some (s.region v).base))) ∧
      t.obj Obj.ctrHbmEccCorrected = (s.obj Obj.ctrHbmEccCorrected + err.fixed) % 2 ^ 64 ∧
      t.obj (Obj.partSlotLoadStatus part slot) = 0 ∧
      t.obj Obj.modelLoads = (s.obj Obj.modelLoads + 1) % 2 ^ 64 ∧
      t.flash = s.flash) ∧
  (∀ (s : State) (part slot v : Nat) (err : Bursts),
    (s.slot part slot).load = some v →
    v < 64 →
    s.slotState part slot = 1 →
    s.netOn = true →
    part < 16 →
    slot < 4 →
    s.regionUp v = false →
    ∃ t, exec (.slotLoadComplete part slot err) s = .next t ∧
      t.obj Obj.ctrAddrRefused = (s.obj Obj.ctrAddrRefused + 1) % 2 ^ 64 ∧
      t.slotState part slot = 0 ∧
      t.obj (Obj.partSlotLoadStatus part slot) = 8 ∧
      t.obj Obj.modelLoadRefused = (s.obj Obj.modelLoadRefused + 1) % 2 ^ 64 ∧
      storageSame s t) ∧
  (∀ (s : State) (r : Req) (n : Nat) (part slot : Nat),
    admitted s r 0x02 n = true →
    owns s r n = true →
    part < 16 →
    slot < 4 →
    (s.slotState part slot = 2 ∨ s.slotState part slot = 3 ∨ s.slotState part slot = 6) →
    ∃ t, exec (.slotUnload r part slot 1) s = .next t ∧
      t.slotState part slot = 0 ∧
      (t.slot part slot).place = none ∧
      (t.slot part slot).armed = false ∧
      t.m.out2.all (fun q => !(q.part == part && q.slot == slot)) = true ∧
      (t.slot part slot).fence = (s.slot part slot).fence + 1 ∧
      wrote t n r (0x8210 + 0x400 * part + slot) 8 = true ∧
      storageSame s t) ∧
  (∀ (s : State) (part slot i : Nat) (err : Bursts),
    part < 16 →
    slot < 4 →
    (s.slotState part slot = 3 ∨ s.slotState part slot = 4 ∨ s.slotState part slot = 5) →
    (s.slot part slot).armed = false →
    (s.slot part slot).lost = false →
    err.failed = false →
    s.slotIsle part slot = some i →
    s.isleOn i = true →
    (match (s.slot part slot).region with | some r => s.regionUp r && bundleHeadOk (s.slotBytes part slot (some r)) ((s.region r).size * mib) | none => true) = true →
    ∃ t, exec (.slotRearm part slot ⟨true, err⟩) s = .next t ∧
      (t.slot part slot).armed = true ∧
      (t.slot part slot).quads = (s.slot part slot).quads ∧
      t.slotState part slot = s.slotState part slot ∧
      t.flash = s.flash) ∧
  (∀ (s : State) (part slot i : Nat),
    part < 16 →
    slot < 4 →
    (s.slotState part slot = 3 ∨ s.slotState part slot = 4 ∨ s.slotState part slot = 5) →
    (s.slot part slot).armed = false →
    s.slotIsle part slot = some i →
    s.isleOn i = true →
    ∃ t, exec (.slotRearm part slot ⟨false, {}⟩) s = .next t ∧
      t.slotState part slot = 0 ∧
      t.obj (Obj.partSlotLoadStatus part slot) = 8 ∧
      storageSame s t) ∧
  (∀ (s : State) (r : Req) (n : Nat) (g : Nat),
    admitted s r 0x02 n = true →
    owns s r n = true →
    g = s.obj Obj.hbmSel →
    s.obj Obj.hbmHolder ≠ 0xFF →
    s.obj Obj.hbmBase % 0x200000 = 0 →
    s.obj Obj.hbmSize % 2 = 0 →
    s.obj Obj.hbmBase < 0x1800000000 →
    s.obj Obj.hbmBase + s.obj Obj.hbmSize * mib ≤ s.obj Obj.hbmBase / 0x600000000 * 0x600000000 + 23 * 2 ^ 30 →
    (List.range 64).all (fun i => i == g || (s.region i).holder == 0xFF || !(decide (s.obj Obj.hbmBase < (s.region i).base + (s.region i).size * mib) && decide ((s.region i).base < s.obj Obj.hbmBase + s.obj Obj.hbmSize * mib))) = true →
    s.heldBySlot g = false →
    ((s.region g).base ≠ s.obj Obj.hbmBase ∨ (s.region g).size ≠ s.obj Obj.hbmSize ∨ (s.region g).holder ≠ s.obj Obj.hbmHolder) →
    ∃ t, exec (.hbmApply r 1) s = .next t ∧
      t.region g = { base := s.obj Obj.hbmBase, size := s.obj Obj.hbmSize, holder := s.obj Obj.hbmHolder, epoch := ((s.region g).epoch + 1) % 2 ^ 32 } ∧
      (∀ i, i ≠ g → t.region i = s.region i) ∧
      wrote t n r 0x3300 6 = true ∧
      objsBut s t [] ∧
      storageSame s t) ∧
  (∀ (s : State) (r : Req) (n : Nat) (g : Nat),
    admitted s r 0x02 n = true →
    owns s r n = true →
    g = s.obj Obj.hbmSel →
    s.obj Obj.hbmHolder = 0xFF →
    (s.region g).holder ≠ 0xFF →
    s.heldBySlot g = false →
    ∃ t, exec (.hbmApply r 1) s = .next t ∧
      t.region g = { base := 0, size := 0, holder := 0xFF, epoch := ((s.region g).epoch + 1) % 2 ^ 32 } ∧
      (∀ i, i ≠ g → t.region i = s.region i) ∧
      wrote t n r 0x3300 6 = true ∧
      objsBut s t [] ∧
      storageSame s t)

/-- A swap to a Resident slot without a gap, with no swap in progress, gives the partition the next epoch and the slot, which is Active; the slot that was Active is Draining. A write of part.t1_slot gives the tier-1 slot and the next epoch. A drain with no outstanding request ends: the slot is Resident and no swap is in progress. A gap's Staged slot is armed once the drain has ended, and a gap whose slot has gone meanwhile ends with it. A gap closes when its slot is armed and Active; where the arming fails the slot is Empty with status 8 and no tier-2 slot is active. -/
def Obligations.SwapsDrainAndClose : Prop :=
  (∀ (s : State) (r : Req) (n : Nat) (part old new : Nat),
    admitted s r 0x02 n = true →
    owns s r n = true →
    part < 16 →
    old = s.obj (Obj.partT2Active part) →
    new < 4 →
    old ≠ new →
    (old < 4 ∨ old = 0xFE) →
    s.slotState part new = 3 →
    s.obj (Obj.partSwapState part) = 0 →
    ∃ t, exec (.swap r part (0xFF00 + new)) s = .next t ∧
      t.obj (Obj.partEpoch part) = (s.obj (Obj.partEpoch part) + 1) % 2 ^ 32 ∧
      t.obj (Obj.partT2Active part) = new ∧
      t.slotState part new = 4 ∧
      (old < 4 → s.slotState part old = 4 → t.slotState part old = 5 ∧ t.obj (Obj.partSwapState part) = 1) ∧
      (¬ (old < 4 ∧ s.slotState part old = 4) → t.obj (Obj.partSwapState part) = 0) ∧
      t.obj (Obj.partT1Slot part) = s.obj (Obj.partT1Slot part) ∧
      wrote t n r (0x8200 + 0x400 * part) 3 = true ∧
      storageSame s t) ∧
  (∀ (s : State) (r : Req) (n : Nat) (part v : Nat),
    admitted s r 0x02 n = true →
    owns s r n = true →
    part < 16 →
    (v < 4 ∨ v = 0xFF) →
    s.obj (Obj.partSwapState part) = 0 →
    ∃ t, exec (.t1SlotWrite r part v) s = .next t ∧
      t.obj (Obj.partT1Slot part) = v ∧
      t.obj (Obj.partEpoch part) = (s.obj (Obj.partEpoch part) + 1) % 2 ^ 32 ∧
      t.obj (Obj.partT2Active part) = s.obj (Obj.partT2Active part) ∧
      wrote t n r (0x8180 + 0x400 * part) 1 = true ∧
      objsBut s t [Obj.partT1Slot part, Obj.partEpoch part] ∧
      storageSame s t) ∧
  (∀ (s : State) (part slot : Nat),
    part < 16 →
    slot < 4 →
    (s.partSw part).drain = some slot →
    (s.partSw part).gap = none →
    s.outOf part slot = 0 →
    s.slotState part slot = 5 →
    ∃ t, exec (.drainComplete part) s = .next t ∧
      t.slotState part slot = 3 ∧
      t.obj (Obj.partSwapState part) = 0 ∧
      (t.partSw part).drain = none ∧
      (t.slot part slot) = (s.slot part slot) ∧
      storageSame s t) ∧
  (∀ (s : State) (part slot g : Nat),
    part < 16 →
    slot < 4 →
    g < 4 →
    g ≠ slot →
    (s.partSw part).drain = some slot →
    (s.partSw part).gap = some g →
    s.outOf part slot = 0 →
    s.slotState part slot = 5 →
    s.slotState part g = 2 →
    ∃ t, exec (.drainComplete part) s = .next t ∧
      t.slotState part slot = 0 ∧
      (t.partSw part).drain = none ∧
      (t.slot part g).arming = true ∧
      t.obj (Obj.partSwapState part) = s.obj (Obj.partSwapState part) ∧
      storageSame s t) ∧
  (∀ (s : State) (part slot g : Nat),
    part < 16 →
    slot < 4 →
    g < 4 →
    g ≠ slot →
    (s.partSw part).drain = some slot →
    (s.partSw part).gap = some g →
    s.outOf part slot = 0 →
    s.slotState part slot = 5 →
    s.slotState part g ≠ 2 →
    ∃ t, exec (.drainComplete part) s = .next t ∧
      t.slotState part slot = 0 ∧
      (t.partSw part).drain = none ∧
      (t.partSw part).gap = none ∧
      t.obj (Obj.partSwapState part) = 0 ∧
      storageSame s t) ∧
  (∀ (s : State) (part slot : Nat) (err : Bursts),
    part < 16 →
    slot < 4 →
    (s.partSw part).drain = none →
    (s.partSw part).gap = some slot →
    s.slotState part slot = 2 →
    (s.slot part slot).lost = false →
    err.failed = false →
    s.isleOn ((s.slotIsle part slot).getD 0) = true →
    s.objBit Obj.faultIslesFenced ((s.slotIsle part slot).getD 0) = false →
    (s.slot part slot).region.all (fun r => s.regionUp r) = true →
    ∃ t, exec (.gapArmDone part ⟨true, err⟩) s = .next t ∧
      t.slotState part slot = 4 ∧
      (t.slot part slot).armed = true ∧
      t.obj (Obj.partSwapState part) = 0 ∧
      (t.partSw part).gap = none) ∧
  (∀ (s : State) (part slot : Nat),
    part < 16 →
    slot < 4 →
    (s.partSw part).drain = none →
    (s.partSw part).gap = some slot →
    s.slotState part slot = 2 →
    s.isleOn ((s.slotIsle part slot).getD 0) = true →
    s.obj (Obj.partT2Active part) = slot →
    ∃ t, exec (.gapArmDone part ⟨false, {}⟩) s = .next t ∧
      t.slotState part slot = 0 ∧
      t.obj (Obj.partSlotLoadStatus part slot) = 8 ∧
      t.obj (Obj.partT2Active part) = 0xFE ∧
      t.obj (Obj.partSwapState part) = 0 ∧
      (t.partSw part).gap = none ∧
      storageSame s t)

/-- The oldest record of a result queue with status 0, for an outstanding request of this device that is in time and not fenced, whose entry may be written, gives the entry the verdict of its output at tier 2 with the record's epoch, and frees the request; one with no request counts as late. A request whose timeout passes is freed, counted as withdrawn, the work record of one that has not been sent rewound, and its entry may be requested again. -/
def Obligations.TierTwoResults : Prop :=
  (∀ (s : State) (n p k : Nat) (ks : List Nat) (w : Bytes) (r : T2Req) (i : Nat),
    n < 4 →
    p < 16 →
    s.netOn = true →
    (s.queue (128 + 16 * n + p)).pkts = k :: ks →
    ((s.queue (128 + 16 * n + p)).words.take k).all (fun e => !e.poison) = true →
    w = (((s.queue (128 + 16 * n + p)).words.take k).map (·.bytes)).headD [] →
    recOrigin w = 0xFF →
    s.plain = false →
    byteAt w 3 = 0 →
    s.t2req (leAt w 8 6) = some r →
    s.clk.ticks ≤ r.deadline →
    (s.remapOf r.part r.slot).kind = 0 →
    r.fence = (s.slot r.part r.slot).fence →
    s.judge r.key 2 (leAt w 4 4) = .written i →
    ∃ t, exec (.tier2Result n p false) s = .next t ∧
      (t.entry i).verdict = (s.t2Map r.part r.slot (leAt w 16 4)).1 ∧
      (t.entry i).score = (s.t2Map r.part r.slot (leAt w 16 4)).2 ∧
      (t.entry i).tier = 2 ∧
      (t.entry i).epoch = leAt w 4 4 ∧
      t.t2req (leAt w 8 6) = none ∧
      (t.queue (128 + 16 * n + p)).pkts = ks ∧
      storageSame s t) ∧
  (∀ (s : State) (n p k : Nat) (ks : List Nat) (w : Bytes),
    n < 4 →
    p < 16 →
    s.netOn = true →
    (s.queue (128 + 16 * n + p)).pkts = k :: ks →
    ((s.queue (128 + 16 * n + p)).words.take k).all (fun e => !e.poison) = true →
    w = (((s.queue (128 + 16 * n + p)).words.take k).map (·.bytes)).headD [] →
    recOrigin w = 0xFF →
    s.t2req (leAt w 8 6) = none →
    ∃ t, exec (.tier2Result n p false) s = .next t ∧
      t.obj Obj.ctrT2Late = (s.obj Obj.ctrT2Late + 1) % 2 ^ 64 ∧
      (t.queue (128 + 16 * n + p)).pkts = ks ∧
      objsBut s t [Obj.ctrT2Late, Obj.ctrPoisonDelivered] ∧
      storageSame s t) ∧
  (∀ (s : State) (seq : Nat) (r : T2Req),
    s.t2req seq = some r →
    ∃ t, exec (.t2Timeout seq) s = .next t ∧
      t.t2req seq = none ∧
      t.obj Obj.ctrT2Withdrawn = (s.obj Obj.ctrT2Withdrawn + 1) % 2 ^ 64 ∧
      t.clk.ticks = max s.clk.ticks r.deadline ∧
      (s.findKey r.key).all (fun i => (s.elapseTo r.deadline).locked (s.entry i) || !(t.entry i).t2req) = true ∧
      (r.sent = false → t.obj Obj.ctrQueueRewinds = (s.obj Obj.ctrQueueRewinds + 1) % 2 ^ 64) ∧
      objsBut s t [Obj.ctrT2Withdrawn, Obj.ctrQueueRewinds] ∧
      storageSame s t)

/-- The reset of a stopped core leaves it with no fault; where no request and no slot is concerned and no command waits, it is the core with its tiles, port and passes gone and status 1, and one fault record more. A core watchdog at its deadline counts one expiry and the core is reset. A control-core watchdog counts an expiry and a restart, and fences the eight bulk queues' producers. part.recover_resume of a held partition restarts its job: its requests are withdrawn, its restart history is this one alone, it is counted, and the partition is restarting, or held again where its restart limit is 0; the arming of a restarting partition ends with its recovery state 0. The model's reading, not a rule: that a control-core restart fences the bulk queues (notes/assumptions/41). -/
def Obligations.CoresFailAndAreReset : Prop :=
  (∀ (s : State) (c : Nat) (f : Nat × Nat × Nat),
    (s.core c).fault = some f →
    f.1 ≠ 0x0F →
    s.slotOfCore c = none →
    (s.core c).cur = none →
    s.isleOn (c / 32) = true →
    (s.sched (c / 32)).waiting.find? (fun e => e.1 == c) = none →
    ∃ t, exec (.coreReset c) s = .next t ∧
      t.core c = (s.core c).afterReset ∧
      t.obj Obj.faultCount = (s.obj Obj.faultCount + 1) % 2 ^ 32 ∧
      (∀ d, d ≠ c → t.core d = s.core d) ∧
      objsBut s t [Obj.faultCount] ∧
      storageSame s t) ∧
  (∀ (s : State) (c : Nat) (f : Nat × Nat × Nat),
    (s.core c).fault = some f →
    s.isleOn (c / 32) = true →
    (s.sched (c / 32)).poison = [] →
    ∃ t, exec (.coreReset c) s = .next t ∧
      (t.core c).fault = none) ∧
  (∀ (s : State) (c : Nat),
    (s.core c).run = 1 →
    s.isleOn (c / 32) = true →
    bit s.obs.halted (c / 32) = false →
    (s.sched (c / 32)).poison = [] →
    ∃ t, exec (.coreWatchdog c) s = .next t ∧
      (t.core c).fault = none ∧
      t.obj Obj.ctrWatchdogExpiries = (s.obj Obj.ctrWatchdogExpiries + 1) % 2 ^ 64 ∧
      t.clk.ticks = max s.clk.ticks ((s.core c).since + usT (s.obj Obj.faultCoreWd))) ∧
  (∀ (s : State),
    s.on = true →
    s.pwr.coreClock = true →
    ∃ t, exec (.ctrlWatchdog) s = .next t ∧
      t.obj Obj.ctrWatchdogExpiries = (s.obj Obj.ctrWatchdogExpiries + 1) % 2 ^ 64 ∧
      t.obj Obj.ctrCtrlRestarts = (s.obj Obj.ctrCtrlRestarts + 1) % 2 ^ 64 ∧
      (∀ i, i < 8 → (t.queue (256 + i)).epoch = ((s.queue (256 + i)).epoch + 1) % 2 ^ 32) ∧
      t.obj Obj.faultCount = (s.obj Obj.faultCount + 1) % 2 ^ 32 ∧
      storageSame s t) ∧
  (∀ (s : State) (r : Req) (n : Nat) (part : Nat),
    admitted s r 0x02 n = true →
    owns s r n = true →
    part < 16 →
    s.obj (Obj.partRecoveryState part) = 3 →
    ∃ t, exec (.recoverResume r part 1) s = .next t ∧
      t.obj (Obj.partRecoveryState part) = (if s.obj (Obj.partRestartLimit part) = 0 then 3 else 2) ∧
      t.m.out2.all (fun q => q.part != part) = true ∧
      (t.partSw part).restarts = [s.clk.ticks] ∧
      t.obj Obj.ctrJobRestarts = (s.obj Obj.ctrJobRestarts + 1) % 2 ^ 64 ∧
      wrote t n r (0x82C0 + 0x400 * part) 4 = true ∧
      storageSame s t) ∧
  (∀ (s : State) (part : Nat),
    part < 16 →
    s.obj (Obj.partRecoveryState part) = 2 →
    ∃ t, exec (.restartArmingDone part) s = .next t ∧
      t.obj (Obj.partRecoveryState part) = 0)

/-- A scheduler watchdog at its deadline, with work waiting, counts one expiry and fences the isle: fault.isles_fenced shows it, machine.isles_up does not, and the fence is counted. A transfer's resends are counted, and after 8, or at the loss of a lane, the sound has failed: it is no longer up, nor is its stack, it is counted and its isle fenced. fault.isle_restore of fenced isles starts their restores, 100 µs each, and so does the automatic one 1 s after the fence; a sound that trains while PD-NET and PD-HBM are powered brings its isle, its sound and the isle's domain up and ends the fence; one that does not ends the restore with a fault record, the isle still fenced. -/
def Obligations.IslesAreFencedAndRestored : Prop :=
  (∀ (s : State) (n : Nat),
    s.isleOn n = true →
    s.isleBusy n = true →
    bit s.obs.halted n = false →
    s.objBit Obj.faultIslesFenced n = false →
    ∃ t, exec (.isleWatchdog n) s = .next t ∧
      t.objBit Obj.faultIslesFenced n = true ∧
      t.objBit Obj.machineIslesUp n = false ∧
      t.isleOn n = false ∧
      t.obj Obj.ctrWatchdogExpiries = (s.obj Obj.ctrWatchdogExpiries + 1) % 2 ^ 64 ∧
      t.obj Obj.ctrIsleFences = (s.obj Obj.ctrIsleFences + 1) % 2 ^ 64 ∧
      t.clk.ticks = max s.clk.ticks ((s.sched n).last + usT (s.obj Obj.faultIsleWd))) ∧
  (∀ (s : State) (n resends : Nat) (lane : Bool),
    s.netOn = true →
    s.objBit Obj.machineSoundsUp n = true →
    s.objBit Obj.faultIslesFenced n = false →
    (lane = true ∨ 8 ≤ resends) →
    ∃ t, exec (.soundTransferFail n ⟨lane, resends⟩) s = .next t ∧
      t.objBit Obj.machineSoundsUp n = false ∧
      t.objBit Obj.machineStacksUp n = false ∧
      t.objBit Obj.faultIslesFenced n = true ∧
      t.isleOn n = false ∧
      t.obj Obj.ctrSoundFailures = (s.obj Obj.ctrSoundFailures + 1) % 2 ^ 64 ∧
      t.obj Obj.ctrSoundRetries = (s.obj Obj.ctrSoundRetries + min 8 resends) % 2 ^ 64) ∧
  (∀ (s : State) (n resends : Nat),
    s.netOn = true →
    s.objBit Obj.machineSoundsUp n = true →
    resends < 8 →
    ∃ t, exec (.soundTransferFail n ⟨false, resends⟩) s = .next t ∧
      t.obj Obj.ctrSoundRetries = (s.obj Obj.ctrSoundRetries + resends) % 2 ^ 64 ∧
      objsBut s t [Obj.ctrSoundRetries] ∧
      storageSame s t) ∧
  (∀ (s : State) (r : Req) (n : Nat) (v : Nat),
    admitted s r 0x02 n = true →
    owns s r n = true →
    1 ≤ v →
    v < 16 →
    v &&& s.obj Obj.faultIslesFenced = v →
    ∃ t, exec (.isleRestore r v) s = .next t ∧
      (∀ i ∈ bitsOf 4 v, mget (fun _ => 0) t.fault.restoring i = s.clk.ticks + 5000) ∧
      t.obj Obj.faultRecovering = 1 ∧
      wrote t n r 0x1500 5 = true ∧
      objsBut s t [Obj.faultRecovering] ∧
      storageSame s t) ∧
  (∀ (s : State) (n d : Nat),
    mget (fun _ => 0) s.fault.fencedAt n = d + 1 →
    s.obj Obj.faultIsleAutoRestore ≠ 0 →
    mget (fun _ => 0) s.fault.restoring n = 0 →
    s.objBit Obj.faultIslesFenced n = true →
    n < 4 →
    ∃ t, exec (.isleAutoRestore n) s = .next t ∧
      t.clk.ticks = max s.clk.ticks (d + 50000000) ∧
      mget (fun _ => 0) t.fault.restoring n = t.clk.ticks + 5000 ∧
      mget (fun _ => 0) t.fault.fencedAt n = 0 ∧
      t.obj Obj.faultRecovering = 1 ∧
      objsBut s t [Obj.faultRecovering] ∧
      storageSame s t) ∧
  (∀ (s : State) (n d : Nat),
    mget (fun _ => 0) s.fault.restoring n = d + 1 →
    ∃ t, exec (.restoreTrainTimeout n) s = .next t ∧
      mget (fun _ => 0) t.fault.restoring n = 0 ∧
      t.clk.ticks = max s.clk.ticks (d + 1) ∧
      t.obj Obj.faultCount = (s.obj Obj.faultCount + 1) % 2 ^ 32 ∧
      t.objBit Obj.faultIslesFenced n = s.objBit Obj.faultIslesFenced n ∧
      objsBut s t [Obj.faultCount, Obj.faultRecovering] ∧
      storageSame s t) ∧
  (∀ (s : State) (n d : Nat),
    n < 4 →
    mget (fun _ => 0) s.fault.restoring n = d + 1 →
    s.netOn = true →
    s.domain 1 = true →
    ∃ t, exec (.soundTrained n) s = .next t ∧
      t.objBit Obj.faultIslesFenced n = false ∧
      t.objBit Obj.machineSoundsUp n = true ∧
      t.objBit Obj.machineIslesUp n = true ∧
      t.isleOn n = true ∧
      t.objBit Obj.machineStacksUp n = true ∧
      mget (fun _ => 0) t.fault.restoring n = 0 ∧
      t.flash = s.flash)

/-- A bundle ring's doorbell sets its submission pointer, and the ring serves the descriptors that it fetches, each as the command of its operation code; a code that is no operation completes with status 10. A descriptor that passes the checks of R350 completes with status 0, and the ring's pointers move on: host to region writes the bytes into the region and changes no other byte of memory; region to host sends the region's bytes to the host and changes none, what the stack corrects counted. -/
def Obligations.BundleRings : Prop :=
  (∀ (s : State) (fn producer : Nat),
    fn ≤ 16 →
    s.linkOn = true →
    ∃ t, exec (.bundleRingDoorbell fn ⟨producer, []⟩) s = .next t ∧
      t.bRing fn = { s.bRing fn with sp := producer % (s.bRing fn).wrap } ∧
      t.objs = s.objs ∧
      storageSame s t) ∧
  (∀ (s u : State) (fn producer : Nat) (fetched : List (Bytes × Bytes)),
    exec (.bundleRingDoorbell fn ⟨producer, []⟩) s = .next u →
    fn ≤ 16 →
    exec (.bundleRingDoorbell fn ⟨producer, fetched⟩) s = .next (fetched.foldl (fun x d => x.serveBundle fn d.1 d.2) u)) ∧
  (∀ (s : State) (fn : Nat) (b buf : Bytes),
    (byteAt b 0 = 0x01 → exec (.bundleHostToRegion (bdescOf fn b buf)) s = .next (s.serveBundle fn b buf)) ∧
    (byteAt b 0 = 0x02 → exec (.bundleRegionToHost (bdescOf fn b buf)) s = .next (s.serveBundle fn b buf))) ∧
  (∀ (s : State) (fn : Nat) (b buf : Bytes),
    byteAt b 0 ≠ 1 →
    byteAt b 0 ≠ 2 →
    fn ≤ 16 →
    s.pcie = true →
    (s.bRing fn).en = true →
    (s.bRing fn).sp ≠ (s.bRing fn).sc →
    (s.bRing fn).room = true →
    (s.serveBundle fn b buf).out.contains (.dma fn ((s.bRing fn).comp + 32 * ((s.bRing fn).cp % (s.bRing fn).entries)) (completion (leAt b 4 4) (byteAt b 0) { st := 10 })) = true ∧
    (s.serveBundle fn b buf).objs = s.objs ∧
    storageSame s (s.serveBundle fn b buf)) ∧
  (∀ (s : State) (d : BDesc),
    d.fn ≤ 16 →
    s.pcie = true →
    (s.bRing d.fn).en = true →
    (s.bRing d.fn).sp ≠ (s.bRing d.fn).sc →
    (s.bRing d.fn).room = true →
    d.region < 64 →
    1 ≤ d.len →
    d.len ≤ 16777216 →
    (if d.fn = 0 then (s.region d.region).holder ≠ 0xFF else (s.region d.region).holder = d.fn - 1) →
    d.epoch % 65536 = (s.region d.region).epoch % 65536 →
    d.off + d.len ≤ (s.region d.region).size * mib →
    s.domain 1 = true →
    s.heldBySlot d.region = false →
    s.addrOk ((s.region d.region).base + d.off) d.len true = true →
    ∃ t, exec (.bundleHostToRegion d) s = .next t ∧
      t.memRead ((s.region d.region).base + d.off) d.len = padTo d.len d.data ∧
      memoryBut s t ((s.region d.region).base + d.off) d.len ∧
      t.out.contains (.dma d.fn ((s.bRing d.fn).comp + 32 * ((s.bRing d.fn).cp % (s.bRing d.fn).entries)) (completion d.cookie 0x01 { st := 0 })) = true ∧
      (t.bRing d.fn).sc = ((s.bRing d.fn).sc + 1) % (s.bRing d.fn).wrap ∧
      (t.bRing d.fn).cp = ((s.bRing d.fn).cp + 1) % (s.bRing d.fn).wrap ∧
      t.objs = s.objs ∧
      t.flash = s.flash) ∧
  (∀ (s : State) (d : BDesc),
    d.fn ≤ 16 →
    s.pcie = true →
    (s.bRing d.fn).en = true →
    (s.bRing d.fn).sp ≠ (s.bRing d.fn).sc →
    (s.bRing d.fn).room = true →
    d.region < 64 →
    1 ≤ d.len →
    d.len ≤ 16777216 →
    (if d.fn = 0 then (s.region d.region).holder ≠ 0xFF else (s.region d.region).holder = d.fn - 1) →
    d.epoch % 65536 = (s.region d.region).epoch % 65536 →
    d.off + d.len ≤ (s.region d.region).size * mib →
    s.domain 1 = true →
    d.err.failed = false →
    s.addrOk ((s.region d.region).base + d.off) d.len false = true →
    ∃ t, exec (.bundleRegionToHost d) s = .next t ∧
      t.out.contains (.dma d.fn d.host (s.memRead ((s.region d.region).base + d.off) d.len)) = true ∧
      t.out.contains (.dma d.fn ((s.bRing d.fn).comp + 32 * ((s.bRing d.fn).cp % (s.bRing d.fn).entries)) (completion d.cookie 0x02 { st := 0 })) = true ∧
      (t.bRing d.fn).sc = ((s.bRing d.fn).sc + 1) % (s.bRing d.fn).wrap ∧
      (t.bRing d.fn).cp = ((s.bRing d.fn).cp + 1) % (s.bRing d.fn).wrap ∧
      t.obj Obj.ctrHbmEccCorrected = (s.obj Obj.ctrHbmEccCorrected + d.err.fixed) % 2 ^ 64 ∧
      objsBut s t [Obj.ctrHbmEccCorrected, Obj.ctrHbmEccUncorrectable, Obj.ctrHbmE2eFail] ∧
      storageSame s t)

/-- Enabled with the core clock running a strait that is Off trains; disabled it is Off (a request that comes over a strait may cut its own way back). Trained it is in Init for up to 10 ms; initialised it is Up, with its peer and the peer's credits. A training or an Init that times out, or a link lost while Up, leaves it Down for 1 ms under the next link epoch, its replay buffer and credits gone, with one fault record; then it trains again. -/
def Obligations.StraitsChangeState : Prop :=
  (∀ (s : State) (r : Req) (n : Nat) (v i : Nat),
    admitted s r 0x02 n = true →
    owns s r n = true →
    v < 256 →
    i < 8 →
    ∃ t, exec (.straitEnableWrite r v) s = .next t ∧
      t.obj Obj.straitEnable = v ∧
      (bit v i = false → t.obj (Obj.straitState i) = 0) ∧
      (bit v i = true → s.netOn = true → s.obj (Obj.straitState i) = 0 → t.obj (Obj.straitState i) = 1 ∧ (t.strait i).deadline = some (s.clk.ticks + msT (s.obj Obj.straitTrainTimeout))) ∧
      (bit v i = true → s.obj (Obj.straitState i) ≠ 0 → t.obj (Obj.straitState i) = s.obj (Obj.straitState i)) ∧
      ((∀ d, r.ep ≠ .strait d) → wrote t n r 0x4000 3 = true) ∧
      storageSame s t) ∧
  (∀ (s : State) (i : Nat),
    s.straitIn i 1 = true →
    ∃ t, exec (.straitTrained i) s = .next t ∧
      t.obj (Obj.straitState i) = 2 ∧
      (t.strait i).deadline = some (s.clk.ticks + 500000) ∧
      t.straitUp i = false ∧
      storageSame s t) ∧
  (∀ (s : State) (i w : Nat),
    s.straitIn i 1 = true →
    (s.strait i).deadline = some w →
    ∃ t, exec (.straitTrainTimeout i) s = .next t ∧
      t.obj (Obj.straitState i) = 4 ∧
      t.straitUp i = false ∧
      t.obj (Obj.straitLinkEpoch i) = (s.obj (Obj.straitLinkEpoch i) + 1) % 2 ^ 32 ∧
      (t.strait i).replay = [] ∧
      (t.strait i).cred = [0, 0, 0] ∧
      (t.strait i).deadline = some (t.clk.ticks + 50000) ∧
      t.obj Obj.faultCount = (s.obj Obj.faultCount + 1) % 2 ^ 32 ∧
      t.clk.ticks = max s.clk.ticks w ∧
      storageSame s t) ∧
  (∀ (s : State) (i peer a b c : Nat),
    s.straitIn i 2 = true →
    peer < 64 →
    (s.strait i).out = [] →
    (s.member peer = true ∨ s.inPool = false) →
    ∃ t, exec (.straitInitDone i peer [a, b, c]) s = .next t ∧
      t.obj (Obj.straitState i) = 3 ∧
      t.straitUp i = true ∧
      t.obj (Obj.straitPeer i) = peer ∧
      (t.strait i).cred = [a, b, c] ∧
      (t.strait i).deadline = none ∧
      (t.strait i).tx = 0 ∧
      (t.strait i).rx = 0 ∧
      storageSame s t) ∧
  (∀ (s : State) (i w : Nat),
    s.straitIn i 2 = true →
    (s.strait i).initGot = false →
    (s.strait i).deadline = some w →
    ∃ t, exec (.straitInitTimeout i) s = .next t ∧
      t.obj (Obj.straitState i) = 4 ∧
      t.straitUp i = false ∧
      t.obj (Obj.straitLinkEpoch i) = (s.obj (Obj.straitLinkEpoch i) + 1) % 2 ^ 32 ∧
      (t.strait i).replay = [] ∧
      (t.strait i).cred = [0, 0, 0] ∧
      (t.strait i).deadline = some (t.clk.ticks + 50000) ∧
      t.obj Obj.faultCount = (s.obj Obj.faultCount + 1) % 2 ^ 32 ∧
      t.clk.ticks = max s.clk.ticks w ∧
      storageSame s t) ∧
  (∀ (s : State) (i : Nat),
    s.straitIn i 3 = true →
    ∃ t, exec (.straitLinkLoss i) s = .next t ∧
      t.obj (Obj.straitState i) = 4 ∧
      t.straitUp i = false ∧
      t.obj (Obj.straitLinkEpoch i) = (s.obj (Obj.straitLinkEpoch i) + 1) % 2 ^ 32 ∧
      (t.strait i).replay = [] ∧
      (t.strait i).cred = [0, 0, 0] ∧
      (t.strait i).deadline = some (t.clk.ticks + 50000) ∧
      t.obj Obj.faultCount = (s.obj Obj.faultCount + 1) % 2 ^ 32 ∧
      t.clk = s.clk ∧
      storageSame s t) ∧
  (∀ (s : State) (i w : Nat),
    s.straitIn i 4 = true →
    (s.strait i).deadline = some w →
    ∃ t, exec (.straitRetrain i) s = .next t ∧
      t.obj (Obj.straitState i) = 1 ∧
      t.clk.ticks = max s.clk.ticks w ∧
      (t.strait i).deadline = some (t.clk.ticks + msT (s.obj Obj.straitTrainTimeout)) ∧
      storageSame s t)

/-- On a strait that is Up: a data flit with a good CRC, the expected sequence and a known type advances the receive sequence and frees its channel's buffer, and a packet that it does not end stays in reassembly; one with a wrong CRC is counted and discarded. A nak, and 2 µs in which the oldest unacknowledged flit is not acknowledged, send every unacknowledged flit from the named one again, counted; after sixteen resends without progress the strait is Down. After 100 ns without a flit sent an ack flit goes. The model's reading, not a rule: the form of a nak (notes/assumptions/49). -/
def Obligations.FlitsAreAcknowledgedAndReplayed : Prop :=
  (∀ (s : State) (i : Nat) (f : Bytes),
    s.straitIn i 3 = true →
    f.length = 256 →
    crc32c (f.take 252) = beAt f 252 4 →
    byteAt f 0 / 16 = 1 →
    bits (byteAt f 0) 3 2 ≠ 3 →
    bit (byteAt f 0) 0 = false →
    bit (byteAt f 0) 1 = true →
    byteAt f 3 / 16 = 0 →
    beAt f 10 2 ≤ 236 →
    typeKnown (bits (byteAt f 0) 3 2) (byteAt f 12) = true →
    beAt f 4 2 = (s.strait i).rx →
    (s.strait i).out = [] →
    ∃ t, exec (.flitReceive i f) s = .next t ∧
      (t.strait i).rx = ((s.strait i).rx + 1) % 65536 ∧
      (t.strait i).part = some { ch := bits (byteAt f 0) 3 2, dst := byteAt f 1 % 64, src := byteAt f 2 % 64, hops := byteAt f 3 % 16, ty := byteAt f 12, data := slice f 16 (beAt f 10 2) } ∧
      (t.strait i).free.getD (bits (byteAt f 0) 3 2) 0 = (setAt (s.strait i).free (bits (byteAt f 0) 3 2) ((s.strait i).free.getD (bits (byteAt f 0) 3 2) 0 + 1)).getD (bits (byteAt f 0) 3 2) 0 ∧
      t.objs = s.objs ∧
      storageSame s t) ∧
  (∀ (s : State) (i : Nat) (f : Bytes),
    s.straitIn i 3 = true →
    crc32c ((padTo 256 f).take 252) ≠ beAt (padTo 256 f) 252 4 →
    ∃ t, exec (.flitReceive i f) s = .next t ∧
      t.obj Obj.ctrMolurCrcErrors = (s.obj Obj.ctrMolurCrcErrors + 1) % 2 ^ 64 ∧
      t.obj (Obj.straitCrcErrors i) = (s.obj (Obj.straitCrcErrors i) + 1) % 2 ^ 64 ∧
      (t.strait i).rx = (s.strait i).rx ∧
      (t.strait i).part = (s.strait i).part ∧
      (t.strait i).nak = true ∧
      objsBut s t [Obj.ctrMolurCrcErrors, Obj.straitCrcErrors i] ∧
      storageSame s t) ∧
  (∀ (s : State) (i seq : Nat) (fs : List (Nat × Bytes)),
    s.straitIn i 3 = true →
    fs = (s.strait i).replay.dropWhile (fun f => f.1 != seq % 65536) →
    fs ≠ [] →
    (s.strait i).resends < 16 →
    ∃ t, exec (.nakReceive i seq) s = .next t ∧
      t.obj (Obj.straitReplays i) = (s.obj (Obj.straitReplays i) + fs.length) % 2 ^ 64 ∧
      t.obj Obj.ctrMolurReplays = (s.obj Obj.ctrMolurReplays + fs.length) % 2 ^ 64 ∧
      (t.strait i).resends = (s.strait i).resends + 1 ∧
      t.out = (fs.map (fun f => Out.flit i f.2)).reverse ++ s.out ∧
      (t.strait i).replay = (s.strait i).replay ∧
      objsBut s t [Obj.ctrMolurReplays, Obj.straitReplays i] ∧
      storageSame s t) ∧
  (∀ (s : State) (i seq : Nat),
    s.straitIn i 3 = true →
    (s.strait i).replay.any (fun f => f.1 == seq % 65536) = true →
    (s.strait i).resends = 16 →
    ∃ t, exec (.nakReceive i seq) s = .next t ∧
      t.obj (Obj.straitState i) = 4 ∧
      t.straitUp i = false ∧
      t.obj (Obj.straitLinkEpoch i) = (s.obj (Obj.straitLinkEpoch i) + 1) % 2 ^ 32 ∧
      (t.strait i).replay = [] ∧
      (t.strait i).cred = [0, 0, 0] ∧
      (t.strait i).deadline = some (t.clk.ticks + 50000) ∧
      t.obj Obj.faultCount = (s.obj Obj.faultCount + 1) % 2 ^ 32 ∧
      storageSame s t) ∧
  (∀ (s : State) (i : Nat) (f : Nat × Bytes) (rest : List (Nat × Bytes)),
    s.straitIn i 3 = true →
    (s.strait i).replay = f :: rest →
    (s.strait i).resends < 16 →
    ∃ t, exec (.replayTimeout i) s = .next t ∧
      t.clk.ticks = max s.clk.ticks ((s.strait i).sent.headD 0 + 100) ∧
      t.out = ((f :: rest).map (fun f => Out.flit i f.2)).reverse ++ s.out ∧
      (t.strait i).resends = (s.strait i).resends + 1 ∧
      t.obj (Obj.straitReplays i) = (s.obj (Obj.straitReplays i) + (rest.length + 1)) % 2 ^ 64 ∧
      storageSame s t) ∧
  (∀ (s : State) (i : Nat),
    s.straitIn i 3 = true →
    ∃ t, exec (.ackIdleTimeout i) s = .next t ∧
      t.clk.ticks = max s.clk.ticks ((s.strait i).lastSent + 5) ∧
      (t.strait i).lastSent = t.clk.ticks ∧
      t.out.length = s.out.length + 1 ∧
      (t.strait i).replay = (s.strait i).replay ∧
      t.objs = s.objs ∧
      storageSame s t)

/-- A heartbeat on an Up strait gives its hops and, where it advances, its origin's sequence; the period advances this device's sequence. An admission request without a taken number is decided and kept, and the pair is admitted once both replies are 0. A member not heard for 300 µs is no longer one, and is counted. A member's new registry entry takes the lowest free place; a management member gives none and takes none. Credits from a member are added. The model's reading, not a rule: when an admission is sent, its bytes, and what counts as an advance (notes/assumptions/42, 43 and 137). -/
def Obligations.PoolMembersComeAndGo : Prop :=
  (∀ (s : State) (i origin seq : Nat) (entries : List (Nat × Nat)),
    s.straitUp i = true →
    s.inPool = true →
    entries.zipIdx.all (fun e => e.1.1 == 0xFF || e.2 == origin || e.2 == s.self) = true →
    ∃ t, exec (.poolHeartbeat i origin seq entries) s = .next t ∧
      mget (fun _ => []) t.pool.adv i = entries ∧
      (t.peer origin).seq = (if seqAdvances (s.peer origin).seq (seq % 2 ^ 16) then some (seq % 2 ^ 16) else (s.peer origin).seq) ∧
      (t.peer origin).at_ = (if seqAdvances (s.peer origin).seq (seq % 2 ^ 16) then s.clk.ticks else (s.peer origin).at_) ∧
      storageSame s t) ∧
  (∀ (s : State),
    s.inPool = true →
    ∃ t, exec (.heartbeatPeriod) s = .next t ∧
      t.pool.seq = (s.pool.seq + 1) % 2 ^ 32 ∧
      t.objs = s.objs ∧
      storageSame s t) ∧
  (∀ (s : State) (src poolId device serial compat : Nat) (record : Bytes),
    s.inPool = true →
    (s.admitOutcome poolId device serial record).1 ≠ 3 →
    ∃ t, exec (.admissionRequest src poolId device serial compat record) s = .next t ∧
      (t.peer src).mine = some (s.admitOutcome poolId device serial record).1 ∧
      (t.peer src).serial = serial ∧
      (t.peer src).compat = compat ∧
      ((s.admitOutcome poolId device serial record).1 = 0 → (s.peer src).theirs = some 0 → src < 64 → t.member src = true) ∧
      ((s.admitOutcome poolId device serial record).1 ≠ 0 → t.obj Obj.ctrPoolAdmitRefused = (s.obj Obj.ctrPoolAdmitRefused + 1) % 2 ^ 64 ∧ t.member src = s.member src) ∧
      storageSame s t) ∧
  (∀ (s : State) (src : Nat),
    s.inPool = true →
    src < 64 →
    (s.peer src).mine = some 0 →
    ∃ t, exec (.admissionReply src 0) s = .next t ∧
      t.member src = true ∧
      (t.peer src).theirs = some 0 ∧
      storageSame s t) ∧
  (∀ (s : State) (src outcome : Nat),
    s.inPool = true →
    outcome ≠ 0 →
    ∃ t, exec (.admissionReply src outcome) s = .next t ∧
      (t.peer src).theirs = some outcome ∧
      t.objs = s.objs ∧
      storageSame s t) ∧
  (∀ (s : State) (d : Nat),
    s.member d = true →
    ∃ t, exec (.memberLost d) s = .next t ∧
      t.member d = false ∧
      t.obj Obj.ctrPoolMembersLost = (s.obj Obj.ctrPoolMembersLost + 1) % 2 ^ 64 ∧
      t.clk.ticks = max s.clk.ticks ((s.peer d).at_ + 15000)) ∧
  (∀ (s : State) (src i : Nat) (b : Bytes),
    s.member src = true →
    s.isMgmt src = false →
    s.mgmt = false →
    (regOfWire b).holder = src →
    (regOfWire b).kind = 2 →
    s.pool.reg.all (fun x => !(x.2.kind == 2 && x.2.holder == src && x.2.part == (regOfWire b).part && x.2.slot == (regOfWire b).slot)) = true →
    s.freeReg = some i →
    ∃ t, exec (.registryUpdate src [b]) s = .next t ∧
      t.reg i = regOfWire b ∧
      (∀ e, e ≠ i → t.reg e = s.reg e)) ∧
  (∀ (s : State) (src : Nat) (bs : List Bytes),
    s.isMgmt src = true ∨ s.mgmt = true →
    exec (.registryUpdate src bs) s = .next s) ∧
  (∀ (s : State) (src q k : Nat) (g : Bool),
    s.member src = true →
    q < 64 →
    s.m.out2 = [] →
    s.m.waiting = [] →
    ∃ t, exec (.workCredit src q k g) s = .next t ∧
      t.credit src q = s.credit src q + k ∧
      t.objs = s.objs ∧
      storageSame s t)

/-- A member's lock of an offered region that nobody else holds is granted for 10 ms under the region's lock epoch; idle that long it is voided, the epoch moves on, and it is counted. A granted reply gives a fetch its epoch; a refused one ends it with status 4. A segment request under the lock renews it. A segment of the fetch in order is written into its region, which can be reached, and nowhere else; one of a slot's stream is appended to it. A whole bundle of a granted, reachable region whose digests agree is offered under the lowest free entry, and withdrawn with its locks. pool.fetch_apply starts a fetch of a peer's bundle into a region with room that nothing holds; at its end a bundle whose digests agree with the entry gives status 2. The model's reading, not a rule: the refused lock reply, one segment at a time and that a management member offers nothing (notes/assumptions/37, 38 and 138). -/
def Obligations.ReplicasAreLockedAndFetched : Prop :=
  (∀ (s : State) (src e : Nat),
    s.inPool = true →
    s.member src = true →
    s.isMgmt src = false →
    s.mgmt = false →
    (s.reg e).kind = 1 →
    (s.reg e).holder = s.self →
    s.pool.locks.all (fun l => l.region != (s.reg e).region || l.locker == src) = true →
    ∃ t, exec (.replicaLockRequest src e) s = .next t ∧
      t.pool.locks = s.pool.locks.filter (fun l => l.region != (s.reg e).region) ++ [⟨(s.reg e).region, src, mget (fun _ => 0) s.pool.lockEpoch (s.reg e).region, s.clk.ticks + 500000⟩] ∧
      t.pool.reg = s.pool.reg ∧
      storageSame s t) ∧
  (∀ (s : State) (src e epoch : Nat) (f : Fetch),
    s.pool.fetch = some f →
    f.holder = src →
    f.entry = e →
    f.epoch = none →
    ∃ t, exec (.replicaLockReply src e epoch 0) s = .next t ∧
      t.pool.fetch = some { f with epoch := some epoch } ∧
      storageSame s t) ∧
  (∀ (s : State) (src e epoch : Nat) (f : Fetch),
    s.pool.fetch = some f →
    f.holder = src →
    f.entry = e →
    f.epoch = none →
    ∃ t, exec (.replicaLockReply src e epoch 1) s = .next t ∧
      t.pool.fetch = none ∧
      t.obj Obj.poolFetchStatus = 4) ∧
  (∀ (s : State) (g : Nat) (l : RLock),
    s.pool.locks.find? (fun l => l.region == g) = some l →
    ∃ t, exec (.replicaLockVoid g) s = .next t ∧
      t.pool.locks = s.pool.locks.filter (fun x => x.region != g) ∧
      mget (fun _ => 0) t.pool.lockEpoch g = (l.epoch + 1) % 2 ^ 16 ∧
      t.obj Obj.ctrReplicaLockVoided = (s.obj Obj.ctrReplicaLockVoided + 1) % 2 ^ 64 ∧
      t.obj Obj.ctrLeasesFenced = (s.obj Obj.ctrLeasesFenced + 1) % 2 ^ 64 ∧
      t.clk.ticks = max s.clk.ticks l.deadline ∧
      storageSame s t) ∧
  (∀ (s : State) (src e epoch off len : Nat) (l : RLock),
    s.pool.locks.find? (fun l => l.region == (s.reg e).region && l.locker == src) = some l →
    (s.reg e).kind = 1 →
    (s.reg e).holder = s.self →
    l.epoch = epoch →
    s.regionUp (s.reg e).region = true →
    ∃ t, exec (.segmentRequest src e epoch off len) s = .next t ∧
      t.pool.locks = s.pool.locks.map (fun x => if x.region = l.region then { x with deadline := s.clk.ticks + 500000 } else x) ∧
      t.pool.fetch = s.pool.fetch ∧
      storageSame s t) ∧
  (∀ (s : State) (src epoch off : Nat) (d : Bytes) (f : Fetch),
    s.pool.fetch = some f →
    f.holder = src →
    f.epoch = some epoch →
    f.got = off →
    d ≠ [] →
    off + d.length ≤ f.len →
    s.regionUp f.region = true →
    ∃ t, exec (.bundleSegment src epoch off d) s = .next t ∧
      t.pool.fetch = some { f with got := off + d.length } ∧
      t.memRead ((s.region f.region).base + off) d.length = d ∧
      memoryBut s t ((s.region f.region).base + off) d.length ∧
      t.flash = s.flash) ∧
  (∀ (s : State) (i src e epoch off : Nat) (d : Bytes),
    i < 64 →
    s.slotLockOf i = some (src, e, some epoch) →
    off = (mget (fun _ => ([] : Bytes)) s.pool.stream i).length →
    d ≠ [] →
    off + d.length ≤ (s.reg e).len →
    ∃ t, exec (.weightStreamSegment src epoch off d) s = .next t ∧
      mget (fun _ => ([] : Bytes)) t.pool.stream i = mget (fun _ => ([] : Bytes)) s.pool.stream i ++ d ∧
      t.m = s.m ∧
      storageSame s t) ∧
  (∀ (s : State) (r : Req) (n : Nat) (g i : Nat),
    admitted s r 0x02 n = true →
    owns s r n = true →
    g < 64 →
    (s.region g).holder ≠ 0xFF →
    s.mgmt = false →
    s.regionUp g = true →
    bundleHeadOk (s.slotBytes 0 0 (some g)) ((s.region g).size * mib) = true →
    bundleDigestsOk (s.slotBytes 0 0 (some g)) = true →
    s.ownEntries.any (fun e => e.2.kind == 1 && e.2.region == g) = false →
    s.freeReg = some i →
    ∃ t, exec (.offerRegion r g) s = .next t ∧
      t.reg i = { kind := 1, holder := s.self, part := 0, slot := 0, region := g, len := bundleLen (s.slotBytes 0 0 (some g)), digest := bundleDigest (s.slotBytes 0 0 (some g)) } ∧
      (∀ e, e ≠ i → t.reg e = s.reg e) ∧
      wrote t n r 0x4000 9 = true ∧
      storageSame s t) ∧
  (∀ (s : State) (r : Req) (n : Nat) (g : Nat),
    admitted s r 0x02 n = true →
    owns s r n = true →
    g < 64 →
    ∃ t, exec (.withdrawOffer r g) s = .next t ∧
      t.ownEntries.any (fun e => e.2.kind == 1 && e.2.region == g) = false ∧
      t.pool.locks = s.pool.locks.filter (fun l => l.region != g) ∧
      wrote t n r 0x4000 10 = true ∧
      storageSame s t) ∧
  (∀ (s : State) (r : Req) (n : Nat) (e g : Nat),
    admitted s r 0x02 n = true →
    owns s r n = true →
    e = s.obj Obj.poolFetchEntry →
    g = s.obj Obj.poolFetchRegion →
    (s.reg e).kind = 1 →
    (s.region g).holder ≠ 0xFF →
    (s.reg e).len ≤ (s.region g).size * mib →
    s.mgmt = false →
    s.isMgmt (s.reg e).holder = false →
    s.pool.fetch = none →
    s.heldBySlot g = false →
    ∃ t, exec (.fetchApply r 1) s = .next t ∧
      t.pool.fetch = some { holder := (s.reg e).holder, entry := e, region := g, len := (s.reg e).len, digest := (s.reg e).digest, epoch := none, got := 0 } ∧
      t.obj Obj.poolFetchStatus = 1 ∧
      wrote t n r 0x4000 13 = true ∧
      storageSame s t) ∧
  (∀ (s : State) (f : Fetch) (b : Bytes),
    s.pool.fetch = some f →
    f.len ≤ f.got →
    b = s.memRead (s.region f.region).base f.len →
    s.regionUp f.region = true →
    bundleHeadOk b f.len = true →
    bundleDigestsOk b = true →
    bundleDigest b = f.digest →
    ∃ t, exec (.fetchComplete) s = .next t ∧
      t.pool.fetch = none ∧
      t.obj Obj.poolFetchStatus = 2 ∧
      storageSame s t)

/-- Work from a member for a slot in use whose partition is served and whose bundle digest the packet names joins the work queue of the slot's isle as one packet, its fields turned from network order, and is counted. A result from a member, its fields turned from network order, for an outstanding request re-mapped there, in time, with status 0, gives its entry the verdict of its output at tier 2 and frees the request. -/
def Obligations.RemoteWorkAndResults : Prop :=
  (∀ (s : State) (src p n i : Nat) (k : Bytes),
    s.inPool = true →
    s.member src = true →
    s.isMgmt src = false →
    s.mgmt = false →
    p = byteAt k 0 →
    n = byteAt k 1 →
    p < 16 →
    n < 4 →
    s.objBit Obj.poolServeMask p = true →
    s.slotUsed p n = true →
    (s.slot p n).digest ≠ [] →
    slice k 8 24 = (s.slot p n).digest.take 24 →
    s.slotIsle p n = some i →
    (s.queue (64 + 16 * i + p)).depth + 4 ≤ s.qCap (64 + 16 * i + p) →
    (s.queue (64 + 16 * i + p)).unc = 0 →
    (s.queue (64 + 16 * i + p)).skip = 0 →
    s.m.out2 = [] →
    s.m.waiting = [] →
    i < 4 →
    s.netOn = true →
    ∃ t, exec (.remoteWork src k) s = .next t ∧
      (t.queue (64 + 16 * i + p)).pkts = (s.queue (64 + 16 * i + p)).pkts ++ [4] ∧
      (t.queue (64 + 16 * i + p)).words = (s.queue (64 + 16 * i + p)).words ++ (toWords 4 (patch (patch (flipFields workFields (slice k 32 256)) 1 (le 1 p)) 2 (le 1 n))).map (fun w => ⟨padTo 64 w, false⟩) ∧
      t.obj Obj.ctrPoolWorkServed = (s.obj Obj.ctrPoolWorkServed + 1) % 2 ^ 64 ∧
      storageSame s t) ∧
  (∀ (s : State) (src i : Nat) (k w : Bytes) (r : T2Req),
    s.inPool = true →
    s.member src = true →
    w = flipFields resultFields (slice k 32 64) →
    s.plain = false →
    byteAt w 3 = 0 →
    s.t2req (leAt w 8 6) = some r →
    s.clk.ticks ≤ r.deadline →
    (s.remapOf r.part r.slot).kind = 2 →
    s.judge r.key 2 (leAt w 4 4) = .written i →
    ∃ t, exec (.remoteResult src k) s = .next t ∧
      (t.entry i).verdict = (s.t2Map r.part r.slot (leAt w 16 4)).1 ∧
      (t.entry i).tier = 2 ∧
      (t.entry i).epoch = leAt w 4 4 ∧
      t.t2req (leAt w 8 6) = none ∧
      storageSame s t)

/-- An empty slot that becomes occupied shows its cartridge and waits for it, 500 ms with the core clock running. Ready in time, the cartridge's serial and firmware are shown, its certificate decides whether cart.e.auth is still 0 or 2, and a nonce is written to it, to be answered within 50 ms; the answer decides whether 0 becomes 1 or 3. A wait that runs out gives 4 where no cause stands, and the procedure ends; an install that runs out is counted. A slot that is vacated is dark, empty and shows nothing, and counts as a surprise unless it was released. Written by the owner: cart.e.release 1 of a present cartridge that is not retired releases it and leaves it dark; cart.e.drive_pct keeps its value and sets register 0x1B; cart.allow_unauthenticated keeps its value, also in flash, and with 0 a cartridge that is not authenticated is dark. The model's reading, not a rule: that a failed step does not end the procedure, and the opaque certificates (notes/assumptions/52 and 10). -/
def Obligations.CartridgesAreAuthenticatedAndServed : Prop :=
  (∀ (s : State) (e : Nat),
    s.on = true →
    e < 8 →
    (s.cart e).phase = 0 →
    ∃ t, exec (.cartridgeOccupied e) s = .next t ∧
      t.objBit Obj.cartPresent e = true ∧
      (t.cart e).phase = 1 ∧
      (t.cart e).deadline = (if s.pwr.coreClock then some (s.clk.ticks + 25000000) else none) ∧
      t.obj (Obj.cartState e) = 1 ∧
      storageSame s t) ∧
  (∀ (s : State) (e : Nat),
    s.on = true →
    e < 8 →
    (s.cart e).phase ≠ 0 →
    ∃ t, exec (.cartridgeVacated e) s = .next t ∧
      t.objBit Obj.cartPresent e = false ∧
      t.lit e = false ∧
      (t.cart e).phase = 0 ∧
      t.obj (Obj.cartState e) = 0 ∧
      t.obj (Obj.cartSerial e) = 0 ∧
      t.obj (Obj.cartAuth e) = 0 ∧
      t.obj Obj.ctrCartSurpriseRemoval = (s.obj Obj.ctrCartSurpriseRemoval + (if (s.cart e).released then 0 else 1)) % 2 ^ 64 ∧
      storageSame s t) ∧
  (∀ (s : State) (e w : Nat) (g : CartRegs),
    e < 8 →
    (s.cart e).phase = 1 →
    (s.cart e).deadline = some w →
    s.clk.ticks ≤ w →
    ∃ t, exec (.cartridgeReady e g) s = .next t ∧
      (t.cart e).phase = 2 ∧
      (t.cart e).deadline = some (s.clk.ticks + 2500000) ∧
      t.obj (Obj.cartSerial e) = g.serial ∧
      t.obj (Obj.cartFirmware e) = g.fw % 2 ^ 24 ∧
      t.obj (Obj.cartAuth e) = (if Config.cartCertGood g.cert && Config.cartCertSerial g.cert == g.serial then 0 else 2) ∧
      t.out.contains (.cartWrite e 0x20 (t.cart e).nonce) = true ∧
      t.clk = s.clk ∧
      storageSame s t) ∧
  (∀ (s : State) (e w : Nat),
    e < 8 →
    (s.cart e).phase = 1 →
    (s.cart e).deadline = some w →
    ∃ t, exec (.cartridgeReadyTimeout e) s = .next t ∧
      t.obj (Obj.cartAuth e) = (if s.obj (Obj.cartAuth e) = 0 then 4 else s.obj (Obj.cartAuth e)) ∧
      (t.cart e).phase = 3 ∧
      (t.cart e).deadline = none ∧
      t.clk.ticks = max s.clk.ticks w ∧
      storageSame s t) ∧
  (∀ (s : State) (e w : Nat) (a : Bytes),
    e < 8 →
    (s.cart e).phase = 2 →
    (s.cart e).deadline = some w →
    s.clk.ticks ≤ w →
    s.obj (Obj.cartAuth e) = 0 →
    ∃ t, exec (.challengeDone e a) s = .next t ∧
      t.obj (Obj.cartAuth e) = (if Config.ecdsaVerify (Config.cartCertKey (s.cart e).cert) ((s.cart e).nonce ++ be 8 (s.obj (Obj.cartSerial e)) ++ (s.cart e).digest) (slice a 0 64) then 1 else 3) ∧
      ((t.cart e).phase = 3 ∨ (t.cart e).phase = 4) ∧
      t.obj Obj.measCount = (s.obj Obj.measCount + 2) % 2 ^ 32 ∧
      storageSame s t) ∧
  (∀ (s : State) (e w : Nat),
    e < 8 →
    (s.cart e).phase = 2 →
    (s.cart e).deadline = some w →
    ∃ t, exec (.challengeTimeout e) s = .next t ∧
      t.obj (Obj.cartAuth e) = (if s.obj (Obj.cartAuth e) = 0 then 4 else s.obj (Obj.cartAuth e)) ∧
      (t.cart e).phase = 3 ∧
      (t.cart e).deadline = none ∧
      t.clk.ticks = max s.clk.ticks w ∧
      storageSame s t) ∧
  (∀ (s : State) (e w : Nat),
    e < 8 →
    (s.cart e).phase = 4 →
    (s.cart e).deadline = some w →
    ∃ t, exec (.cartridgeFwInstallTimeout e) s = .next t ∧
      (t.cart e).phase = 3 ∧
      t.obj Obj.ctrCartFwInstallFail = (s.obj Obj.ctrCartFwInstallFail + 1) % 2 ^ 64 ∧
      t.obj (Obj.cartAuth e) = s.obj (Obj.cartAuth e) ∧
      t.clk.ticks = max s.clk.ticks w ∧
      storageSame s t) ∧
  (∀ (s : State) (r : Req) (n : Nat) (e : Nat),
    admitted s r 0x02 n = true →
    owns s r n = true →
    e < 8 →
    (s.cart e).phase ≠ 0 →
    s.obj (Obj.cartLifeStage e) ≠ 3 →
    ∃ t, exec (.cartridgeRelease r e 1) s = .next t ∧
      (t.cart e).released = true ∧
      t.lit e = false ∧
      ((t.cart e).phase = 3 → t.obj (Obj.cartState e) = 8) ∧
      wrote t n r (0x4110 + e) 12 = true ∧
      storageSame s t) ∧
  (∀ (s : State) (r : Req) (n : Nat) (e v : Nat),
    admitted s r 0x02 n = true →
    owns s r n = true →
    e < 8 →
    (s.cart e).phase ≠ 0 →
    s.obj (Obj.cartLifeStage e) ≠ 3 →
    takes (0x4110 + e) 11 v = true →
    ∃ t, exec (.driveSetpointWrite r e v) s = .next t ∧
      t.obj (Obj.cartDrivePct e) = v ∧
      t.out.contains (.cartWrite e 0x1B [BitVec.ofNat 8 v]) = true ∧
      wrote t n r (0x4110 + e) 11 = true ∧
      objsBut s t [Obj.cartDrivePct e] ∧
      storageSame s t) ∧
  (∀ (s : State) (r : Req) (n : Nat) (v : Nat),
    admitted s r 0x02 n = true →
    owns s r n = true →
    v ≤ 1 →
    ∃ t, exec (.allowUnauthWrite r v) s = .next t ∧
      t.obj Obj.cartAllowUnauth = v ∧
      (s.obj Obj.cartAllowUnauth ≠ v → t.boot.keptPending = true) ∧
      (∀ e, e < 8 → v = 0 → s.obj (Obj.cartAuth e) ≠ 1 → t.lit e = false) ∧
      wrote t n r 0x4100 1 = true ∧
      storageSame s t)

/-- A sample keeps the lanes' powers and the drive; with a cartridge fault while lit it is a light loss: counted, dark, to be relit from now. A relight with a good check leaves the cartridge lit and its light usable 50 ms after it was lit; with a bad one it is dark, one attempt more. Light lit for 50 ms is usable. A second of a lit cartridge within the tables adds its equivalent centiseconds to the account; of a dark one nothing, though its case temperature is shown, its thermal cycles are counted and its remaining hours projected. A life record that is due goes to the older copy with the next sequence. The model's reading, not a rule: the order of a relight and light outside the tables (notes/assumptions/53 and 54). -/
def Obligations.LightAndLife : Prop :=
  (∀ (s : State) (e : Nat) (m : OptSample),
    s.netOn = true →
    e < 8 →
    s.lit e = false →
    ∃ t, exec (.opticalMonitorSample e m) s = .next t ∧
      (t.cart e).rx = (List.range 4).map (m.rx.getD · 0) ∧
      (t.cart e).tx = (List.range 4).map (m.tx.getD · 0) ∧
      (t.cart e).drive = m.drive ∧
      t.lit e = false ∧
      objsBut s t [Obj.ctrOptAlarms] ∧
      storageSame s t) ∧
  (∀ (s : State) (e : Nat) (m : OptSample),
    s.netOn = true →
    e < 8 →
    s.lit e = true →
    (bit m.status 2 = true ∨ bit m.status 3 = true ∨ 120 * m.nominal < 100 * m.drive) →
    ∃ t, exec (.opticalMonitorSample e m) s = .next t ∧
      t.lit e = false ∧
      (t.cart e).loss = some (s.clk.ticks, 0) ∧
      t.obj Obj.ctrCartLightLoss = (s.obj Obj.ctrCartLightLoss + 1) % 2 ^ 64 ∧
      t.obj Obj.faultCount = (s.obj Obj.faultCount + 1) % 2 ^ 32 ∧
      storageSame s t) ∧
  (∀ (s : State) (e w k : Nat) (m : OptSample),
    e < 8 →
    (s.cart e).loss = some (w, k) →
    k < 3 →
    s.mayLight e = true →
    toSigned 16 (s.obj Obj.optCwLowAlarm) ≤ m.cw →
    bit m.status 2 = false →
    bit m.status 3 = false →
    100 * m.drive ≤ 120 * m.nominal →
    ∃ t, exec (.relightAttempt e m) s = .next t ∧
      t.lit e = true ∧
      (t.cart e).usable = true ∧
      (t.cart e).loss = none ∧
      t.clk.ticks = max s.clk.ticks (w + secT (2 ^ k)) + 2500000 ∧
      storageSame s t) ∧
  (∀ (s : State) (e w k : Nat) (m : OptSample),
    e < 8 →
    (s.cart e).loss = some (w, k) →
    k < 3 →
    s.mayLight e = true →
    bit m.status 3 = true →
    ∃ t, exec (.relightAttempt e m) s = .next t ∧
      t.lit e = false ∧
      (t.cart e).loss = some (w, k + 1) ∧
      t.clk.ticks = max s.clk.ticks (w + secT (2 ^ k)) + 2500000 ∧
      storageSame s t) ∧
  (∀ (s : State) (e : Nat),
    e < 8 →
    s.lit e = true →
    (s.cart e).usable = false →
    ∃ t, exec (.lightUsable e) s = .next t ∧
      (t.cart e) = { (s.cart e) with usable := true } ∧
      t.clk.ticks = max s.clk.ticks ((s.cart e).lightAt + 2500000) ∧
      t.objs = s.objs ∧
      storageSame s t) ∧
  (∀ (s : State) (e : Nat) (temp : Int) (drive nominal ft fi : Nat),
    e < 8 →
    s.on = true →
    (s.cart e).phase ≠ 0 →
    (s.cart e).known = true →
    s.lit e = true →
    lifeT temp = some ft →
    lifeI drive nominal = some fi →
    ∃ t, exec (.lifeAccrual e temp drive nominal) s = .next t ∧
      t.obj (Obj.cartAcc e) = (s.obj (Obj.cartAcc e) + roundEven (ft * fi) 100) % 2 ^ 64 ∧
      (t.cart e).litSecs = ((s.cart e).litSecs + 1) % 2 ^ 32 ∧
      t.obj (Obj.cartTemp e) = ofSigned 16 temp ∧
      (t.cart e).high = max (s.cart e).high temp ∧
      storageSame s t) ∧
  (∀ (s : State) (e : Nat) (temp : Int) (drive nominal : Nat),
    e < 8 →
    s.on = true →
    (s.cart e).phase ≠ 0 →
    (s.cart e).known = true →
    s.lit e = false →
    ∃ t, exec (.lifeAccrual e temp drive nominal) s = .next t ∧
      t.obj (Obj.cartAcc e) = s.obj (Obj.cartAcc e) ∧
      t.obj (Obj.cartTemp e) = ofSigned 16 temp ∧
      objsBut s t [Obj.cartTemp e, Obj.cartCycles e, Obj.cartRemainingHours e] ∧
      storageSame s t) ∧
  (∀ (s : State) (e : Nat),
    e < 8 →
    s.on = true →
    (s.cart e).phase ≠ 0 →
    (s.cart e).known = true →
    (s.cart e).recDue = true →
    ∃ t, exec (.lifeRecordWrite e true) s = .next t ∧
      t.out.contains (.cartWrite e (0x80 + 64 * (1 - (s.cart e).copy)) (s.lifeRecord e (((s.cart e).seq + 1) % 2 ^ 32))) = true ∧
      (t.cart e).seq = ((s.cart e).seq + 1) % 2 ^ 32 ∧
      (t.cart e).copy = 1 - (s.cart e).copy ∧
      (t.cart e).recDue = false ∧
      t.clk = s.clk ∧
      t.objs = s.objs ∧
      storageSame s t) ∧
  (∀ (s : State) (e : Nat),
    e < 8 →
    s.on = true →
    (s.cart e).phase ≠ 0 →
    (s.cart e).known = true →
    (s.cart e).recDue = true →
    ∃ t, exec (.lifeRecordWrite e false) s = .next t ∧
      (t.cart e).seq = (s.cart e).seq ∧
      (t.cart e).copy = (s.cart e).copy ∧
      (t.cart e).recDue = false ∧
      t.obj Obj.ctrCartRecordWriteFail = (s.obj Obj.ctrCartRecordWriteFail + 1) % 2 ^ 64 ∧
      objsBut s t [Obj.ctrCartRecordWriteFail] ∧
      storageSame s t)

/-- A die sensor's sample below 115 °C is its reading; a new one of 115 °C or more that is in range trips the device with the sensor as its cause. A forecast step in Ready or Crossing hands the forecaster the readings, each quad's residency, effective duty, bundles issued and queued work, the frames, the bytes moved and the light since the latest step, takes its values (free values of the model, notes/assumptions/11.md), shows whether the harbour die is hot, and begins those counts anew. At its boundary an engaged rotation exchanges the serving slot, or ends where it has been quiet for a period or its bit of therm.rotate_mask is cleared (the latter the model's reading, notes/assumptions/144.md). A second's sample of a unit raises its highest reading and counts its band. -/
def Obligations.HeatIsWatched : Prop :=
  (∀ (s : State) (n : Nat) (v : Int),
    s.on = true →
    n < 88 →
    v < 115 * 256 →
    ∃ t, exec (.sensorSample n (some v)) s = .next t ∧
      (t.sensor n).val = v ∧
      (t.sensor n).read = true ∧
      t.obj Obj.thermTripped = s.obj Obj.thermTripped ∧
      storageSame s t) ∧
  (∀ (s : State) (n : Nat) (v : Int),
    s.on = true →
    n < 88 →
    115 * 256 ≤ v →
    v ≤ 150 * 256 →
    s.sensorBad n = false →
    v ≠ (s.sensor n).val →
    s.obj Obj.thermTripped = 0 →
    ∃ t, exec (.sensorSample n (some v)) s = .next t ∧
      t.obj Obj.thermTripped = 1 ∧
      t.obj Obj.thermTripCause = n ∧
      t.obj Obj.elecTripSource = 0 ∧
      t.obj Obj.ctrThermTrips = (s.obj Obj.ctrThermTrips + 1) % 2 ^ 64 ∧
      t.pwr.coreClock = false ∧
      t.obj Obj.powerState = 1 ∧
      (t.sensor n).val = v) ∧
  (∀ (s : State),
    s.running = true →
    ∃ t, exec (.forecastStep) s = .next t ∧
      t.heat.step = s.heat.step + 1 ∧
      (∀ n, n < 108 → mget (fun _ => 0) t.heat.fc n = Config.forecast s.heat.step s.forecastIn n) ∧
      (∀ u, u < 9 → t.peakOf u = Config.forecastPeak s.heat.step s.forecastIn u) ∧
      (∀ q, q < 32 → mget (fun _ => 0) t.heat.queued q = s.queuedWork q) ∧
      t.heat.moved = [] ∧
      t.obj Obj.thermHarbourHot = b2n (decide ((s.obj Obj.thermForecastLimit : Int) * 256 ≤ Config.forecastPeak s.heat.step s.forecastIn 0)) ∧
      storageSame s t) ∧
  (∀ (s : State) (p : Nat) (g : Rot),
    p < 16 →
    s.rotOf p = some g →
    g.on = true →
    s.objBit Obj.thermRotateMask p = true →
    max s.clk.ticks g.next < g.hot + msT (s.obj Obj.thermRotationPeriod) →
    ∃ t, exec (.rotationExchange p) s = .next t ∧
      (t.rotOf p).map (·.serving) = some (if g.serving = g.active then g.partner else g.active) ∧
      t.obj Obj.ctrThermRotations = (s.obj Obj.ctrThermRotations + 1) % 2 ^ 64 ∧
      t.clk.ticks = max s.clk.ticks g.next ∧
      (t.rotOf p).map (·.next) = some (t.clk.ticks + msT (s.obj Obj.thermRotationPeriod)) ∧
      storageSame s t) ∧
  (∀ (s : State) (p : Nat) (g : Rot),
    p < 16 →
    s.rotOf p = some g →
    g.on = true →
    (g.hot + msT (s.obj Obj.thermRotationPeriod) ≤ max s.clk.ticks g.next ∨ s.objBit Obj.thermRotateMask p = false) →
    ∃ t, exec (.rotationExchange p) s = .next t ∧
      t.rotOf p = (if g.serving = g.active then none else some { g with on := false }) ∧
      t.objBit Obj.thermRotating p = false ∧
      t.clk.ticks = max s.clk.ticks g.next ∧
      objsBut s t [Obj.thermRotating] ∧
      storageSame s t) ∧
  (∀ (s : State) (u : Nat) (v : Int),
    s.on = true →
    u < 9 →
    s.hotSpot u = some v →
    ∃ t, exec (.thermalCycleSample) s = .next t ∧
      (mget (fun _ => ({} : TUnit)) t.heat.units u).high = some (max ((mget (fun _ => ({} : TUnit)) s.heat.units u).high.getD v) v) ∧
      (mget (fun _ => ({} : TUnit)) t.heat.units u).bands = setAt (mget (fun _ => ({} : TUnit)) s.heat.units u).bands (lifeBand v) ((mget (fun _ => ({} : TUnit)) s.heat.units u).bands.getD (lifeBand v) 0 + 1) ∧
      t.objs = s.objs ∧
      storageSame s t)

/-- A latch takes the function's page and the time; while one completes another waits; completed, it is the page that reads answer. A unit that stays pending without progress for obs.hang_window hangs then: it writes the dump, with the unit and its waits, holds it, is counted and halts the isles that the rule names where obs.hang_halt is 1; while a dump is held it is only counted; a unit that is not pending, or whose hang has been taken since its latest progress, does not hang. Cleared the dump is empty; released no isle is halted. A trace frame closes into the ring 1 µs after its first byte. A Time packet joins the frame of a source that traces; while a read is open it is dropped and counted. On a production-fused device every TAP instruction but the required ones and IDCODE selects bypass, and what arrives on UART_RX is ignored. The model's reading, not a rule: what the trace sources emit (notes/assumptions/68), which units a dump has wait records of and what their detail holds (notes/assumptions/140). -/
def Obligations.CountersDumpsAndTrace : Prop :=
  (∀ (s : State) (fn : Nat),
    s.on = true →
    fn < 17 →
    (s.latchOf fn).next = none →
    ∃ t, exec (.counterLatch fn) s = .next t ∧
      (t.latchOf fn).next = some (s.now, s.page fn s.now) ∧
      (t.latchOf fn).last = (s.latchOf fn).last ∧
      t.objs = s.objs ∧
      storageSame s t) ∧
  (∀ (s : State) (fn : Nat) (x : Nat × Bytes),
    s.on = true →
    fn < 17 →
    (s.latchOf fn).next = some x →
    ∃ t, exec (.counterLatch fn) s = .next t ∧
      t.latchOf fn = { s.latchOf fn with again := true } ∧
      t.objs = s.objs ∧
      storageSame s t) ∧
  (∀ (s : State) (fn : Nat) (x : Nat × Bytes),
    (s.latchOf fn).next = some x →
    (s.latchOf fn).again = false →
    ∃ t, exec (.counterLatchComplete fn) s = .next t ∧
      t.latchOf fn = { last := some x, next := none, again := false } ∧
      t.objs = s.objs ∧
      storageSame s t) ∧
  (∀ (s h : State) (u : HangUnit) (m : Nat),
    s.on = true →
    0 < s.pendingItems u →
    (s.watchOf u).fired = false →
    h = { (s.elapseTo (s.hangAt u)) with obs := { s.obs with watch := s.obs.watch.filter (fun x => x.1 != u) ++ [(u, { s.watchOf u with fired := true })] } } →
    s.obj Obj.obsDumpHeld ≠ 1 →
    m = (if s.obj Obj.obsHangHalt = 1 then haltMask h.waits else 0) →
    ∃ t, exec (.hangDetect u.kind u.num) s = .next t ∧
      t.obs.dump = (h.dumpBytes u h.waits m).1 ∧
      t.obj Obj.obsDumpHeld = 1 ∧
      t.obs.halted = s.obs.halted ||| m ∧
      t.obs.watch = h.obs.watch ∧
      t.obj Obj.ctrHangDumps = (s.obj Obj.ctrHangDumps + 1) % 2 ^ 64 ∧
      t.clk.ticks = max s.clk.ticks ((s.watchOf u).since + msT (s.obj Obj.obsHangWindow)) ∧
      objsBut s t [Obj.obsDumpHeld, Obj.ctrHangDumps] ∧
      storageSame s t) ∧
  (∀ (s h : State) (u : HangUnit),
    s.on = true →
    0 < s.pendingItems u →
    (s.watchOf u).fired = false →
    h = { (s.elapseTo (s.hangAt u)) with obs := { s.obs with watch := s.obs.watch.filter (fun x => x.1 != u) ++ [(u, { s.watchOf u with fired := true })] } } →
    s.obj Obj.obsDumpHeld = 1 →
    exec (.hangDetect u.kind u.num) s = .next (h.ctr Obj.ctrHangDumpsSkipped)) ∧
  (∀ (s : State) (u : HangUnit),
    (s.pendingItems u = 0 ∨ (s.watchOf u).fired = true) →
    exec (.hangDetect u.kind u.num) s = .next s) ∧
  (∀ (s : State) (r : Req) (n : Nat),
    admitted s r 0x02 n = true →
    owns s r n = true →
    ∃ t, exec (.dumpClear r 1) s = .next t ∧
      t.obs.dump = [] ∧
      t.obj Obj.obsDumpHeld = 0 ∧
      wrote t n r 0x1630 5 = true ∧
      objsBut s t [Obj.obsDumpHeld] ∧
      storageSame s t) ∧
  (∀ (s : State) (r : Req) (n : Nat),
    admitted s r 0x02 n = true →
    owns s r n = true →
    ∃ t, exec (.hangRelease r 1) s = .next t ∧
      t.obs.halted = 0 ∧
      wrote t n r 0x1630 6 = true ∧
      objsBut s t [] ∧
      storageSame s t) ∧
  (∀ (s : State) (n : Nat),
    (s.src n).buf ≠ [] →
    (s.src n).buf.length ≤ 62 →
    s.extRoom = 0 →
    s.obs.ring.length + 1 < 16384 →
    n < 8 →
    ∃ t, exec (.traceFrameClose n) s = .next t ∧
      t.obs.ring = s.obs.ring ++ [le 1 (n + (if (s.src n).sync then 16 else 0) + (if (s.src n).pkt then 32 else 0)) ++ le 1 (s.src n).buf.length ++ padTo 62 (s.src n).buf] ∧
      (t.src n).buf = [] ∧
      t.obj Obj.traceBytes = (s.obj Obj.traceBytes + 64) % 2 ^ 64 ∧
      t.clk.ticks = max s.clk.ticks ((s.src n).first + 50) ∧
      objsBut s t [Obj.traceBytes] ∧
      storageSame s t) ∧
  (∀ (s : State) (n : Nat),
    s.tracing n = true →
    s.traceRead = false →
    s.obj Obj.traceState ≠ 2 →
    (s.src n).lost = 0 →
    (s.src n).buf ≠ [] →
    (s.src n).buf.length + 5 < 62 →
    (s.src n).count + 5 < 4096 →
    ∃ t, exec (.traceTimePeriod n) s = .next t ∧
      (t.src n).buf = (s.src n).buf ++ ([0x50] ++ le 4 (s.now % 2 ^ 32)) ∧
      (t.src n).count = (s.src n).count + 5 ∧
      t.objs = s.objs ∧
      storageSame s t) ∧
  (∀ (s : State) (n : Nat),
    s.tracing n = true →
    s.traceRead = true →
    ∃ t, exec (.traceTimePeriod n) s = .next t ∧
      (t.src n).lost = (s.src n).lost + 1 ∧
      (t.src n).buf = (s.src n).buf ∧
      t.obj Obj.ctrTraceOverflow = (s.obj Obj.ctrTraceOverflow + 1) % 2 ^ 64 ∧
      objsBut s t [Obj.ctrTraceOverflow] ∧
      storageSame s t) ∧
  (∀ (s : State) (k : Nat) (b : Byte),
    s.dev.productionFused = 1 →
    (s.tapLoad (.other k)).tapData = .bypass ∧
      (s.tapLoad .idcode).tapData = .idcode ∧
      s.uartIn b = s) ∧
  (∀ (s : State) (b : Byte),
    s.dev.productionFused ≠ 1 →
    (s.uartIn b).dbg.rx = s.dbg.rx ++ [b])

/-- The words of a bundle wait until it is whole, whichever of the isle's instructions they are: a word that is not the last of its bundle joins it and does nothing else. With its last word the bundle issues, in program order, if every instruction in it can issue: the words take effect one after the other, the program counter moves past them all, and then a command's end and a barrier's release follow; while one of them waits, nothing but the operator counters changes and the bundle waits for its last word again. Of several faults in the bundle the lowest code stops the core and is recorded; a word for a slot that the bundle already holds a word for is illegal, and nothing of the bundle takes effect. The model's reading, not a rule: that a word sees what earlier words of its bundle write, and that an illegal word leaves its bundle without effect (notes/assumptions/134). -/
def Obligations.BundlesIssueWhole : Prop :=
  (∀ (s : State) (i : Instr) (c w slot : Nat),
    wordOf i = some (c, w, slot, true) →
    canJoin s c w slot = true →
    bit w 31 = false →
    exec i s = .next (s.setCore c { s.core c with bundle := (s.core c).bundle ++ [(slot, w, i)] })) ∧
  (∀ (s : State) (i : Instr) (c w slot : Nat) (ws : List (Nat × Nat × Instr)),
    wordOf i = some (c, w, slot, true) →
    canJoin s c w slot = true →
    bit w 31 = true →
    ws = (s.core c).bundle ++ [(slot, w, i)] →
    (s.runBundle ws).2 = ([], none) →
    exec i s = .next ((ws.map (·.2.2)).foldl (State.afterWord c) ((s.runBundle ws).1.advance c ws.length))) ∧
  (∀ (s : State) (i : Instr) (c w slot : Nat) (ws : List (Nat × Nat × Instr)),
    wordOf i = some (c, w, slot, true) →
    canJoin s c w slot = true →
    bit w 31 = true →
    ws = (s.core c).bundle ++ [(slot, w, i)] →
    (s.runBundle ws).2.2.isSome = true →
    ∃ t, exec i s = .next t ∧
      t = { s with objs := t.objs, isle := { s.isle with ops := t.isle.ops } } ∧
      objsBut s t [Obj.ctrOpCounterEvicted]) ∧
  (∀ (s : State) (i : Instr) (c w slot : Nat) (ws : List (Nat × Nat × Instr)) (f : CFault × Nat),
    wordOf i = some (c, w, slot, true) →
    canJoin s c w slot = true →
    bit w 31 = true →
    ws = (s.core c).bundle ++ [(slot, w, i)] →
    (s.runBundle ws).2.2 = none →
    lowestFault (s.runBundle ws).2.1 = some f →
    ∃ t, exec i s = .next t ∧
      (t.core c).run = 2 ∧
      (t.core c).fault = some (f.1.code, f.1.detail, (s.runBundle ws).1.now) ∧
      f ∈ (s.runBundle ws).2.1 ∧
      (∀ g ∈ (s.runBundle ws).2.1, f.1.code ≤ g.1.code)) ∧
  (∀ (s : State) (i : Instr) (c w slot : Nat),
    wordOf i = some (c, w, slot, true) →
    s.coreReady c = true →
    reservedWord w = false →
    (s.core c).bundle.any (fun x => x.1 == slot) = true →
    exec i s = .next (s.coreFault c { code := 0x01 } w (s.core c).pc))

/-- For every command and state, a step of the state with that command at the front of its queue is exec of the command on the state with the queue's rest. On an empty queue, out of Off, a step lets one grain tick pass, notes since when the conditions of the clock stop hold, which cores have had nothing to issue and which units are pending, and puts the commands of the events that are then due into the queue, and changes nothing else; in Off it changes nothing (the model's choice, notes/assumptions/2.md). -/
def Obligations.StepRunsTheFrontCommand : Prop :=
  (∀ (s : State) (c : Instr) (rest : List Instr),
    step { s with pending := c :: rest } = exec c { s with pending := rest }) ∧
  (∀ (s : State),
    s.pending = [] →
    s.on = true →
    ∃ t, step s = .next t ∧
      t.clk = (s.elapse 1).clk ∧
      t.clk.ticks = s.clk.ticks + 1 ∧
      t.pending = dueEvents { t with pending := [] } ∧
      t = { s with clk := t.clk, pwr := { s.pwr with idleAt := t.pwr.idleAt }, res := { s.res with idle := t.res.idle },
                   obs := { s.obs with watch := t.obs.watch }, pending := t.pending }) ∧
  (∀ (s : State),
    s.pending = [] →
    s.on = false →
    step s = .next s)

/-- In State.reset the device is Off, its queue is empty, nothing has left it, no agent is registered, every object reads its default, and memory lists nothing; and every command but PORST_N_RELEASE and the two of PERST_N leaves that state as it is. The model's reading, not a rule: what acts in Off, and PERST_N at reset (notes/assumptions/108 and 47). -/
def Obligations.ResetIsOff : Prop :=
  (State.reset.on = false ∧ State.reset.pending = [] ∧ State.reset.out = [] ∧ State.reset.mem = [] ∧ State.reset.flash = [] ∧
      (∀ n, State.reset.agent n = none) ∧ (∀ k, State.reset.obj k = objDefault k) ∧ (∀ a, Memory.read State.reset.mem a = 0)) ∧
  (∀ (c : Instr),
    (match c with | .porstNRelease _ => false | .perstNAssert => false | .perstNRelease => false | _ => true) = true →
    exec c State.reset = .next State.reset)

/-- Every command but PORST_N_RELEASE without its conditions answers a next state in every state. PORST_N released in Off without its conditions is the one stop: the fault undefinedRelease. Out of Off it too answers a next state. -/
def Obligations.OnlyTheUndefinedReleaseStops : Prop :=
  (∀ (s : State) (c : Instr),
    c ≠ .porstNRelease false →
    ∃ t, exec c s = .next t) ∧
  (∀ (s : State),
    s.on = false →
    exec (.porstNRelease false) s = .fault .undefinedRelease) ∧
  (∀ (s : State),
    s.on = true →
    ∃ t, exec (.porstNRelease false) s = .next t)

/-- An agent may have 16 requests outstanding on a PCIe mailbox and 4 on any other transport. A further request, one that repeats none already answered, is discarded: nothing leaves, ctr.cuhild_overrun rises by one, and but for the agent having been heard nothing else changes. A request that repeats one of the kept ones is not executed: its kept response is sent again. -/
def Obligations.RequestsBeyondTheLimit : Prop :=
  (∀ (p : Nat) (ep : Endpoint),
    Endpoint.limit .pf = 16 ∧ Endpoint.limit (.vf p) = 16 ∧ (ep.box = none → Endpoint.limit ep = 4)) ∧
  (∀ (s : State) (r : Req) (b : Body) (n : Nat) (a : Agent),
    s.served r.ep = true →
    quiet s = true →
    s.agentAt r.ep = some n →
    s.agent n = some a →
    a.kept.any (fun k => k.1 == r.seq && k.2.1 == b.op) = false →
    (b.op == 0x20 && a.claims.contains r.seq) = false →
    Endpoint.limit r.ep ≤ s.outstanding a →
    s.request r b = (s.updAgent n (fun a => { a with heard := s.now, heardTick := s.clk.ticks, ep := r.ep })).ctr Obj.ctrCuhildOverrun ∧ (s.request r b).out = s.out) ∧
  (∀ (s : State) (r : Req) (b : Body) (n : Nat) (a : Agent) (k : Nat × Nat × Msg),
    s.served r.ep = true →
    quiet s = true →
    s.agentAt r.ep = some n →
    s.agent n = some a →
    a.kept.find? (fun k => k.1 == r.seq && k.2.1 == b.op) = some k →
    s.request r b = (s.updAgent n (fun a => { a with heard := s.now, heardTick := s.clk.ticks, ep := r.ep })).send (s.obj Obj.cuhildCanNode) ((s.updAgent n (fun a => { a with heard := s.now, heardTick := s.clk.ticks, ep := r.ep })).prioOf r.ep) false r.ep k.2.2 ∧ ∀ j, (s.request r b).obj j = s.obj j)

/-- While frames are looked up (start.inference 1), a tier-1 or tier-2 result for an entry that is software-pinned and not locked is not written: the entry is as it was, and ctr.result_pinned counts it. Where the entry's lock is in effect the earlier condition discards the result: ctr.result_locked counts it and ctr.result_pinned does not. -/
def Obligations.ResultsLeavePinnedEntries : Prop :=
  (∀ (s : State) (id i : Nat) (q : T1Req),
    s.plain = false →
    s.t1.reqs.find? (fun r => r.id == id) = some q →
    (s.walkResult q).isSome = true →
    s.findKey q.key = some i →
    s.locked (s.entry i) = false →
    (s.entry i).pinned = true →
    ∃ t, exec (.tier1Result id) s = .next t ∧
      t.entry i = s.entry i ∧
      storageSame s t ∧
      objsBut s t [Obj.ctrResultPinned] ∧
      t.obj Obj.ctrResultPinned = (s.obj Obj.ctrResultPinned + 1) % 2 ^ 64) ∧
  (∀ (s : State) (id i : Nat) (q : T1Req),
    s.plain = false →
    s.t1.reqs.find? (fun r => r.id == id) = some q →
    (s.walkResult q).isSome = true →
    s.findKey q.key = some i →
    s.locked (s.entry i) = true →
    ∃ t, exec (.tier1Result id) s = .next t ∧
      t.entry i = s.entry i ∧
      storageSame s t ∧
      objsBut s t [Obj.ctrResultLocked] ∧
      t.obj Obj.ctrResultLocked = (s.obj Obj.ctrResultLocked + 1) % 2 ^ 64) ∧
  (∀ (s : State) (n p k : Nat) (ks : List Nat) (w : Bytes) (r : T2Req) (i : Nat),
    n < 4 →
    p < 16 →
    s.netOn = true →
    s.plain = false →
    (s.queue (128 + 16 * n + p)).pkts = k :: ks →
    ((s.queue (128 + 16 * n + p)).words.take k).all (fun e => !e.poison) = true →
    w = (((s.queue (128 + 16 * n + p)).words.take k).map (·.bytes)).headD [] →
    recOrigin w = 0xFF →
    byteAt w 3 = 0 →
    s.t2req (leAt w 8 6) = some r →
    s.clk.ticks ≤ r.deadline →
    (s.remapOf r.part r.slot).kind = 0 →
    r.fence = (s.slot r.part r.slot).fence →
    s.findKey r.key = some i →
    s.locked (s.entry i) = false →
    (s.entry i).pinned = true →
    ∃ t, exec (.tier2Result n p false) s = .next t ∧
      t.entry i = s.entry i ∧
      storageSame s t ∧
      objsBut s t [Obj.ctrResultPinned, Obj.ctrPoisonDelivered] ∧
      t.obj Obj.ctrResultPinned = (s.obj Obj.ctrResultPinned + 1) % 2 ^ 64) ∧
  (∀ (s : State) (n p k : Nat) (ks : List Nat) (w : Bytes) (r : T2Req) (i : Nat),
    n < 4 →
    p < 16 →
    s.netOn = true →
    s.plain = false →
    (s.queue (128 + 16 * n + p)).pkts = k :: ks →
    ((s.queue (128 + 16 * n + p)).words.take k).all (fun e => !e.poison) = true →
    w = (((s.queue (128 + 16 * n + p)).words.take k).map (·.bytes)).headD [] →
    recOrigin w = 0xFF →
    byteAt w 3 = 0 →
    s.t2req (leAt w 8 6) = some r →
    s.clk.ticks ≤ r.deadline →
    (s.remapOf r.part r.slot).kind = 0 →
    r.fence = (s.slot r.part r.slot).fence →
    s.findKey r.key = some i →
    s.locked (s.entry i) = true →
    ∃ t, exec (.tier2Result n p false) s = .next t ∧
      t.entry i = s.entry i ∧
      storageSame s t ∧
      objsBut s t [Obj.ctrResultLocked, Obj.ctrPoisonDelivered] ∧
      t.obj Obj.ctrResultLocked = (s.obj Obj.ctrResultLocked + 1) % 2 ^ 64)

/-- At State.reset memory and flash are in their canonical form: addresses strictly rising, no entry equal to what an unlisted address reads as (the form is the model's, notes/assumptions/4.md and 5.md). -/
def Obligations.InvariantAtReset : Prop :=
  Inv State.reset

/-- From every state whose memory and flash are in canonical form, a step that answers a next state leaves them so; and the facts that never change after manufacture (fuse map, serial number, addresses, keys) are the same after every step, from every state. -/
def Obligations.EveryStepKeepsTheInvariant : Prop :=
  (∀ (s t : State),
    Inv s →
    step s = .next t →
    Inv t) ∧
  (∀ (s t : State),
    step s = .next t →
    t.dev = s.dev)
end

