-- ==== Sys2Proof/Laws/SMap.lean ====
section
/-! SUPPORT. Laws of the sparse maps: a read after a write, and that every operation keeps the canonical form. -/
namespace Sys2Proof.Machine

variable {α : Type} (d : Nat → α)

/-- What a key reads as once the entries that satisfy `p` are dropped. -/
theorem mget_mdrop (p : Nat → Bool) (m : List (Nat × α)) (k : Nat) : mget d (mdrop p m) k = if p k then d k else mget d m k := by
  induction m with
  | nil => simp [mdrop, mget]
  | cons e m ih =>
    obtain ⟨k', v⟩ := e
    by_cases hp : p k' = true
    · rw [mdrop, List.filter_cons_of_neg (by simpa using hp), ← mdrop, ih]
      simp only [mget]
      by_cases hk : k = k'
      · subst hk; simp [hp]
      · simp [hk]
    · rw [mdrop, List.filter_cons_of_pos (by simpa using hp), ← mdrop]
      simp only [mget]
      rw [ih]
      by_cases hk : k = k'
      · subst hk; simp [hp]
      · simp [hk]

/-- What a map reads as once a value is listed. -/
theorem mget_mput (m : List (Nat × α)) (k j : Nat) (v : α) : mget d (mput m k v) j = if j = k then v else mget d m j := by
  induction m with
  | nil => simp only [mput, mget]
  | cons e m ih =>
    obtain ⟨k', v'⟩ := e
    simp only [mput]
    by_cases h : k < k'
    · simp only [h, if_true, mget]
    · by_cases hk : k = k'
      · subst hk; simp only [h, if_false, if_true, mget]; split <;> rfl
      · simp only [h, hk, if_false, mget, ih]
        by_cases hj : j = k'
        · rw [if_pos hj, if_neg (by omega), if_pos hj]
        · simp only [hj, if_false]

/-- What a map reads as after a write. -/
theorem mget_mset [DecidableEq α] (m : List (Nat × α)) (k j : Nat) (v : α) :
    mget d (mset d m k v) j = if j = k then v else mget d m j := by
  simp only [mset]
  split
  · next hv =>
    have := mget_mdrop d (fun x => x == k) m j
    simp only [mdrop] at this
    have e : (fun e : Nat × α => !(e.1 == k)) = (fun e => e.1 != k) := rfl
    rw [e] at this
    rw [this]
    by_cases hj : j = k
    · subst hj; simp [hv]
    · simp [hj]
  · exact mget_mput d m k j v

/-- A key just written reads as the value written. -/
@[simp] theorem mget_mset_same [DecidableEq α] (m : List (Nat × α)) (k : Nat) (v : α) : mget d (mset d m k v) k = v := by
  rw [mget_mset, if_pos rfl]

/-- Every other key reads as before. -/
theorem mget_mset_other [DecidableEq α] (m : List (Nat × α)) (k j : Nat) (v : α) (h : j ≠ k) :
    mget d (mset d m k v) j = mget d m j := by
  rw [mget_mset, if_neg h]

/-- The canonical form above a key holds above a lower one. -/
theorem mwf_weaken [DecidableEq α] (m : List (Nat × α)) (l : Nat) (lo : Option Nat) (h : mwf d (some l) m = true)
    (hl : ∀ l', lo = some l' → l' ≤ l) : mwf d lo m = true := by
  cases m with
  | nil => rfl
  | cons e m =>
    simp only [mwf, Bool.and_eq_true, decide_eq_true_eq] at h ⊢
    refine ⟨⟨?_, h.1.2⟩, h.2⟩
    cases lo with
    | none => rfl
    | some l' => have := hl l' rfl; have := h.1.1; simp only [decide_eq_true_eq]; omega

/-- Dropping entries keeps the canonical form. -/
theorem mwf_filter [DecidableEq α] (p : Nat × α → Bool) (m : List (Nat × α)) (lo : Option Nat) (h : mwf d lo m = true) :
    mwf d lo (m.filter p) = true := by
  induction m generalizing lo with
  | nil => rfl
  | cons e m ih =>
    obtain ⟨k, v⟩ := e
    simp only [mwf, Bool.and_eq_true, decide_eq_true_eq] at h
    by_cases hp : p (k, v) = true
    · rw [List.filter_cons_of_pos hp]
      simp only [mwf, Bool.and_eq_true, decide_eq_true_eq]
      exact ⟨h.1, ih (some k) h.2⟩
    · rw [List.filter_cons_of_neg hp]
      refine ih lo (mwf_weaken d m k lo h.2 ?_)
      intro l' hl
      subst hl
      have := h.1.1
      simp only [decide_eq_true_eq] at this
      omega

/-- Listing a value that is not the default keeps the canonical form. -/
theorem mwf_mput [DecidableEq α] (m : List (Nat × α)) (lo : Option Nat) (k : Nat) (v : α) (h : mwf d lo m = true) (hv : v ≠ d k)
    (hl : ∀ l, lo = some l → l < k) : mwf d lo (mput m k v) = true := by
  induction m generalizing lo with
  | nil => cases lo <;> simp_all [mput, mwf]
  | cons e m ih =>
    obtain ⟨k', v'⟩ := e
    simp only [mwf, Bool.and_eq_true, decide_eq_true_eq] at h
    simp only [mput]
    split
    · cases lo <;> simp_all [mwf]
    · split
      · next hk => subst hk; cases lo <;> simp_all [mwf]
      · simp only [mwf, Bool.and_eq_true, decide_eq_true_eq]
        exact ⟨h.1, ih (some k') h.2 (by intro l hl'; cases hl'; omega)⟩

/-- A write keeps the canonical form. -/
theorem mwf_mset [DecidableEq α] (m : List (Nat × α)) (k : Nat) (v : α) (h : mwf d none m = true) : mwf d none (mset d m k v) = true := by
  simp only [mset]
  split
  · exact mwf_filter d _ m none h
  · next hv => exact mwf_mput d m none k v h hv (by intro l hl; cases hl)

/-! ## Memories of bytes -/

/-- A byte just written reads back. -/
theorem Memory.read_write_same (m : List (Nat × Byte)) (a : Nat) (b : Byte) : Memory.read (Memory.write m a b) a = b := mget_mset_same _ m a b
/-- Every other byte is unchanged. -/
theorem Memory.read_write_other (m : List (Nat × Byte)) (a a' : Nat) (b : Byte) (h : a' ≠ a) :
    Memory.read (Memory.write m a b) a' = Memory.read m a' := mget_mset_other _ m a a' b h
/-- A write of a byte keeps the canonical form. -/
theorem Memory.wf_write (m : List (Nat × Byte)) (a : Nat) (b : Byte) (h : Memory.wf m = true) : Memory.wf (Memory.write m a b) = true :=
  mwf_mset _ m a b h
/-- A write of several bytes keeps the canonical form. -/
theorem Memory.wf_writeAll (m : List (Nat × Byte)) (a : Nat) (bs : Bytes) (h : Memory.wf m = true) :
    Memory.wf (Memory.writeAll m a bs) = true := by
  induction bs generalizing m a with
  | nil => exact h
  | cons b bs ih => exact ih _ _ (Memory.wf_write m a b h)
/-- Losing bytes keeps the canonical form. -/
theorem Memory.wf_mdrop (p : Nat → Bool) (m : List (Nat × Byte)) (h : Memory.wf m = true) : Memory.wf (mdrop p m) = true :=
  mwf_filter _ _ m none h
/-- A byte outside the bytes written is unchanged. -/
theorem Memory.read_writeAll_other (m : List (Nat × Byte)) (a a' : Nat) (bs : Bytes) (h : a' < a ∨ a + bs.length ≤ a') :
    Memory.read (Memory.writeAll m a bs) a' = Memory.read m a' := by
  induction bs generalizing m a with
  | nil => rfl
  | cons b bs ih =>
    simp only [List.length_cons] at h
    rw [Memory.writeAll, ih _ _ (by omega), Memory.read_write_other _ _ _ _ (by omega)]

end Sys2Proof.Machine
end

