-- ==== Sys2Proof/Laws/Requests.lean ====
section
/-! SUPPORT. Laws of the dictionary sequencer: what an admitted request does, and what a response leaves. -/
namespace Sys2Proof.Machine
open Sys2Proof.Claims

/-! ## Nothing due -/

/-- While a read of the trace is open its resumption does nothing. -/
theorem traceResume_of_read (s : State) (h : s.traceRead = true) : s.traceResume = s := by
  simp [State.traceResume, h]

/-- Handles of which none is live and chosen stay as they are. -/
theorem killHandles_of_none (s : State) (p : Handle → Bool) (c : Nat)
    (h : ∀ x ∈ s.cu.handles, (x.dead.isNone && p x) = false) : s.killHandles p c = s := by
  have : s.cu.handles.map (fun h => if h.dead.isNone && p h then { h with dead := some c, data := [] } else h) = s.cu.handles := by
    conv => rhs; rw [← List.map_id s.cu.handles]
    apply List.map_congr_left
    intro x hx
    simp [h x hx]
  simp only [State.killHandles, this]

/-- A state with nothing due is found as it is. -/
theorem catchUp_of_quiet (s : State) (h : quiet s = true) : s.catchUp = s := by
  simp only [quiet, Bool.and_eq_true, List.all_eq_true] at h
  obtain ⟨⟨hl, hw⟩, hh⟩ := h
  have e3 : s.killHandles (fun h => decide (h.deadline ≤ s.clk.ticks)) 0xC01C = s := by
    apply killHandles_of_none
    intro x hx
    have := hh x hx
    cases hd : x.dead with
    | some c => simp
    | none =>
      simp only [hd, Option.isSome_none, Bool.false_or, decide_eq_true_eq] at this
      simp; omega
  have e4 : s.expireHandles (fun h => decide (h.deadline ≤ s.clk.ticks)) = s := by
    simp only [State.expireHandles, e3, State.when]
    split
    · next h => exact traceResume_of_read s h
    · rfl
  cases hc : s.cu.lease with
  | none =>
    cases hd : s.cu.window with
    | none => simpa [State.catchUp, hc, hd] using e4
    | some u => rw [hd] at hw; simpa [State.catchUp, hc, hd, Nat.not_le.2 (of_decide_eq_true hw)] using e4
  | some t =>
    rw [hc] at hl
    cases hd : s.cu.window with
    | none => simpa [State.catchUp, hc, hd, Nat.not_le.2 (of_decide_eq_true hl)] using e4
    | some u => rw [hd] at hw; simpa [State.catchUp, hc, hd, Nat.not_le.2 (of_decide_eq_true hl), Nat.not_le.2 (of_decide_eq_true hw)] using e4

/-! ## Agents -/

@[simp] theorem agent_setAgent_same (s : State) (n : Nat) (a : Option Agent) : (s.setAgent n a).agent n = a := by
  simp [State.agent, State.setAgent]
theorem agent_setAgent_other (s : State) (n m : Nat) (a : Option Agent) (h : m ≠ n) : (s.setAgent n a).agent m = s.agent m := by
  simp [State.agent, State.setAgent, mget_mset_other, h]
@[simp] theorem agent_setObj (s : State) (k v n : Nat) : (s.setObj k v).agent n = s.agent n := rfl
@[simp] theorem agent_emit (s : State) (o : Out) (n : Nat) : (s.emit o).agent n = s.agent n := rfl
@[simp] theorem agent_setBox (s : State) (b : Nat) (x : MBox) (n : Nat) : (s.setBox b x).agent n = s.agent n := rfl
@[simp] theorem agent_setStrait (s : State) (i : Nat) (x : Strait) (n : Nat) : (s.setStrait i x).agent n = s.agent n := rfl

/-! ## What a message that leaves changes -/

/-- Everything but the log of what leaves, Cuhild's windows and mailboxes, and the straits is as before. -/
structure Sent (s t : State) : Prop where
  rest : t = { s with out := t.out, cu := t.cu, st := t.st }
  cu : t.cu = { s.cu with cfgGo := t.cu.cfgGo, cfgDone := t.cu.cfgDone, cfgRsp := t.cu.cfgRsp, mbox := t.cu.mbox }

theorem Sent.refl (s : State) : Sent s s := ⟨rfl, rfl⟩
theorem Sent.trans {s t u : State} (h : Sent s t) (g : Sent t u) : Sent s u := by
  obtain ⟨h1, h2⟩ := h
  obtain ⟨g1, g2⟩ := g
  constructor
  · rw [g1, h1]
  · rw [g2, h2]
theorem Sent.obj {s t : State} (h : Sent s t) (k : Nat) : t.obj k = s.obj k := by rw [h.rest]; rfl
theorem Sent.agent {s t : State} (h : Sent s t) (n : Nat) : t.agent n = s.agent n := by
  simp only [State.agent]; rw [h.cu]
theorem Sent.agentAt {s t : State} (h : Sent s t) (ep : Endpoint) : t.agentAt ep = s.agentAt ep := by
  simp only [State.agentAt, h.agent]

theorem Sent.emit (s : State) (o : Out) : Sent s (s.emit o) := ⟨rfl, rfl⟩
theorem Sent.setBox (s : State) (n : Nat) (b : MBox) : Sent s (s.setBox n b) := ⟨rfl, rfl⟩
theorem Sent.setStrait (s : State) (i : Nat) (v : Strait) : Sent s (s.setStrait i v) := ⟨rfl, rfl⟩
theorem Sent.when {s : State} (c : Bool) (f : State → State) (h : Sent s (f s)) : Sent s (s.when c f) := by
  simp only [State.when]; split
  · exact h
  · exact Sent.refl s
theorem Sent.each {β : Type} (xs : List β) (f : State → β → State) (h : ∀ s x, Sent s (f s x)) (s : State) : Sent s (s.each xs f) := by
  simp only [State.each]
  induction xs generalizing s with
  | nil => exact Sent.refl s
  | cons x xs ih => exact (h s x).trans (ih _)
theorem Sent.putRsp (s : State) (n : Nat) (bs : Bytes) : Sent s (s.putRsp n bs) := by
  unfold State.putRsp
  exact Sent.trans (Sent.setBox s n _) (Sent.when _ _ (Sent.emit _ _))
theorem Sent.putNtf (s : State) (n : Nat) (bs : Bytes) : Sent s (s.putNtf n bs) := by
  unfold State.putNtf
  exact Sent.trans (Sent.setBox s n _) (Sent.when _ _ (Sent.emit _ _))
theorem Sent.sendFlits (s : State) (i : Nat) (p : SPkt) (fuel k : Nat) : Sent s (s.sendFlits i p fuel k) := by
  induction fuel generalizing s k with
  | zero => exact Sent.refl s
  | succ fuel ih =>
    simp only [State.sendFlits]
    split
    · exact Sent.refl s
    · exact ((Sent.setStrait s i _).trans (Sent.emit _ _)).trans (ih _ _)
theorem Sent.pumpStrait (s : State) (i fuel : Nat) : Sent s (s.pumpStrait i fuel) := by
  induction fuel generalizing s with
  | zero => exact Sent.refl s
  | succ fuel ih =>
    simp only [State.pumpStrait]
    split
    · exact Sent.refl s
    · split
      · exact ((Sent.setStrait s i _).trans (Sent.sendFlits _ _ _ _ _)).trans (ih _)
      · exact Sent.refl s
theorem Sent.forward (s : State) (p : SPkt) : Sent s (s.forward p) := by
  simp only [State.forward]
  split
  · exact Sent.refl s
  · exact (Sent.setStrait s _ _).trans (Sent.pumpStrait _ _ _)
theorem Sent.sendCuhild (s : State) (d : Nat) (m : Bytes) : Sent s (s.sendCuhild d m) := Sent.forward s _
/-- What handing a message to a transport changes (R68 to R77). -/
theorem Sent.send (s : State) (node prio : Nat) (note : Bool) (ep : Endpoint) (m : Msg) : Sent s (s.send node prio note ep m) := by
  cases ep with
  | cfgWindow => exact ⟨rfl, rfl⟩
  | pf =>
    simp only [State.send]
    split
    · exact Sent.putNtf s _ _
    · split
      · exact Sent.setBox s _ _
      · exact Sent.putRsp s _ _
  | vf p =>
    simp only [State.send]
    split
    · exact Sent.putNtf s _ _
    · split
      · exact Sent.setBox s _ _
      · exact Sent.putRsp s _ _
  | can n => exact Sent.each _ _ (fun s d => Sent.emit s _) s
  | inband p mac tag => exact Sent.emit s _
  | strait d => exact Sent.sendCuhild s d _

/-! ## Endpoints -/

theorem Endpoint.same_refl (a : Endpoint) : a.same a = true := by cases a <;> simp [Endpoint.same]
theorem Endpoint.same_trans {a b c : Endpoint} (h : a.same b = true) (g : b.same c = true) : a.same c = true := by
  cases a <;> cases b <;> cases c <;> simp_all [Endpoint.same]
theorem Endpoint.same_symm {a b : Endpoint} (h : a.same b = true) : b.same a = true := by
  cases a <;> cases b <;> simp_all [Endpoint.same]

/-! ## Requests -/

/-- What the numbers of agents registered at an endpoint depend on. -/
theorem agentAt_some {s : State} {ep : Endpoint} {n : Nat} (h : s.agentAt ep = some n) : ∃ a, s.agent n = some a ∧ a.ep.same ep = true := by
  have := List.find?_some h
  cases ha : s.agent n with
  | none => rw [ha] at this; cases this
  | some a => rw [ha] at this; exact ⟨a, rfl, this⟩

/-- An agent heard at its endpoint keeps its number. -/
theorem agentAt_updAgent (s : State) (ep : Endpoint) (n : Nat) (f : Agent → Agent) (h : s.agentAt ep = some n)
    (hf : ∀ a, (f a).ep = a.ep ∨ (f a).ep = ep) : (s.updAgent n f).agentAt ep = some n := by
  rw [← h]
  simp only [State.agentAt]
  congr 1
  funext m
  simp only [State.updAgent]
  by_cases hm : m = n
  · subst hm
    rw [agent_setAgent_same]
    obtain ⟨a, ha, hs⟩ := agentAt_some h
    rw [ha]
    simp only [Option.map_some]
    rcases hf a with e | e
    · rw [e]
    · rw [e, Endpoint.same_refl, hs]
  · rw [agent_setAgent_other _ _ _ _ hm]

/-- An admitted request is executed for its agent. -/
theorem request_admitted (s : State) (r : Req) (b : Body) (n : Nat) (h : admitted s r b.op n = true) :
    s.request r b = (s.updAgent n (fun a => { a with heard := s.now, heardTick := s.clk.ticks, ep := r.ep })).run (some n) r b := by
  simp only [admitted, Bool.and_eq_true, decide_eq_true_eq] at h
  obtain ⟨⟨⟨hs, hq⟩, hn⟩, ha⟩ := h
  obtain ⟨a, hag, hep⟩ := agentAt_some hn
  rw [hag] at ha
  simp only [Bool.and_eq_true, Bool.not_eq_true', decide_eq_true_eq] at ha
  obtain ⟨⟨hk, hc⟩, hl⟩ := ha
  unfold State.request
  simp only [hs, Bool.not_true, Bool.false_eq_true, if_false]
  rw [catchUp_of_quiet s hq]
  simp only [hn]
  have e : (s.updAgent n (fun a => { a with heard := s.now, heardTick := s.clk.ticks, ep := r.ep })).agent n
      = some { a with heard := s.now, heardTick := s.clk.ticks, ep := r.ep } := by simp [State.updAgent, hag]
  rw [e]
  have hf : a.kept.find? (fun k => k.1 == r.seq && k.2.1 == b.op) = none := by
    rw [List.find?_eq_none]; intro k hk2
    have := List.any_eq_false.1 hk k hk2
    simpa using this
  have hb : a.ep.box = r.ep.box := by
    revert hep; cases a.ep <;> cases r.ep <;> simp [Endpoint.same, Endpoint.box]
  have hout : (s.updAgent n (fun a => { a with heard := s.now, heardTick := s.clk.ticks, ep := r.ep })).outstanding
      { a with heard := s.now, heardTick := s.clk.ticks, ep := r.ep } = s.outstanding a := by
    simp only [State.outstanding, hb]; rfl
  simp only [hf, hout, hc, Bool.false_eq_true, if_false]
  rw [if_neg (by omega)]

/-- What executing a request answers. -/
theorem run_eq (s : State) (r : Req) (b : Body) (n : Nat) :
    (s.updAgent n (fun a => { a with heard := s.now, heardTick := s.clk.ticks, ep := r.ep })).run (some n) r b =
      (match ((arrived s r n).execute (some n) r b).2.2 with
       | none => ((arrived s r n).execute (some n) r b).1.updAgent n (fun a => a.noteReq r.seq b.op)
       | some p => ((arrived s r n).execute (some n) r b).1.respond
           ((s.updAgent n (fun a => { a with heard := s.now, heardTick := s.clk.ticks, ep := r.ep })).obj Obj.cuhildCanNode)
           (((arrived s r n).execute (some n) r b).1.prioOf r.ep) r.ep b.op r.seq
           ((arrived s r n).execute (some n) r b).2.1 p) := rfl

/-- A response is kept for its agent as its latest one. -/
theorem answered_respond (s : State) (node prio : Nat) (r : Req) (op code n : Nat) (payload : List (Nat × Nat)) (h : s.agentAt r.ep = some n) :
    answered (s.respond node prio r.ep op r.seq code payload) n r op code payload = true := by
  obtain ⟨a, ha, -⟩ := agentAt_some h
  unfold State.respond
  rw [h]
  simp only [answered, (Sent.send _ node prio false r.ep _).agent, State.updAgent, agent_setAgent_same, ha, Option.map_some]
  simp [State.rspMsg]

/-- A response changes no object. -/
@[simp] theorem respond_obj (s : State) (node prio : Nat) (ep : Endpoint) (op seq code : Nat) (payload : List (Nat × Nat)) (k : Nat) :
    (s.respond node prio ep op seq code payload).obj k = s.obj k := by
  unfold State.respond
  rw [(Sent.send _ _ _ _ _ _).obj]
  cases s.agentAt ep <;> rfl

end Sys2Proof.Machine
end

