-- ==== Sys2Proof/Laws/State.lean ====
section
/-! SUPPORT. One lemma per field per update of the state, so that no proof unfolds a record update: what every update of one table leaves
of the other fields, and what each table reads as after an update of its own. -/
namespace Sys2Proof.Machine

/-! ### setObj -/

@[simp] theorem setObj_pending (s : State) (k v : Nat) : (s.setObj k v).pending = s.pending := rfl
@[simp] theorem setObj_out (s : State) (k v : Nat) : (s.setObj k v).out = s.out := rfl
@[simp] theorem setObj_free (s : State) (k v : Nat) : (s.setObj k v).free = s.free := rfl
@[simp] theorem setObj_dev (s : State) (k v : Nat) : (s.setObj k v).dev = s.dev := rfl
@[simp] theorem setObj_flash (s : State) (k v : Nat) : (s.setObj k v).flash = s.flash := rfl
@[simp] theorem setObj_mem (s : State) (k v : Nat) : (s.setObj k v).mem = s.mem := rfl
@[simp] theorem setObj_boot (s : State) (k v : Nat) : (s.setObj k v).boot = s.boot := rfl
@[simp] theorem setObj_meas (s : State) (k v : Nat) : (s.setObj k v).meas = s.meas := rfl
@[simp] theorem setObj_clk (s : State) (k v : Nat) : (s.setObj k v).clk = s.clk := rfl
@[simp] theorem setObj_cu (s : State) (k v : Nat) : (s.setObj k v).cu = s.cu := rfl
@[simp] theorem setObj_pwr (s : State) (k v : Nat) : (s.setObj k v).pwr = s.pwr := rfl
@[simp] theorem setObj_res (s : State) (k v : Nat) : (s.setObj k v).res = s.res := rfl
@[simp] theorem setObj_x (s : State) (k v : Nat) : (s.setObj k v).x = s.x := rfl
@[simp] theorem setObj_queues (s : State) (k v : Nat) : (s.setObj k v).queues = s.queues := rfl
@[simp] theorem setObj_flow (s : State) (k v : Nat) : (s.setObj k v).flow = s.flow := rfl
@[simp] theorem setObj_t1 (s : State) (k v : Nat) : (s.setObj k v).t1 = s.t1 := rfl
@[simp] theorem setObj_m (s : State) (k v : Nat) : (s.setObj k v).m = s.m := rfl
@[simp] theorem setObj_st (s : State) (k v : Nat) : (s.setObj k v).st = s.st := rfl
@[simp] theorem setObj_pool (s : State) (k v : Nat) : (s.setObj k v).pool = s.pool := rfl
@[simp] theorem setObj_isle (s : State) (k v : Nat) : (s.setObj k v).isle = s.isle := rfl
@[simp] theorem setObj_carts (s : State) (k v : Nat) : (s.setObj k v).carts = s.carts := rfl
@[simp] theorem setObj_heat (s : State) (k v : Nat) : (s.setObj k v).heat = s.heat := rfl
@[simp] theorem setObj_fault (s : State) (k v : Nat) : (s.setObj k v).fault = s.fault := rfl
@[simp] theorem setObj_obs (s : State) (k v : Nat) : (s.setObj k v).obs = s.obs := rfl
@[simp] theorem setObj_dbg (s : State) (k v : Nat) : (s.setObj k v).dbg = s.dbg := rfl

/-! ### emit -/

@[simp] theorem emit_pending (s : State) (o : Out) : (s.emit o).pending = s.pending := rfl
@[simp] theorem emit_free (s : State) (o : Out) : (s.emit o).free = s.free := rfl
@[simp] theorem emit_dev (s : State) (o : Out) : (s.emit o).dev = s.dev := rfl
@[simp] theorem emit_objs (s : State) (o : Out) : (s.emit o).objs = s.objs := rfl
@[simp] theorem emit_flash (s : State) (o : Out) : (s.emit o).flash = s.flash := rfl
@[simp] theorem emit_mem (s : State) (o : Out) : (s.emit o).mem = s.mem := rfl
@[simp] theorem emit_boot (s : State) (o : Out) : (s.emit o).boot = s.boot := rfl
@[simp] theorem emit_meas (s : State) (o : Out) : (s.emit o).meas = s.meas := rfl
@[simp] theorem emit_clk (s : State) (o : Out) : (s.emit o).clk = s.clk := rfl
@[simp] theorem emit_cu (s : State) (o : Out) : (s.emit o).cu = s.cu := rfl
@[simp] theorem emit_pwr (s : State) (o : Out) : (s.emit o).pwr = s.pwr := rfl
@[simp] theorem emit_res (s : State) (o : Out) : (s.emit o).res = s.res := rfl
@[simp] theorem emit_x (s : State) (o : Out) : (s.emit o).x = s.x := rfl
@[simp] theorem emit_queues (s : State) (o : Out) : (s.emit o).queues = s.queues := rfl
@[simp] theorem emit_flow (s : State) (o : Out) : (s.emit o).flow = s.flow := rfl
@[simp] theorem emit_t1 (s : State) (o : Out) : (s.emit o).t1 = s.t1 := rfl
@[simp] theorem emit_m (s : State) (o : Out) : (s.emit o).m = s.m := rfl
@[simp] theorem emit_st (s : State) (o : Out) : (s.emit o).st = s.st := rfl
@[simp] theorem emit_pool (s : State) (o : Out) : (s.emit o).pool = s.pool := rfl
@[simp] theorem emit_isle (s : State) (o : Out) : (s.emit o).isle = s.isle := rfl
@[simp] theorem emit_carts (s : State) (o : Out) : (s.emit o).carts = s.carts := rfl
@[simp] theorem emit_heat (s : State) (o : Out) : (s.emit o).heat = s.heat := rfl
@[simp] theorem emit_fault (s : State) (o : Out) : (s.emit o).fault = s.fault := rfl
@[simp] theorem emit_obs (s : State) (o : Out) : (s.emit o).obs = s.obs := rfl
@[simp] theorem emit_dbg (s : State) (o : Out) : (s.emit o).dbg = s.dbg := rfl

/-! ### setMeter -/

@[simp] theorem setMeter_pending (s : State) (i : Nat) (m : Meter) : (s.setMeter i m).pending = s.pending := rfl
@[simp] theorem setMeter_out (s : State) (i : Nat) (m : Meter) : (s.setMeter i m).out = s.out := rfl
@[simp] theorem setMeter_free (s : State) (i : Nat) (m : Meter) : (s.setMeter i m).free = s.free := rfl
@[simp] theorem setMeter_dev (s : State) (i : Nat) (m : Meter) : (s.setMeter i m).dev = s.dev := rfl
@[simp] theorem setMeter_objs (s : State) (i : Nat) (m : Meter) : (s.setMeter i m).objs = s.objs := rfl
@[simp] theorem setMeter_flash (s : State) (i : Nat) (m : Meter) : (s.setMeter i m).flash = s.flash := rfl
@[simp] theorem setMeter_mem (s : State) (i : Nat) (m : Meter) : (s.setMeter i m).mem = s.mem := rfl
@[simp] theorem setMeter_boot (s : State) (i : Nat) (m : Meter) : (s.setMeter i m).boot = s.boot := rfl
@[simp] theorem setMeter_meas (s : State) (i : Nat) (m : Meter) : (s.setMeter i m).meas = s.meas := rfl
@[simp] theorem setMeter_clk (s : State) (i : Nat) (m : Meter) : (s.setMeter i m).clk = s.clk := rfl
@[simp] theorem setMeter_cu (s : State) (i : Nat) (m : Meter) : (s.setMeter i m).cu = s.cu := rfl
@[simp] theorem setMeter_pwr (s : State) (i : Nat) (m : Meter) : (s.setMeter i m).pwr = s.pwr := rfl
@[simp] theorem setMeter_res (s : State) (i : Nat) (m : Meter) : (s.setMeter i m).res = s.res := rfl
@[simp] theorem setMeter_queues (s : State) (i : Nat) (m : Meter) : (s.setMeter i m).queues = s.queues := rfl
@[simp] theorem setMeter_flow (s : State) (i : Nat) (m : Meter) : (s.setMeter i m).flow = s.flow := rfl
@[simp] theorem setMeter_t1 (s : State) (i : Nat) (m : Meter) : (s.setMeter i m).t1 = s.t1 := rfl
@[simp] theorem setMeter_m (s : State) (i : Nat) (m : Meter) : (s.setMeter i m).m = s.m := rfl
@[simp] theorem setMeter_st (s : State) (i : Nat) (m : Meter) : (s.setMeter i m).st = s.st := rfl
@[simp] theorem setMeter_pool (s : State) (i : Nat) (m : Meter) : (s.setMeter i m).pool = s.pool := rfl
@[simp] theorem setMeter_isle (s : State) (i : Nat) (m : Meter) : (s.setMeter i m).isle = s.isle := rfl
@[simp] theorem setMeter_carts (s : State) (i : Nat) (m : Meter) : (s.setMeter i m).carts = s.carts := rfl
@[simp] theorem setMeter_heat (s : State) (i : Nat) (m : Meter) : (s.setMeter i m).heat = s.heat := rfl
@[simp] theorem setMeter_fault (s : State) (i : Nat) (m : Meter) : (s.setMeter i m).fault = s.fault := rfl
@[simp] theorem setMeter_obs (s : State) (i : Nat) (m : Meter) : (s.setMeter i m).obs = s.obs := rfl
@[simp] theorem setMeter_dbg (s : State) (i : Nat) (m : Meter) : (s.setMeter i m).dbg = s.dbg := rfl

/-! ### setHolds -/

@[simp] theorem setHolds_pending (s : State) (n : Nat) (hs : List HeldKey) : (s.setHolds n hs).pending = s.pending := rfl
@[simp] theorem setHolds_out (s : State) (n : Nat) (hs : List HeldKey) : (s.setHolds n hs).out = s.out := rfl
@[simp] theorem setHolds_free (s : State) (n : Nat) (hs : List HeldKey) : (s.setHolds n hs).free = s.free := rfl
@[simp] theorem setHolds_dev (s : State) (n : Nat) (hs : List HeldKey) : (s.setHolds n hs).dev = s.dev := rfl
@[simp] theorem setHolds_objs (s : State) (n : Nat) (hs : List HeldKey) : (s.setHolds n hs).objs = s.objs := rfl
@[simp] theorem setHolds_flash (s : State) (n : Nat) (hs : List HeldKey) : (s.setHolds n hs).flash = s.flash := rfl
@[simp] theorem setHolds_mem (s : State) (n : Nat) (hs : List HeldKey) : (s.setHolds n hs).mem = s.mem := rfl
@[simp] theorem setHolds_boot (s : State) (n : Nat) (hs : List HeldKey) : (s.setHolds n hs).boot = s.boot := rfl
@[simp] theorem setHolds_meas (s : State) (n : Nat) (hs : List HeldKey) : (s.setHolds n hs).meas = s.meas := rfl
@[simp] theorem setHolds_clk (s : State) (n : Nat) (hs : List HeldKey) : (s.setHolds n hs).clk = s.clk := rfl
@[simp] theorem setHolds_cu (s : State) (n : Nat) (hs : List HeldKey) : (s.setHolds n hs).cu = s.cu := rfl
@[simp] theorem setHolds_pwr (s : State) (n : Nat) (hs : List HeldKey) : (s.setHolds n hs).pwr = s.pwr := rfl
@[simp] theorem setHolds_res (s : State) (n : Nat) (hs : List HeldKey) : (s.setHolds n hs).res = s.res := rfl
@[simp] theorem setHolds_queues (s : State) (n : Nat) (hs : List HeldKey) : (s.setHolds n hs).queues = s.queues := rfl
@[simp] theorem setHolds_flow (s : State) (n : Nat) (hs : List HeldKey) : (s.setHolds n hs).flow = s.flow := rfl
@[simp] theorem setHolds_t1 (s : State) (n : Nat) (hs : List HeldKey) : (s.setHolds n hs).t1 = s.t1 := rfl
@[simp] theorem setHolds_m (s : State) (n : Nat) (hs : List HeldKey) : (s.setHolds n hs).m = s.m := rfl
@[simp] theorem setHolds_st (s : State) (n : Nat) (hs : List HeldKey) : (s.setHolds n hs).st = s.st := rfl
@[simp] theorem setHolds_pool (s : State) (n : Nat) (hs : List HeldKey) : (s.setHolds n hs).pool = s.pool := rfl
@[simp] theorem setHolds_isle (s : State) (n : Nat) (hs : List HeldKey) : (s.setHolds n hs).isle = s.isle := rfl
@[simp] theorem setHolds_carts (s : State) (n : Nat) (hs : List HeldKey) : (s.setHolds n hs).carts = s.carts := rfl
@[simp] theorem setHolds_heat (s : State) (n : Nat) (hs : List HeldKey) : (s.setHolds n hs).heat = s.heat := rfl
@[simp] theorem setHolds_fault (s : State) (n : Nat) (hs : List HeldKey) : (s.setHolds n hs).fault = s.fault := rfl
@[simp] theorem setHolds_obs (s : State) (n : Nat) (hs : List HeldKey) : (s.setHolds n hs).obs = s.obs := rfl
@[simp] theorem setHolds_dbg (s : State) (n : Nat) (hs : List HeldKey) : (s.setHolds n hs).dbg = s.dbg := rfl

/-! ### addHandle -/

@[simp] theorem addHandle_pending (s : State) (h : Handle) : (s.addHandle h).pending = s.pending := rfl
@[simp] theorem addHandle_out (s : State) (h : Handle) : (s.addHandle h).out = s.out := rfl
@[simp] theorem addHandle_free (s : State) (h : Handle) : (s.addHandle h).free = s.free := rfl
@[simp] theorem addHandle_dev (s : State) (h : Handle) : (s.addHandle h).dev = s.dev := rfl
@[simp] theorem addHandle_objs (s : State) (h : Handle) : (s.addHandle h).objs = s.objs := rfl
@[simp] theorem addHandle_flash (s : State) (h : Handle) : (s.addHandle h).flash = s.flash := rfl
@[simp] theorem addHandle_mem (s : State) (h : Handle) : (s.addHandle h).mem = s.mem := rfl
@[simp] theorem addHandle_boot (s : State) (h : Handle) : (s.addHandle h).boot = s.boot := rfl
@[simp] theorem addHandle_meas (s : State) (h : Handle) : (s.addHandle h).meas = s.meas := rfl
@[simp] theorem addHandle_clk (s : State) (h : Handle) : (s.addHandle h).clk = s.clk := rfl
@[simp] theorem addHandle_pwr (s : State) (h : Handle) : (s.addHandle h).pwr = s.pwr := rfl
@[simp] theorem addHandle_res (s : State) (h : Handle) : (s.addHandle h).res = s.res := rfl
@[simp] theorem addHandle_x (s : State) (h : Handle) : (s.addHandle h).x = s.x := rfl
@[simp] theorem addHandle_queues (s : State) (h : Handle) : (s.addHandle h).queues = s.queues := rfl
@[simp] theorem addHandle_flow (s : State) (h : Handle) : (s.addHandle h).flow = s.flow := rfl
@[simp] theorem addHandle_t1 (s : State) (h : Handle) : (s.addHandle h).t1 = s.t1 := rfl
@[simp] theorem addHandle_m (s : State) (h : Handle) : (s.addHandle h).m = s.m := rfl
@[simp] theorem addHandle_st (s : State) (h : Handle) : (s.addHandle h).st = s.st := rfl
@[simp] theorem addHandle_pool (s : State) (h : Handle) : (s.addHandle h).pool = s.pool := rfl
@[simp] theorem addHandle_isle (s : State) (h : Handle) : (s.addHandle h).isle = s.isle := rfl
@[simp] theorem addHandle_carts (s : State) (h : Handle) : (s.addHandle h).carts = s.carts := rfl
@[simp] theorem addHandle_heat (s : State) (h : Handle) : (s.addHandle h).heat = s.heat := rfl
@[simp] theorem addHandle_fault (s : State) (h : Handle) : (s.addHandle h).fault = s.fault := rfl
@[simp] theorem addHandle_obs (s : State) (h : Handle) : (s.addHandle h).obs = s.obs := rfl
@[simp] theorem addHandle_dbg (s : State) (h : Handle) : (s.addHandle h).dbg = s.dbg := rfl

/-! ### updHandle -/

@[simp] theorem updHandle_pending (s : State) (id : Nat) (f : Handle → Handle) : (s.updHandle id f).pending = s.pending := rfl
@[simp] theorem updHandle_out (s : State) (id : Nat) (f : Handle → Handle) : (s.updHandle id f).out = s.out := rfl
@[simp] theorem updHandle_free (s : State) (id : Nat) (f : Handle → Handle) : (s.updHandle id f).free = s.free := rfl
@[simp] theorem updHandle_dev (s : State) (id : Nat) (f : Handle → Handle) : (s.updHandle id f).dev = s.dev := rfl
@[simp] theorem updHandle_objs (s : State) (id : Nat) (f : Handle → Handle) : (s.updHandle id f).objs = s.objs := rfl
@[simp] theorem updHandle_flash (s : State) (id : Nat) (f : Handle → Handle) : (s.updHandle id f).flash = s.flash := rfl
@[simp] theorem updHandle_mem (s : State) (id : Nat) (f : Handle → Handle) : (s.updHandle id f).mem = s.mem := rfl
@[simp] theorem updHandle_boot (s : State) (id : Nat) (f : Handle → Handle) : (s.updHandle id f).boot = s.boot := rfl
@[simp] theorem updHandle_meas (s : State) (id : Nat) (f : Handle → Handle) : (s.updHandle id f).meas = s.meas := rfl
@[simp] theorem updHandle_clk (s : State) (id : Nat) (f : Handle → Handle) : (s.updHandle id f).clk = s.clk := rfl
@[simp] theorem updHandle_pwr (s : State) (id : Nat) (f : Handle → Handle) : (s.updHandle id f).pwr = s.pwr := rfl
@[simp] theorem updHandle_res (s : State) (id : Nat) (f : Handle → Handle) : (s.updHandle id f).res = s.res := rfl
@[simp] theorem updHandle_x (s : State) (id : Nat) (f : Handle → Handle) : (s.updHandle id f).x = s.x := rfl
@[simp] theorem updHandle_queues (s : State) (id : Nat) (f : Handle → Handle) : (s.updHandle id f).queues = s.queues := rfl
@[simp] theorem updHandle_flow (s : State) (id : Nat) (f : Handle → Handle) : (s.updHandle id f).flow = s.flow := rfl
@[simp] theorem updHandle_t1 (s : State) (id : Nat) (f : Handle → Handle) : (s.updHandle id f).t1 = s.t1 := rfl
@[simp] theorem updHandle_m (s : State) (id : Nat) (f : Handle → Handle) : (s.updHandle id f).m = s.m := rfl
@[simp] theorem updHandle_st (s : State) (id : Nat) (f : Handle → Handle) : (s.updHandle id f).st = s.st := rfl
@[simp] theorem updHandle_pool (s : State) (id : Nat) (f : Handle → Handle) : (s.updHandle id f).pool = s.pool := rfl
@[simp] theorem updHandle_isle (s : State) (id : Nat) (f : Handle → Handle) : (s.updHandle id f).isle = s.isle := rfl
@[simp] theorem updHandle_carts (s : State) (id : Nat) (f : Handle → Handle) : (s.updHandle id f).carts = s.carts := rfl
@[simp] theorem updHandle_heat (s : State) (id : Nat) (f : Handle → Handle) : (s.updHandle id f).heat = s.heat := rfl
@[simp] theorem updHandle_fault (s : State) (id : Nat) (f : Handle → Handle) : (s.updHandle id f).fault = s.fault := rfl
@[simp] theorem updHandle_obs (s : State) (id : Nat) (f : Handle → Handle) : (s.updHandle id f).obs = s.obs := rfl
@[simp] theorem updHandle_dbg (s : State) (id : Nat) (f : Handle → Handle) : (s.updHandle id f).dbg = s.dbg := rfl

/-! ### setEntry -/

@[simp] theorem setEntry_pending (s : State) (i : Nat) (e : FEntry) : (s.setEntry i e).pending = s.pending := rfl
@[simp] theorem setEntry_out (s : State) (i : Nat) (e : FEntry) : (s.setEntry i e).out = s.out := rfl
@[simp] theorem setEntry_free (s : State) (i : Nat) (e : FEntry) : (s.setEntry i e).free = s.free := rfl
@[simp] theorem setEntry_dev (s : State) (i : Nat) (e : FEntry) : (s.setEntry i e).dev = s.dev := rfl
@[simp] theorem setEntry_objs (s : State) (i : Nat) (e : FEntry) : (s.setEntry i e).objs = s.objs := rfl
@[simp] theorem setEntry_flash (s : State) (i : Nat) (e : FEntry) : (s.setEntry i e).flash = s.flash := rfl
@[simp] theorem setEntry_mem (s : State) (i : Nat) (e : FEntry) : (s.setEntry i e).mem = s.mem := rfl
@[simp] theorem setEntry_boot (s : State) (i : Nat) (e : FEntry) : (s.setEntry i e).boot = s.boot := rfl
@[simp] theorem setEntry_meas (s : State) (i : Nat) (e : FEntry) : (s.setEntry i e).meas = s.meas := rfl
@[simp] theorem setEntry_clk (s : State) (i : Nat) (e : FEntry) : (s.setEntry i e).clk = s.clk := rfl
@[simp] theorem setEntry_cu (s : State) (i : Nat) (e : FEntry) : (s.setEntry i e).cu = s.cu := rfl
@[simp] theorem setEntry_pwr (s : State) (i : Nat) (e : FEntry) : (s.setEntry i e).pwr = s.pwr := rfl
@[simp] theorem setEntry_res (s : State) (i : Nat) (e : FEntry) : (s.setEntry i e).res = s.res := rfl
@[simp] theorem setEntry_x (s : State) (i : Nat) (e : FEntry) : (s.setEntry i e).x = s.x := rfl
@[simp] theorem setEntry_queues (s : State) (i : Nat) (e : FEntry) : (s.setEntry i e).queues = s.queues := rfl
@[simp] theorem setEntry_t1 (s : State) (i : Nat) (e : FEntry) : (s.setEntry i e).t1 = s.t1 := rfl
@[simp] theorem setEntry_m (s : State) (i : Nat) (e : FEntry) : (s.setEntry i e).m = s.m := rfl
@[simp] theorem setEntry_st (s : State) (i : Nat) (e : FEntry) : (s.setEntry i e).st = s.st := rfl
@[simp] theorem setEntry_pool (s : State) (i : Nat) (e : FEntry) : (s.setEntry i e).pool = s.pool := rfl
@[simp] theorem setEntry_isle (s : State) (i : Nat) (e : FEntry) : (s.setEntry i e).isle = s.isle := rfl
@[simp] theorem setEntry_carts (s : State) (i : Nat) (e : FEntry) : (s.setEntry i e).carts = s.carts := rfl
@[simp] theorem setEntry_heat (s : State) (i : Nat) (e : FEntry) : (s.setEntry i e).heat = s.heat := rfl
@[simp] theorem setEntry_fault (s : State) (i : Nat) (e : FEntry) : (s.setEntry i e).fault = s.fault := rfl
@[simp] theorem setEntry_obs (s : State) (i : Nat) (e : FEntry) : (s.setEntry i e).obs = s.obs := rfl
@[simp] theorem setEntry_dbg (s : State) (i : Nat) (e : FEntry) : (s.setEntry i e).dbg = s.dbg := rfl

/-! ### setRec -/

@[simp] theorem setRec_pending (s : State) (i : Nat) (r : Option Rec) : (s.setRec i r).pending = s.pending := rfl
@[simp] theorem setRec_out (s : State) (i : Nat) (r : Option Rec) : (s.setRec i r).out = s.out := rfl
@[simp] theorem setRec_free (s : State) (i : Nat) (r : Option Rec) : (s.setRec i r).free = s.free := rfl
@[simp] theorem setRec_dev (s : State) (i : Nat) (r : Option Rec) : (s.setRec i r).dev = s.dev := rfl
@[simp] theorem setRec_objs (s : State) (i : Nat) (r : Option Rec) : (s.setRec i r).objs = s.objs := rfl
@[simp] theorem setRec_flash (s : State) (i : Nat) (r : Option Rec) : (s.setRec i r).flash = s.flash := rfl
@[simp] theorem setRec_mem (s : State) (i : Nat) (r : Option Rec) : (s.setRec i r).mem = s.mem := rfl
@[simp] theorem setRec_boot (s : State) (i : Nat) (r : Option Rec) : (s.setRec i r).boot = s.boot := rfl
@[simp] theorem setRec_meas (s : State) (i : Nat) (r : Option Rec) : (s.setRec i r).meas = s.meas := rfl
@[simp] theorem setRec_clk (s : State) (i : Nat) (r : Option Rec) : (s.setRec i r).clk = s.clk := rfl
@[simp] theorem setRec_cu (s : State) (i : Nat) (r : Option Rec) : (s.setRec i r).cu = s.cu := rfl
@[simp] theorem setRec_pwr (s : State) (i : Nat) (r : Option Rec) : (s.setRec i r).pwr = s.pwr := rfl
@[simp] theorem setRec_res (s : State) (i : Nat) (r : Option Rec) : (s.setRec i r).res = s.res := rfl
@[simp] theorem setRec_x (s : State) (i : Nat) (r : Option Rec) : (s.setRec i r).x = s.x := rfl
@[simp] theorem setRec_queues (s : State) (i : Nat) (r : Option Rec) : (s.setRec i r).queues = s.queues := rfl
@[simp] theorem setRec_flow (s : State) (i : Nat) (r : Option Rec) : (s.setRec i r).flow = s.flow := rfl
@[simp] theorem setRec_m (s : State) (i : Nat) (r : Option Rec) : (s.setRec i r).m = s.m := rfl
@[simp] theorem setRec_st (s : State) (i : Nat) (r : Option Rec) : (s.setRec i r).st = s.st := rfl
@[simp] theorem setRec_pool (s : State) (i : Nat) (r : Option Rec) : (s.setRec i r).pool = s.pool := rfl
@[simp] theorem setRec_isle (s : State) (i : Nat) (r : Option Rec) : (s.setRec i r).isle = s.isle := rfl
@[simp] theorem setRec_carts (s : State) (i : Nat) (r : Option Rec) : (s.setRec i r).carts = s.carts := rfl
@[simp] theorem setRec_heat (s : State) (i : Nat) (r : Option Rec) : (s.setRec i r).heat = s.heat := rfl
@[simp] theorem setRec_fault (s : State) (i : Nat) (r : Option Rec) : (s.setRec i r).fault = s.fault := rfl
@[simp] theorem setRec_obs (s : State) (i : Nat) (r : Option Rec) : (s.setRec i r).obs = s.obs := rfl
@[simp] theorem setRec_dbg (s : State) (i : Nat) (r : Option Rec) : (s.setRec i r).dbg = s.dbg := rfl

/-! ### setTag -/

@[simp] theorem setTag_pending (s : State) (t : Nat) (v : LTag) : (s.setTag t v).pending = s.pending := rfl
@[simp] theorem setTag_out (s : State) (t : Nat) (v : LTag) : (s.setTag t v).out = s.out := rfl
@[simp] theorem setTag_free (s : State) (t : Nat) (v : LTag) : (s.setTag t v).free = s.free := rfl
@[simp] theorem setTag_dev (s : State) (t : Nat) (v : LTag) : (s.setTag t v).dev = s.dev := rfl
@[simp] theorem setTag_objs (s : State) (t : Nat) (v : LTag) : (s.setTag t v).objs = s.objs := rfl
@[simp] theorem setTag_flash (s : State) (t : Nat) (v : LTag) : (s.setTag t v).flash = s.flash := rfl
@[simp] theorem setTag_mem (s : State) (t : Nat) (v : LTag) : (s.setTag t v).mem = s.mem := rfl
@[simp] theorem setTag_boot (s : State) (t : Nat) (v : LTag) : (s.setTag t v).boot = s.boot := rfl
@[simp] theorem setTag_meas (s : State) (t : Nat) (v : LTag) : (s.setTag t v).meas = s.meas := rfl
@[simp] theorem setTag_clk (s : State) (t : Nat) (v : LTag) : (s.setTag t v).clk = s.clk := rfl
@[simp] theorem setTag_cu (s : State) (t : Nat) (v : LTag) : (s.setTag t v).cu = s.cu := rfl
@[simp] theorem setTag_pwr (s : State) (t : Nat) (v : LTag) : (s.setTag t v).pwr = s.pwr := rfl
@[simp] theorem setTag_res (s : State) (t : Nat) (v : LTag) : (s.setTag t v).res = s.res := rfl
@[simp] theorem setTag_x (s : State) (t : Nat) (v : LTag) : (s.setTag t v).x = s.x := rfl
@[simp] theorem setTag_queues (s : State) (t : Nat) (v : LTag) : (s.setTag t v).queues = s.queues := rfl
@[simp] theorem setTag_t1 (s : State) (t : Nat) (v : LTag) : (s.setTag t v).t1 = s.t1 := rfl
@[simp] theorem setTag_m (s : State) (t : Nat) (v : LTag) : (s.setTag t v).m = s.m := rfl
@[simp] theorem setTag_st (s : State) (t : Nat) (v : LTag) : (s.setTag t v).st = s.st := rfl
@[simp] theorem setTag_pool (s : State) (t : Nat) (v : LTag) : (s.setTag t v).pool = s.pool := rfl
@[simp] theorem setTag_isle (s : State) (t : Nat) (v : LTag) : (s.setTag t v).isle = s.isle := rfl
@[simp] theorem setTag_carts (s : State) (t : Nat) (v : LTag) : (s.setTag t v).carts = s.carts := rfl
@[simp] theorem setTag_heat (s : State) (t : Nat) (v : LTag) : (s.setTag t v).heat = s.heat := rfl
@[simp] theorem setTag_fault (s : State) (t : Nat) (v : LTag) : (s.setTag t v).fault = s.fault := rfl
@[simp] theorem setTag_obs (s : State) (t : Nat) (v : LTag) : (s.setTag t v).obs = s.obs := rfl
@[simp] theorem setTag_dbg (s : State) (t : Nat) (v : LTag) : (s.setTag t v).dbg = s.dbg := rfl

/-! ### setTrie -/

@[simp] theorem setTrie_pending (s : State) (target i v : Nat) : (s.setTrie target i v).pending = s.pending := by
  unfold State.setTrie; split <;> rfl
@[simp] theorem setTrie_out (s : State) (target i v : Nat) : (s.setTrie target i v).out = s.out := by
  unfold State.setTrie; split <;> rfl
@[simp] theorem setTrie_free (s : State) (target i v : Nat) : (s.setTrie target i v).free = s.free := by
  unfold State.setTrie; split <;> rfl
@[simp] theorem setTrie_dev (s : State) (target i v : Nat) : (s.setTrie target i v).dev = s.dev := by
  unfold State.setTrie; split <;> rfl
@[simp] theorem setTrie_objs (s : State) (target i v : Nat) : (s.setTrie target i v).objs = s.objs := by
  unfold State.setTrie; split <;> rfl
@[simp] theorem setTrie_flash (s : State) (target i v : Nat) : (s.setTrie target i v).flash = s.flash := by
  unfold State.setTrie; split <;> rfl
@[simp] theorem setTrie_mem (s : State) (target i v : Nat) : (s.setTrie target i v).mem = s.mem := by
  unfold State.setTrie; split <;> rfl
@[simp] theorem setTrie_boot (s : State) (target i v : Nat) : (s.setTrie target i v).boot = s.boot := by
  unfold State.setTrie; split <;> rfl
@[simp] theorem setTrie_meas (s : State) (target i v : Nat) : (s.setTrie target i v).meas = s.meas := by
  unfold State.setTrie; split <;> rfl
@[simp] theorem setTrie_clk (s : State) (target i v : Nat) : (s.setTrie target i v).clk = s.clk := by
  unfold State.setTrie; split <;> rfl
@[simp] theorem setTrie_cu (s : State) (target i v : Nat) : (s.setTrie target i v).cu = s.cu := by
  unfold State.setTrie; split <;> rfl
@[simp] theorem setTrie_pwr (s : State) (target i v : Nat) : (s.setTrie target i v).pwr = s.pwr := by
  unfold State.setTrie; split <;> rfl
@[simp] theorem setTrie_res (s : State) (target i v : Nat) : (s.setTrie target i v).res = s.res := by
  unfold State.setTrie; split <;> rfl
@[simp] theorem setTrie_x (s : State) (target i v : Nat) : (s.setTrie target i v).x = s.x := by
  unfold State.setTrie; split <;> rfl
@[simp] theorem setTrie_queues (s : State) (target i v : Nat) : (s.setTrie target i v).queues = s.queues := by
  unfold State.setTrie; split <;> rfl
@[simp] theorem setTrie_t1 (s : State) (target i v : Nat) : (s.setTrie target i v).t1 = s.t1 := by
  unfold State.setTrie; split <;> rfl
@[simp] theorem setTrie_m (s : State) (target i v : Nat) : (s.setTrie target i v).m = s.m := by
  unfold State.setTrie; split <;> rfl
@[simp] theorem setTrie_st (s : State) (target i v : Nat) : (s.setTrie target i v).st = s.st := by
  unfold State.setTrie; split <;> rfl
@[simp] theorem setTrie_pool (s : State) (target i v : Nat) : (s.setTrie target i v).pool = s.pool := by
  unfold State.setTrie; split <;> rfl
@[simp] theorem setTrie_isle (s : State) (target i v : Nat) : (s.setTrie target i v).isle = s.isle := by
  unfold State.setTrie; split <;> rfl
@[simp] theorem setTrie_carts (s : State) (target i v : Nat) : (s.setTrie target i v).carts = s.carts := by
  unfold State.setTrie; split <;> rfl
@[simp] theorem setTrie_heat (s : State) (target i v : Nat) : (s.setTrie target i v).heat = s.heat := by
  unfold State.setTrie; split <;> rfl
@[simp] theorem setTrie_fault (s : State) (target i v : Nat) : (s.setTrie target i v).fault = s.fault := by
  unfold State.setTrie; split <;> rfl
@[simp] theorem setTrie_obs (s : State) (target i v : Nat) : (s.setTrie target i v).obs = s.obs := by
  unfold State.setTrie; split <;> rfl
@[simp] theorem setTrie_dbg (s : State) (target i v : Nat) : (s.setTrie target i v).dbg = s.dbg := by
  unfold State.setTrie; split <;> rfl

/-! ### setRing -/

@[simp] theorem setRing_pending (s : State) (k : Nat) (v : Ring) : (s.setRing k v).pending = s.pending := rfl
@[simp] theorem setRing_out (s : State) (k : Nat) (v : Ring) : (s.setRing k v).out = s.out := rfl
@[simp] theorem setRing_free (s : State) (k : Nat) (v : Ring) : (s.setRing k v).free = s.free := rfl
@[simp] theorem setRing_dev (s : State) (k : Nat) (v : Ring) : (s.setRing k v).dev = s.dev := rfl
@[simp] theorem setRing_objs (s : State) (k : Nat) (v : Ring) : (s.setRing k v).objs = s.objs := rfl
@[simp] theorem setRing_flash (s : State) (k : Nat) (v : Ring) : (s.setRing k v).flash = s.flash := rfl
@[simp] theorem setRing_mem (s : State) (k : Nat) (v : Ring) : (s.setRing k v).mem = s.mem := rfl
@[simp] theorem setRing_boot (s : State) (k : Nat) (v : Ring) : (s.setRing k v).boot = s.boot := rfl
@[simp] theorem setRing_meas (s : State) (k : Nat) (v : Ring) : (s.setRing k v).meas = s.meas := rfl
@[simp] theorem setRing_clk (s : State) (k : Nat) (v : Ring) : (s.setRing k v).clk = s.clk := rfl
@[simp] theorem setRing_cu (s : State) (k : Nat) (v : Ring) : (s.setRing k v).cu = s.cu := rfl
@[simp] theorem setRing_pwr (s : State) (k : Nat) (v : Ring) : (s.setRing k v).pwr = s.pwr := rfl
@[simp] theorem setRing_res (s : State) (k : Nat) (v : Ring) : (s.setRing k v).res = s.res := rfl
@[simp] theorem setRing_x (s : State) (k : Nat) (v : Ring) : (s.setRing k v).x = s.x := rfl
@[simp] theorem setRing_queues (s : State) (k : Nat) (v : Ring) : (s.setRing k v).queues = s.queues := rfl
@[simp] theorem setRing_t1 (s : State) (k : Nat) (v : Ring) : (s.setRing k v).t1 = s.t1 := rfl
@[simp] theorem setRing_m (s : State) (k : Nat) (v : Ring) : (s.setRing k v).m = s.m := rfl
@[simp] theorem setRing_st (s : State) (k : Nat) (v : Ring) : (s.setRing k v).st = s.st := rfl
@[simp] theorem setRing_pool (s : State) (k : Nat) (v : Ring) : (s.setRing k v).pool = s.pool := rfl
@[simp] theorem setRing_isle (s : State) (k : Nat) (v : Ring) : (s.setRing k v).isle = s.isle := rfl
@[simp] theorem setRing_carts (s : State) (k : Nat) (v : Ring) : (s.setRing k v).carts = s.carts := rfl
@[simp] theorem setRing_heat (s : State) (k : Nat) (v : Ring) : (s.setRing k v).heat = s.heat := rfl
@[simp] theorem setRing_fault (s : State) (k : Nat) (v : Ring) : (s.setRing k v).fault = s.fault := rfl
@[simp] theorem setRing_obs (s : State) (k : Nat) (v : Ring) : (s.setRing k v).obs = s.obs := rfl
@[simp] theorem setRing_dbg (s : State) (k : Nat) (v : Ring) : (s.setRing k v).dbg = s.dbg := rfl

/-! ### setBRing -/

@[simp] theorem setBRing_pending (s : State) (fn : Nat) (v : Ring) : (s.setBRing fn v).pending = s.pending := rfl
@[simp] theorem setBRing_out (s : State) (fn : Nat) (v : Ring) : (s.setBRing fn v).out = s.out := rfl
@[simp] theorem setBRing_free (s : State) (fn : Nat) (v : Ring) : (s.setBRing fn v).free = s.free := rfl
@[simp] theorem setBRing_dev (s : State) (fn : Nat) (v : Ring) : (s.setBRing fn v).dev = s.dev := rfl
@[simp] theorem setBRing_objs (s : State) (fn : Nat) (v : Ring) : (s.setBRing fn v).objs = s.objs := rfl
@[simp] theorem setBRing_flash (s : State) (fn : Nat) (v : Ring) : (s.setBRing fn v).flash = s.flash := rfl
@[simp] theorem setBRing_mem (s : State) (fn : Nat) (v : Ring) : (s.setBRing fn v).mem = s.mem := rfl
@[simp] theorem setBRing_boot (s : State) (fn : Nat) (v : Ring) : (s.setBRing fn v).boot = s.boot := rfl
@[simp] theorem setBRing_meas (s : State) (fn : Nat) (v : Ring) : (s.setBRing fn v).meas = s.meas := rfl
@[simp] theorem setBRing_clk (s : State) (fn : Nat) (v : Ring) : (s.setBRing fn v).clk = s.clk := rfl
@[simp] theorem setBRing_cu (s : State) (fn : Nat) (v : Ring) : (s.setBRing fn v).cu = s.cu := rfl
@[simp] theorem setBRing_pwr (s : State) (fn : Nat) (v : Ring) : (s.setBRing fn v).pwr = s.pwr := rfl
@[simp] theorem setBRing_res (s : State) (fn : Nat) (v : Ring) : (s.setBRing fn v).res = s.res := rfl
@[simp] theorem setBRing_x (s : State) (fn : Nat) (v : Ring) : (s.setBRing fn v).x = s.x := rfl
@[simp] theorem setBRing_queues (s : State) (fn : Nat) (v : Ring) : (s.setBRing fn v).queues = s.queues := rfl
@[simp] theorem setBRing_t1 (s : State) (fn : Nat) (v : Ring) : (s.setBRing fn v).t1 = s.t1 := rfl
@[simp] theorem setBRing_m (s : State) (fn : Nat) (v : Ring) : (s.setBRing fn v).m = s.m := rfl
@[simp] theorem setBRing_st (s : State) (fn : Nat) (v : Ring) : (s.setBRing fn v).st = s.st := rfl
@[simp] theorem setBRing_pool (s : State) (fn : Nat) (v : Ring) : (s.setBRing fn v).pool = s.pool := rfl
@[simp] theorem setBRing_isle (s : State) (fn : Nat) (v : Ring) : (s.setBRing fn v).isle = s.isle := rfl
@[simp] theorem setBRing_carts (s : State) (fn : Nat) (v : Ring) : (s.setBRing fn v).carts = s.carts := rfl
@[simp] theorem setBRing_heat (s : State) (fn : Nat) (v : Ring) : (s.setBRing fn v).heat = s.heat := rfl
@[simp] theorem setBRing_fault (s : State) (fn : Nat) (v : Ring) : (s.setBRing fn v).fault = s.fault := rfl
@[simp] theorem setBRing_obs (s : State) (fn : Nat) (v : Ring) : (s.setBRing fn v).obs = s.obs := rfl
@[simp] theorem setBRing_dbg (s : State) (fn : Nat) (v : Ring) : (s.setBRing fn v).dbg = s.dbg := rfl

/-! ### setCRing -/

@[simp] theorem setCRing_pending (s : State) (k : Nat) (v : CRing) : (s.setCRing k v).pending = s.pending := rfl
@[simp] theorem setCRing_out (s : State) (k : Nat) (v : CRing) : (s.setCRing k v).out = s.out := rfl
@[simp] theorem setCRing_free (s : State) (k : Nat) (v : CRing) : (s.setCRing k v).free = s.free := rfl
@[simp] theorem setCRing_dev (s : State) (k : Nat) (v : CRing) : (s.setCRing k v).dev = s.dev := rfl
@[simp] theorem setCRing_objs (s : State) (k : Nat) (v : CRing) : (s.setCRing k v).objs = s.objs := rfl
@[simp] theorem setCRing_flash (s : State) (k : Nat) (v : CRing) : (s.setCRing k v).flash = s.flash := rfl
@[simp] theorem setCRing_mem (s : State) (k : Nat) (v : CRing) : (s.setCRing k v).mem = s.mem := rfl
@[simp] theorem setCRing_boot (s : State) (k : Nat) (v : CRing) : (s.setCRing k v).boot = s.boot := rfl
@[simp] theorem setCRing_meas (s : State) (k : Nat) (v : CRing) : (s.setCRing k v).meas = s.meas := rfl
@[simp] theorem setCRing_clk (s : State) (k : Nat) (v : CRing) : (s.setCRing k v).clk = s.clk := rfl
@[simp] theorem setCRing_cu (s : State) (k : Nat) (v : CRing) : (s.setCRing k v).cu = s.cu := rfl
@[simp] theorem setCRing_pwr (s : State) (k : Nat) (v : CRing) : (s.setCRing k v).pwr = s.pwr := rfl
@[simp] theorem setCRing_res (s : State) (k : Nat) (v : CRing) : (s.setCRing k v).res = s.res := rfl
@[simp] theorem setCRing_x (s : State) (k : Nat) (v : CRing) : (s.setCRing k v).x = s.x := rfl
@[simp] theorem setCRing_queues (s : State) (k : Nat) (v : CRing) : (s.setCRing k v).queues = s.queues := rfl
@[simp] theorem setCRing_t1 (s : State) (k : Nat) (v : CRing) : (s.setCRing k v).t1 = s.t1 := rfl
@[simp] theorem setCRing_m (s : State) (k : Nat) (v : CRing) : (s.setCRing k v).m = s.m := rfl
@[simp] theorem setCRing_st (s : State) (k : Nat) (v : CRing) : (s.setCRing k v).st = s.st := rfl
@[simp] theorem setCRing_pool (s : State) (k : Nat) (v : CRing) : (s.setCRing k v).pool = s.pool := rfl
@[simp] theorem setCRing_isle (s : State) (k : Nat) (v : CRing) : (s.setCRing k v).isle = s.isle := rfl
@[simp] theorem setCRing_carts (s : State) (k : Nat) (v : CRing) : (s.setCRing k v).carts = s.carts := rfl
@[simp] theorem setCRing_heat (s : State) (k : Nat) (v : CRing) : (s.setCRing k v).heat = s.heat := rfl
@[simp] theorem setCRing_fault (s : State) (k : Nat) (v : CRing) : (s.setCRing k v).fault = s.fault := rfl
@[simp] theorem setCRing_obs (s : State) (k : Nat) (v : CRing) : (s.setCRing k v).obs = s.obs := rfl
@[simp] theorem setCRing_dbg (s : State) (k : Nat) (v : CRing) : (s.setCRing k v).dbg = s.dbg := rfl

/-! ### setSensor -/

@[simp] theorem setSensor_pending (s : State) (n : Nat) (v : Sensor) : (s.setSensor n v).pending = s.pending := rfl
@[simp] theorem setSensor_out (s : State) (n : Nat) (v : Sensor) : (s.setSensor n v).out = s.out := rfl
@[simp] theorem setSensor_free (s : State) (n : Nat) (v : Sensor) : (s.setSensor n v).free = s.free := rfl
@[simp] theorem setSensor_dev (s : State) (n : Nat) (v : Sensor) : (s.setSensor n v).dev = s.dev := rfl
@[simp] theorem setSensor_objs (s : State) (n : Nat) (v : Sensor) : (s.setSensor n v).objs = s.objs := rfl
@[simp] theorem setSensor_flash (s : State) (n : Nat) (v : Sensor) : (s.setSensor n v).flash = s.flash := rfl
@[simp] theorem setSensor_mem (s : State) (n : Nat) (v : Sensor) : (s.setSensor n v).mem = s.mem := rfl
@[simp] theorem setSensor_boot (s : State) (n : Nat) (v : Sensor) : (s.setSensor n v).boot = s.boot := rfl
@[simp] theorem setSensor_meas (s : State) (n : Nat) (v : Sensor) : (s.setSensor n v).meas = s.meas := rfl
@[simp] theorem setSensor_clk (s : State) (n : Nat) (v : Sensor) : (s.setSensor n v).clk = s.clk := rfl
@[simp] theorem setSensor_cu (s : State) (n : Nat) (v : Sensor) : (s.setSensor n v).cu = s.cu := rfl
@[simp] theorem setSensor_pwr (s : State) (n : Nat) (v : Sensor) : (s.setSensor n v).pwr = s.pwr := rfl
@[simp] theorem setSensor_res (s : State) (n : Nat) (v : Sensor) : (s.setSensor n v).res = s.res := rfl
@[simp] theorem setSensor_x (s : State) (n : Nat) (v : Sensor) : (s.setSensor n v).x = s.x := rfl
@[simp] theorem setSensor_queues (s : State) (n : Nat) (v : Sensor) : (s.setSensor n v).queues = s.queues := rfl
@[simp] theorem setSensor_flow (s : State) (n : Nat) (v : Sensor) : (s.setSensor n v).flow = s.flow := rfl
@[simp] theorem setSensor_t1 (s : State) (n : Nat) (v : Sensor) : (s.setSensor n v).t1 = s.t1 := rfl
@[simp] theorem setSensor_m (s : State) (n : Nat) (v : Sensor) : (s.setSensor n v).m = s.m := rfl
@[simp] theorem setSensor_st (s : State) (n : Nat) (v : Sensor) : (s.setSensor n v).st = s.st := rfl
@[simp] theorem setSensor_pool (s : State) (n : Nat) (v : Sensor) : (s.setSensor n v).pool = s.pool := rfl
@[simp] theorem setSensor_isle (s : State) (n : Nat) (v : Sensor) : (s.setSensor n v).isle = s.isle := rfl
@[simp] theorem setSensor_carts (s : State) (n : Nat) (v : Sensor) : (s.setSensor n v).carts = s.carts := rfl
@[simp] theorem setSensor_fault (s : State) (n : Nat) (v : Sensor) : (s.setSensor n v).fault = s.fault := rfl
@[simp] theorem setSensor_obs (s : State) (n : Nat) (v : Sensor) : (s.setSensor n v).obs = s.obs := rfl
@[simp] theorem setSensor_dbg (s : State) (n : Nat) (v : Sensor) : (s.setSensor n v).dbg = s.dbg := rfl

/-! ### setDuty -/

@[simp] theorem setDuty_pending (s : State) (q v : Nat) : (s.setDuty q v).pending = s.pending := rfl
@[simp] theorem setDuty_out (s : State) (q v : Nat) : (s.setDuty q v).out = s.out := rfl
@[simp] theorem setDuty_free (s : State) (q v : Nat) : (s.setDuty q v).free = s.free := rfl
@[simp] theorem setDuty_dev (s : State) (q v : Nat) : (s.setDuty q v).dev = s.dev := rfl
@[simp] theorem setDuty_objs (s : State) (q v : Nat) : (s.setDuty q v).objs = s.objs := rfl
@[simp] theorem setDuty_flash (s : State) (q v : Nat) : (s.setDuty q v).flash = s.flash := rfl
@[simp] theorem setDuty_mem (s : State) (q v : Nat) : (s.setDuty q v).mem = s.mem := rfl
@[simp] theorem setDuty_boot (s : State) (q v : Nat) : (s.setDuty q v).boot = s.boot := rfl
@[simp] theorem setDuty_meas (s : State) (q v : Nat) : (s.setDuty q v).meas = s.meas := rfl
@[simp] theorem setDuty_clk (s : State) (q v : Nat) : (s.setDuty q v).clk = s.clk := rfl
@[simp] theorem setDuty_cu (s : State) (q v : Nat) : (s.setDuty q v).cu = s.cu := rfl
@[simp] theorem setDuty_pwr (s : State) (q v : Nat) : (s.setDuty q v).pwr = s.pwr := rfl
@[simp] theorem setDuty_res (s : State) (q v : Nat) : (s.setDuty q v).res = s.res := rfl
@[simp] theorem setDuty_x (s : State) (q v : Nat) : (s.setDuty q v).x = s.x := rfl
@[simp] theorem setDuty_queues (s : State) (q v : Nat) : (s.setDuty q v).queues = s.queues := rfl
@[simp] theorem setDuty_flow (s : State) (q v : Nat) : (s.setDuty q v).flow = s.flow := rfl
@[simp] theorem setDuty_t1 (s : State) (q v : Nat) : (s.setDuty q v).t1 = s.t1 := rfl
@[simp] theorem setDuty_m (s : State) (q v : Nat) : (s.setDuty q v).m = s.m := rfl
@[simp] theorem setDuty_st (s : State) (q v : Nat) : (s.setDuty q v).st = s.st := rfl
@[simp] theorem setDuty_pool (s : State) (q v : Nat) : (s.setDuty q v).pool = s.pool := rfl
@[simp] theorem setDuty_isle (s : State) (q v : Nat) : (s.setDuty q v).isle = s.isle := rfl
@[simp] theorem setDuty_carts (s : State) (q v : Nat) : (s.setDuty q v).carts = s.carts := rfl
@[simp] theorem setDuty_fault (s : State) (q v : Nat) : (s.setDuty q v).fault = s.fault := rfl
@[simp] theorem setDuty_obs (s : State) (q v : Nat) : (s.setDuty q v).obs = s.obs := rfl
@[simp] theorem setDuty_dbg (s : State) (q v : Nat) : (s.setDuty q v).dbg = s.dbg := rfl

/-! ### setCore -/

@[simp] theorem setCore_pending (s : State) (c : Nat) (k : Core) : (s.setCore c k).pending = s.pending := rfl
@[simp] theorem setCore_out (s : State) (c : Nat) (k : Core) : (s.setCore c k).out = s.out := rfl
@[simp] theorem setCore_free (s : State) (c : Nat) (k : Core) : (s.setCore c k).free = s.free := rfl
@[simp] theorem setCore_dev (s : State) (c : Nat) (k : Core) : (s.setCore c k).dev = s.dev := rfl
@[simp] theorem setCore_objs (s : State) (c : Nat) (k : Core) : (s.setCore c k).objs = s.objs := rfl
@[simp] theorem setCore_flash (s : State) (c : Nat) (k : Core) : (s.setCore c k).flash = s.flash := rfl
@[simp] theorem setCore_mem (s : State) (c : Nat) (k : Core) : (s.setCore c k).mem = s.mem := rfl
@[simp] theorem setCore_boot (s : State) (c : Nat) (k : Core) : (s.setCore c k).boot = s.boot := rfl
@[simp] theorem setCore_meas (s : State) (c : Nat) (k : Core) : (s.setCore c k).meas = s.meas := rfl
@[simp] theorem setCore_clk (s : State) (c : Nat) (k : Core) : (s.setCore c k).clk = s.clk := rfl
@[simp] theorem setCore_cu (s : State) (c : Nat) (k : Core) : (s.setCore c k).cu = s.cu := rfl
@[simp] theorem setCore_pwr (s : State) (c : Nat) (k : Core) : (s.setCore c k).pwr = s.pwr := rfl
@[simp] theorem setCore_res (s : State) (c : Nat) (k : Core) : (s.setCore c k).res = s.res := rfl
@[simp] theorem setCore_x (s : State) (c : Nat) (k : Core) : (s.setCore c k).x = s.x := rfl
@[simp] theorem setCore_queues (s : State) (c : Nat) (k : Core) : (s.setCore c k).queues = s.queues := rfl
@[simp] theorem setCore_flow (s : State) (c : Nat) (k : Core) : (s.setCore c k).flow = s.flow := rfl
@[simp] theorem setCore_t1 (s : State) (c : Nat) (k : Core) : (s.setCore c k).t1 = s.t1 := rfl
@[simp] theorem setCore_m (s : State) (c : Nat) (k : Core) : (s.setCore c k).m = s.m := rfl
@[simp] theorem setCore_st (s : State) (c : Nat) (k : Core) : (s.setCore c k).st = s.st := rfl
@[simp] theorem setCore_pool (s : State) (c : Nat) (k : Core) : (s.setCore c k).pool = s.pool := rfl
@[simp] theorem setCore_carts (s : State) (c : Nat) (k : Core) : (s.setCore c k).carts = s.carts := rfl
@[simp] theorem setCore_heat (s : State) (c : Nat) (k : Core) : (s.setCore c k).heat = s.heat := rfl
@[simp] theorem setCore_fault (s : State) (c : Nat) (k : Core) : (s.setCore c k).fault = s.fault := rfl
@[simp] theorem setCore_obs (s : State) (c : Nat) (k : Core) : (s.setCore c k).obs = s.obs := rfl
@[simp] theorem setCore_dbg (s : State) (c : Nat) (k : Core) : (s.setCore c k).dbg = s.dbg := rfl

/-! ### setMarr -/

@[simp] theorem setMarr_pending (s : State) (i : Nat) (a : MArr) : (s.setMarr i a).pending = s.pending := rfl
@[simp] theorem setMarr_out (s : State) (i : Nat) (a : MArr) : (s.setMarr i a).out = s.out := rfl
@[simp] theorem setMarr_free (s : State) (i : Nat) (a : MArr) : (s.setMarr i a).free = s.free := rfl
@[simp] theorem setMarr_dev (s : State) (i : Nat) (a : MArr) : (s.setMarr i a).dev = s.dev := rfl
@[simp] theorem setMarr_objs (s : State) (i : Nat) (a : MArr) : (s.setMarr i a).objs = s.objs := rfl
@[simp] theorem setMarr_flash (s : State) (i : Nat) (a : MArr) : (s.setMarr i a).flash = s.flash := rfl
@[simp] theorem setMarr_mem (s : State) (i : Nat) (a : MArr) : (s.setMarr i a).mem = s.mem := rfl
@[simp] theorem setMarr_boot (s : State) (i : Nat) (a : MArr) : (s.setMarr i a).boot = s.boot := rfl
@[simp] theorem setMarr_meas (s : State) (i : Nat) (a : MArr) : (s.setMarr i a).meas = s.meas := rfl
@[simp] theorem setMarr_clk (s : State) (i : Nat) (a : MArr) : (s.setMarr i a).clk = s.clk := rfl
@[simp] theorem setMarr_cu (s : State) (i : Nat) (a : MArr) : (s.setMarr i a).cu = s.cu := rfl
@[simp] theorem setMarr_pwr (s : State) (i : Nat) (a : MArr) : (s.setMarr i a).pwr = s.pwr := rfl
@[simp] theorem setMarr_res (s : State) (i : Nat) (a : MArr) : (s.setMarr i a).res = s.res := rfl
@[simp] theorem setMarr_x (s : State) (i : Nat) (a : MArr) : (s.setMarr i a).x = s.x := rfl
@[simp] theorem setMarr_queues (s : State) (i : Nat) (a : MArr) : (s.setMarr i a).queues = s.queues := rfl
@[simp] theorem setMarr_flow (s : State) (i : Nat) (a : MArr) : (s.setMarr i a).flow = s.flow := rfl
@[simp] theorem setMarr_t1 (s : State) (i : Nat) (a : MArr) : (s.setMarr i a).t1 = s.t1 := rfl
@[simp] theorem setMarr_m (s : State) (i : Nat) (a : MArr) : (s.setMarr i a).m = s.m := rfl
@[simp] theorem setMarr_st (s : State) (i : Nat) (a : MArr) : (s.setMarr i a).st = s.st := rfl
@[simp] theorem setMarr_pool (s : State) (i : Nat) (a : MArr) : (s.setMarr i a).pool = s.pool := rfl
@[simp] theorem setMarr_carts (s : State) (i : Nat) (a : MArr) : (s.setMarr i a).carts = s.carts := rfl
@[simp] theorem setMarr_heat (s : State) (i : Nat) (a : MArr) : (s.setMarr i a).heat = s.heat := rfl
@[simp] theorem setMarr_fault (s : State) (i : Nat) (a : MArr) : (s.setMarr i a).fault = s.fault := rfl
@[simp] theorem setMarr_obs (s : State) (i : Nat) (a : MArr) : (s.setMarr i a).obs = s.obs := rfl
@[simp] theorem setMarr_dbg (s : State) (i : Nat) (a : MArr) : (s.setMarr i a).dbg = s.dbg := rfl

/-! ### setSched -/

@[simp] theorem setSched_pending (s : State) (n : Nat) (v : Sched) : (s.setSched n v).pending = s.pending := rfl
@[simp] theorem setSched_out (s : State) (n : Nat) (v : Sched) : (s.setSched n v).out = s.out := rfl
@[simp] theorem setSched_free (s : State) (n : Nat) (v : Sched) : (s.setSched n v).free = s.free := rfl
@[simp] theorem setSched_dev (s : State) (n : Nat) (v : Sched) : (s.setSched n v).dev = s.dev := rfl
@[simp] theorem setSched_objs (s : State) (n : Nat) (v : Sched) : (s.setSched n v).objs = s.objs := rfl
@[simp] theorem setSched_flash (s : State) (n : Nat) (v : Sched) : (s.setSched n v).flash = s.flash := rfl
@[simp] theorem setSched_mem (s : State) (n : Nat) (v : Sched) : (s.setSched n v).mem = s.mem := rfl
@[simp] theorem setSched_boot (s : State) (n : Nat) (v : Sched) : (s.setSched n v).boot = s.boot := rfl
@[simp] theorem setSched_meas (s : State) (n : Nat) (v : Sched) : (s.setSched n v).meas = s.meas := rfl
@[simp] theorem setSched_clk (s : State) (n : Nat) (v : Sched) : (s.setSched n v).clk = s.clk := rfl
@[simp] theorem setSched_cu (s : State) (n : Nat) (v : Sched) : (s.setSched n v).cu = s.cu := rfl
@[simp] theorem setSched_pwr (s : State) (n : Nat) (v : Sched) : (s.setSched n v).pwr = s.pwr := rfl
@[simp] theorem setSched_res (s : State) (n : Nat) (v : Sched) : (s.setSched n v).res = s.res := rfl
@[simp] theorem setSched_x (s : State) (n : Nat) (v : Sched) : (s.setSched n v).x = s.x := rfl
@[simp] theorem setSched_queues (s : State) (n : Nat) (v : Sched) : (s.setSched n v).queues = s.queues := rfl
@[simp] theorem setSched_flow (s : State) (n : Nat) (v : Sched) : (s.setSched n v).flow = s.flow := rfl
@[simp] theorem setSched_t1 (s : State) (n : Nat) (v : Sched) : (s.setSched n v).t1 = s.t1 := rfl
@[simp] theorem setSched_m (s : State) (n : Nat) (v : Sched) : (s.setSched n v).m = s.m := rfl
@[simp] theorem setSched_st (s : State) (n : Nat) (v : Sched) : (s.setSched n v).st = s.st := rfl
@[simp] theorem setSched_pool (s : State) (n : Nat) (v : Sched) : (s.setSched n v).pool = s.pool := rfl
@[simp] theorem setSched_carts (s : State) (n : Nat) (v : Sched) : (s.setSched n v).carts = s.carts := rfl
@[simp] theorem setSched_heat (s : State) (n : Nat) (v : Sched) : (s.setSched n v).heat = s.heat := rfl
@[simp] theorem setSched_fault (s : State) (n : Nat) (v : Sched) : (s.setSched n v).fault = s.fault := rfl
@[simp] theorem setSched_obs (s : State) (n : Nat) (v : Sched) : (s.setSched n v).obs = s.obs := rfl
@[simp] theorem setSched_dbg (s : State) (n : Nat) (v : Sched) : (s.setSched n v).dbg = s.dbg := rfl

/-! ### setCredit -/

@[simp] theorem setCredit_pending (s : State) (d w v : Nat) : (s.setCredit d w v).pending = s.pending := rfl
@[simp] theorem setCredit_out (s : State) (d w v : Nat) : (s.setCredit d w v).out = s.out := rfl
@[simp] theorem setCredit_free (s : State) (d w v : Nat) : (s.setCredit d w v).free = s.free := rfl
@[simp] theorem setCredit_dev (s : State) (d w v : Nat) : (s.setCredit d w v).dev = s.dev := rfl
@[simp] theorem setCredit_objs (s : State) (d w v : Nat) : (s.setCredit d w v).objs = s.objs := rfl
@[simp] theorem setCredit_flash (s : State) (d w v : Nat) : (s.setCredit d w v).flash = s.flash := rfl
@[simp] theorem setCredit_mem (s : State) (d w v : Nat) : (s.setCredit d w v).mem = s.mem := rfl
@[simp] theorem setCredit_boot (s : State) (d w v : Nat) : (s.setCredit d w v).boot = s.boot := rfl
@[simp] theorem setCredit_meas (s : State) (d w v : Nat) : (s.setCredit d w v).meas = s.meas := rfl
@[simp] theorem setCredit_clk (s : State) (d w v : Nat) : (s.setCredit d w v).clk = s.clk := rfl
@[simp] theorem setCredit_cu (s : State) (d w v : Nat) : (s.setCredit d w v).cu = s.cu := rfl
@[simp] theorem setCredit_pwr (s : State) (d w v : Nat) : (s.setCredit d w v).pwr = s.pwr := rfl
@[simp] theorem setCredit_res (s : State) (d w v : Nat) : (s.setCredit d w v).res = s.res := rfl
@[simp] theorem setCredit_x (s : State) (d w v : Nat) : (s.setCredit d w v).x = s.x := rfl
@[simp] theorem setCredit_queues (s : State) (d w v : Nat) : (s.setCredit d w v).queues = s.queues := rfl
@[simp] theorem setCredit_flow (s : State) (d w v : Nat) : (s.setCredit d w v).flow = s.flow := rfl
@[simp] theorem setCredit_t1 (s : State) (d w v : Nat) : (s.setCredit d w v).t1 = s.t1 := rfl
@[simp] theorem setCredit_m (s : State) (d w v : Nat) : (s.setCredit d w v).m = s.m := rfl
@[simp] theorem setCredit_st (s : State) (d w v : Nat) : (s.setCredit d w v).st = s.st := rfl
@[simp] theorem setCredit_isle (s : State) (d w v : Nat) : (s.setCredit d w v).isle = s.isle := rfl
@[simp] theorem setCredit_carts (s : State) (d w v : Nat) : (s.setCredit d w v).carts = s.carts := rfl
@[simp] theorem setCredit_heat (s : State) (d w v : Nat) : (s.setCredit d w v).heat = s.heat := rfl
@[simp] theorem setCredit_fault (s : State) (d w v : Nat) : (s.setCredit d w v).fault = s.fault := rfl
@[simp] theorem setCredit_obs (s : State) (d w v : Nat) : (s.setCredit d w v).obs = s.obs := rfl
@[simp] theorem setCredit_dbg (s : State) (d w v : Nat) : (s.setCredit d w v).dbg = s.dbg := rfl

/-! ### setSlotLock -/

@[simp] theorem setSlotLock_pending (s : State) (i : Nat) (v : Option (Nat × Nat × Option Nat)) : (s.setSlotLock i v).pending = s.pending := rfl
@[simp] theorem setSlotLock_out (s : State) (i : Nat) (v : Option (Nat × Nat × Option Nat)) : (s.setSlotLock i v).out = s.out := rfl
@[simp] theorem setSlotLock_free (s : State) (i : Nat) (v : Option (Nat × Nat × Option Nat)) : (s.setSlotLock i v).free = s.free := rfl
@[simp] theorem setSlotLock_dev (s : State) (i : Nat) (v : Option (Nat × Nat × Option Nat)) : (s.setSlotLock i v).dev = s.dev := rfl
@[simp] theorem setSlotLock_objs (s : State) (i : Nat) (v : Option (Nat × Nat × Option Nat)) : (s.setSlotLock i v).objs = s.objs := rfl
@[simp] theorem setSlotLock_flash (s : State) (i : Nat) (v : Option (Nat × Nat × Option Nat)) : (s.setSlotLock i v).flash = s.flash := rfl
@[simp] theorem setSlotLock_mem (s : State) (i : Nat) (v : Option (Nat × Nat × Option Nat)) : (s.setSlotLock i v).mem = s.mem := rfl
@[simp] theorem setSlotLock_boot (s : State) (i : Nat) (v : Option (Nat × Nat × Option Nat)) : (s.setSlotLock i v).boot = s.boot := rfl
@[simp] theorem setSlotLock_meas (s : State) (i : Nat) (v : Option (Nat × Nat × Option Nat)) : (s.setSlotLock i v).meas = s.meas := rfl
@[simp] theorem setSlotLock_clk (s : State) (i : Nat) (v : Option (Nat × Nat × Option Nat)) : (s.setSlotLock i v).clk = s.clk := rfl
@[simp] theorem setSlotLock_cu (s : State) (i : Nat) (v : Option (Nat × Nat × Option Nat)) : (s.setSlotLock i v).cu = s.cu := rfl
@[simp] theorem setSlotLock_pwr (s : State) (i : Nat) (v : Option (Nat × Nat × Option Nat)) : (s.setSlotLock i v).pwr = s.pwr := rfl
@[simp] theorem setSlotLock_res (s : State) (i : Nat) (v : Option (Nat × Nat × Option Nat)) : (s.setSlotLock i v).res = s.res := rfl
@[simp] theorem setSlotLock_x (s : State) (i : Nat) (v : Option (Nat × Nat × Option Nat)) : (s.setSlotLock i v).x = s.x := rfl
@[simp] theorem setSlotLock_queues (s : State) (i : Nat) (v : Option (Nat × Nat × Option Nat)) : (s.setSlotLock i v).queues = s.queues := rfl
@[simp] theorem setSlotLock_flow (s : State) (i : Nat) (v : Option (Nat × Nat × Option Nat)) : (s.setSlotLock i v).flow = s.flow := rfl
@[simp] theorem setSlotLock_t1 (s : State) (i : Nat) (v : Option (Nat × Nat × Option Nat)) : (s.setSlotLock i v).t1 = s.t1 := rfl
@[simp] theorem setSlotLock_m (s : State) (i : Nat) (v : Option (Nat × Nat × Option Nat)) : (s.setSlotLock i v).m = s.m := rfl
@[simp] theorem setSlotLock_st (s : State) (i : Nat) (v : Option (Nat × Nat × Option Nat)) : (s.setSlotLock i v).st = s.st := rfl
@[simp] theorem setSlotLock_isle (s : State) (i : Nat) (v : Option (Nat × Nat × Option Nat)) : (s.setSlotLock i v).isle = s.isle := rfl
@[simp] theorem setSlotLock_carts (s : State) (i : Nat) (v : Option (Nat × Nat × Option Nat)) : (s.setSlotLock i v).carts = s.carts := rfl
@[simp] theorem setSlotLock_heat (s : State) (i : Nat) (v : Option (Nat × Nat × Option Nat)) : (s.setSlotLock i v).heat = s.heat := rfl
@[simp] theorem setSlotLock_fault (s : State) (i : Nat) (v : Option (Nat × Nat × Option Nat)) : (s.setSlotLock i v).fault = s.fault := rfl
@[simp] theorem setSlotLock_obs (s : State) (i : Nat) (v : Option (Nat × Nat × Option Nat)) : (s.setSlotLock i v).obs = s.obs := rfl
@[simp] theorem setSlotLock_dbg (s : State) (i : Nat) (v : Option (Nat × Nat × Option Nat)) : (s.setSlotLock i v).dbg = s.dbg := rfl

/-! ### setPartSw -/

@[simp] theorem setPartSw_pending (s : State) (p : Nat) (v : Part) : (s.setPartSw p v).pending = s.pending := rfl
@[simp] theorem setPartSw_out (s : State) (p : Nat) (v : Part) : (s.setPartSw p v).out = s.out := rfl
@[simp] theorem setPartSw_free (s : State) (p : Nat) (v : Part) : (s.setPartSw p v).free = s.free := rfl
@[simp] theorem setPartSw_dev (s : State) (p : Nat) (v : Part) : (s.setPartSw p v).dev = s.dev := rfl
@[simp] theorem setPartSw_objs (s : State) (p : Nat) (v : Part) : (s.setPartSw p v).objs = s.objs := rfl
@[simp] theorem setPartSw_flash (s : State) (p : Nat) (v : Part) : (s.setPartSw p v).flash = s.flash := rfl
@[simp] theorem setPartSw_mem (s : State) (p : Nat) (v : Part) : (s.setPartSw p v).mem = s.mem := rfl
@[simp] theorem setPartSw_boot (s : State) (p : Nat) (v : Part) : (s.setPartSw p v).boot = s.boot := rfl
@[simp] theorem setPartSw_meas (s : State) (p : Nat) (v : Part) : (s.setPartSw p v).meas = s.meas := rfl
@[simp] theorem setPartSw_clk (s : State) (p : Nat) (v : Part) : (s.setPartSw p v).clk = s.clk := rfl
@[simp] theorem setPartSw_cu (s : State) (p : Nat) (v : Part) : (s.setPartSw p v).cu = s.cu := rfl
@[simp] theorem setPartSw_pwr (s : State) (p : Nat) (v : Part) : (s.setPartSw p v).pwr = s.pwr := rfl
@[simp] theorem setPartSw_res (s : State) (p : Nat) (v : Part) : (s.setPartSw p v).res = s.res := rfl
@[simp] theorem setPartSw_x (s : State) (p : Nat) (v : Part) : (s.setPartSw p v).x = s.x := rfl
@[simp] theorem setPartSw_queues (s : State) (p : Nat) (v : Part) : (s.setPartSw p v).queues = s.queues := rfl
@[simp] theorem setPartSw_flow (s : State) (p : Nat) (v : Part) : (s.setPartSw p v).flow = s.flow := rfl
@[simp] theorem setPartSw_t1 (s : State) (p : Nat) (v : Part) : (s.setPartSw p v).t1 = s.t1 := rfl
@[simp] theorem setPartSw_st (s : State) (p : Nat) (v : Part) : (s.setPartSw p v).st = s.st := rfl
@[simp] theorem setPartSw_pool (s : State) (p : Nat) (v : Part) : (s.setPartSw p v).pool = s.pool := rfl
@[simp] theorem setPartSw_isle (s : State) (p : Nat) (v : Part) : (s.setPartSw p v).isle = s.isle := rfl
@[simp] theorem setPartSw_carts (s : State) (p : Nat) (v : Part) : (s.setPartSw p v).carts = s.carts := rfl
@[simp] theorem setPartSw_heat (s : State) (p : Nat) (v : Part) : (s.setPartSw p v).heat = s.heat := rfl
@[simp] theorem setPartSw_fault (s : State) (p : Nat) (v : Part) : (s.setPartSw p v).fault = s.fault := rfl
@[simp] theorem setPartSw_obs (s : State) (p : Nat) (v : Part) : (s.setPartSw p v).obs = s.obs := rfl
@[simp] theorem setPartSw_dbg (s : State) (p : Nat) (v : Part) : (s.setPartSw p v).dbg = s.dbg := rfl

/-! ### setStrait -/

@[simp] theorem setStrait_pending (s : State) (i : Nat) (v : Strait) : (s.setStrait i v).pending = s.pending := rfl
@[simp] theorem setStrait_out (s : State) (i : Nat) (v : Strait) : (s.setStrait i v).out = s.out := rfl
@[simp] theorem setStrait_free (s : State) (i : Nat) (v : Strait) : (s.setStrait i v).free = s.free := rfl
@[simp] theorem setStrait_dev (s : State) (i : Nat) (v : Strait) : (s.setStrait i v).dev = s.dev := rfl
@[simp] theorem setStrait_objs (s : State) (i : Nat) (v : Strait) : (s.setStrait i v).objs = s.objs := rfl
@[simp] theorem setStrait_flash (s : State) (i : Nat) (v : Strait) : (s.setStrait i v).flash = s.flash := rfl
@[simp] theorem setStrait_mem (s : State) (i : Nat) (v : Strait) : (s.setStrait i v).mem = s.mem := rfl
@[simp] theorem setStrait_boot (s : State) (i : Nat) (v : Strait) : (s.setStrait i v).boot = s.boot := rfl
@[simp] theorem setStrait_meas (s : State) (i : Nat) (v : Strait) : (s.setStrait i v).meas = s.meas := rfl
@[simp] theorem setStrait_clk (s : State) (i : Nat) (v : Strait) : (s.setStrait i v).clk = s.clk := rfl
@[simp] theorem setStrait_cu (s : State) (i : Nat) (v : Strait) : (s.setStrait i v).cu = s.cu := rfl
@[simp] theorem setStrait_pwr (s : State) (i : Nat) (v : Strait) : (s.setStrait i v).pwr = s.pwr := rfl
@[simp] theorem setStrait_res (s : State) (i : Nat) (v : Strait) : (s.setStrait i v).res = s.res := rfl
@[simp] theorem setStrait_x (s : State) (i : Nat) (v : Strait) : (s.setStrait i v).x = s.x := rfl
@[simp] theorem setStrait_queues (s : State) (i : Nat) (v : Strait) : (s.setStrait i v).queues = s.queues := rfl
@[simp] theorem setStrait_flow (s : State) (i : Nat) (v : Strait) : (s.setStrait i v).flow = s.flow := rfl
@[simp] theorem setStrait_t1 (s : State) (i : Nat) (v : Strait) : (s.setStrait i v).t1 = s.t1 := rfl
@[simp] theorem setStrait_m (s : State) (i : Nat) (v : Strait) : (s.setStrait i v).m = s.m := rfl
@[simp] theorem setStrait_pool (s : State) (i : Nat) (v : Strait) : (s.setStrait i v).pool = s.pool := rfl
@[simp] theorem setStrait_isle (s : State) (i : Nat) (v : Strait) : (s.setStrait i v).isle = s.isle := rfl
@[simp] theorem setStrait_carts (s : State) (i : Nat) (v : Strait) : (s.setStrait i v).carts = s.carts := rfl
@[simp] theorem setStrait_heat (s : State) (i : Nat) (v : Strait) : (s.setStrait i v).heat = s.heat := rfl
@[simp] theorem setStrait_fault (s : State) (i : Nat) (v : Strait) : (s.setStrait i v).fault = s.fault := rfl
@[simp] theorem setStrait_obs (s : State) (i : Nat) (v : Strait) : (s.setStrait i v).obs = s.obs := rfl
@[simp] theorem setStrait_dbg (s : State) (i : Nat) (v : Strait) : (s.setStrait i v).dbg = s.dbg := rfl

/-! ### setPeer -/

@[simp] theorem setPeer_pending (s : State) (d : Nat) (v : Peer) : (s.setPeer d v).pending = s.pending := rfl
@[simp] theorem setPeer_out (s : State) (d : Nat) (v : Peer) : (s.setPeer d v).out = s.out := rfl
@[simp] theorem setPeer_free (s : State) (d : Nat) (v : Peer) : (s.setPeer d v).free = s.free := rfl
@[simp] theorem setPeer_dev (s : State) (d : Nat) (v : Peer) : (s.setPeer d v).dev = s.dev := rfl
@[simp] theorem setPeer_objs (s : State) (d : Nat) (v : Peer) : (s.setPeer d v).objs = s.objs := rfl
@[simp] theorem setPeer_flash (s : State) (d : Nat) (v : Peer) : (s.setPeer d v).flash = s.flash := rfl
@[simp] theorem setPeer_mem (s : State) (d : Nat) (v : Peer) : (s.setPeer d v).mem = s.mem := rfl
@[simp] theorem setPeer_boot (s : State) (d : Nat) (v : Peer) : (s.setPeer d v).boot = s.boot := rfl
@[simp] theorem setPeer_meas (s : State) (d : Nat) (v : Peer) : (s.setPeer d v).meas = s.meas := rfl
@[simp] theorem setPeer_clk (s : State) (d : Nat) (v : Peer) : (s.setPeer d v).clk = s.clk := rfl
@[simp] theorem setPeer_cu (s : State) (d : Nat) (v : Peer) : (s.setPeer d v).cu = s.cu := rfl
@[simp] theorem setPeer_pwr (s : State) (d : Nat) (v : Peer) : (s.setPeer d v).pwr = s.pwr := rfl
@[simp] theorem setPeer_res (s : State) (d : Nat) (v : Peer) : (s.setPeer d v).res = s.res := rfl
@[simp] theorem setPeer_x (s : State) (d : Nat) (v : Peer) : (s.setPeer d v).x = s.x := rfl
@[simp] theorem setPeer_queues (s : State) (d : Nat) (v : Peer) : (s.setPeer d v).queues = s.queues := rfl
@[simp] theorem setPeer_flow (s : State) (d : Nat) (v : Peer) : (s.setPeer d v).flow = s.flow := rfl
@[simp] theorem setPeer_t1 (s : State) (d : Nat) (v : Peer) : (s.setPeer d v).t1 = s.t1 := rfl
@[simp] theorem setPeer_m (s : State) (d : Nat) (v : Peer) : (s.setPeer d v).m = s.m := rfl
@[simp] theorem setPeer_st (s : State) (d : Nat) (v : Peer) : (s.setPeer d v).st = s.st := rfl
@[simp] theorem setPeer_isle (s : State) (d : Nat) (v : Peer) : (s.setPeer d v).isle = s.isle := rfl
@[simp] theorem setPeer_carts (s : State) (d : Nat) (v : Peer) : (s.setPeer d v).carts = s.carts := rfl
@[simp] theorem setPeer_heat (s : State) (d : Nat) (v : Peer) : (s.setPeer d v).heat = s.heat := rfl
@[simp] theorem setPeer_fault (s : State) (d : Nat) (v : Peer) : (s.setPeer d v).fault = s.fault := rfl
@[simp] theorem setPeer_obs (s : State) (d : Nat) (v : Peer) : (s.setPeer d v).obs = s.obs := rfl
@[simp] theorem setPeer_dbg (s : State) (d : Nat) (v : Peer) : (s.setPeer d v).dbg = s.dbg := rfl

/-! ### setLatch -/

@[simp] theorem setLatch_pending (s : State) (fn : Nat) (v : Latch) : (s.setLatch fn v).pending = s.pending := rfl
@[simp] theorem setLatch_out (s : State) (fn : Nat) (v : Latch) : (s.setLatch fn v).out = s.out := rfl
@[simp] theorem setLatch_free (s : State) (fn : Nat) (v : Latch) : (s.setLatch fn v).free = s.free := rfl
@[simp] theorem setLatch_dev (s : State) (fn : Nat) (v : Latch) : (s.setLatch fn v).dev = s.dev := rfl
@[simp] theorem setLatch_objs (s : State) (fn : Nat) (v : Latch) : (s.setLatch fn v).objs = s.objs := rfl
@[simp] theorem setLatch_flash (s : State) (fn : Nat) (v : Latch) : (s.setLatch fn v).flash = s.flash := rfl
@[simp] theorem setLatch_mem (s : State) (fn : Nat) (v : Latch) : (s.setLatch fn v).mem = s.mem := rfl
@[simp] theorem setLatch_boot (s : State) (fn : Nat) (v : Latch) : (s.setLatch fn v).boot = s.boot := rfl
@[simp] theorem setLatch_meas (s : State) (fn : Nat) (v : Latch) : (s.setLatch fn v).meas = s.meas := rfl
@[simp] theorem setLatch_clk (s : State) (fn : Nat) (v : Latch) : (s.setLatch fn v).clk = s.clk := rfl
@[simp] theorem setLatch_cu (s : State) (fn : Nat) (v : Latch) : (s.setLatch fn v).cu = s.cu := rfl
@[simp] theorem setLatch_pwr (s : State) (fn : Nat) (v : Latch) : (s.setLatch fn v).pwr = s.pwr := rfl
@[simp] theorem setLatch_res (s : State) (fn : Nat) (v : Latch) : (s.setLatch fn v).res = s.res := rfl
@[simp] theorem setLatch_x (s : State) (fn : Nat) (v : Latch) : (s.setLatch fn v).x = s.x := rfl
@[simp] theorem setLatch_queues (s : State) (fn : Nat) (v : Latch) : (s.setLatch fn v).queues = s.queues := rfl
@[simp] theorem setLatch_flow (s : State) (fn : Nat) (v : Latch) : (s.setLatch fn v).flow = s.flow := rfl
@[simp] theorem setLatch_t1 (s : State) (fn : Nat) (v : Latch) : (s.setLatch fn v).t1 = s.t1 := rfl
@[simp] theorem setLatch_m (s : State) (fn : Nat) (v : Latch) : (s.setLatch fn v).m = s.m := rfl
@[simp] theorem setLatch_st (s : State) (fn : Nat) (v : Latch) : (s.setLatch fn v).st = s.st := rfl
@[simp] theorem setLatch_pool (s : State) (fn : Nat) (v : Latch) : (s.setLatch fn v).pool = s.pool := rfl
@[simp] theorem setLatch_isle (s : State) (fn : Nat) (v : Latch) : (s.setLatch fn v).isle = s.isle := rfl
@[simp] theorem setLatch_carts (s : State) (fn : Nat) (v : Latch) : (s.setLatch fn v).carts = s.carts := rfl
@[simp] theorem setLatch_heat (s : State) (fn : Nat) (v : Latch) : (s.setLatch fn v).heat = s.heat := rfl
@[simp] theorem setLatch_fault (s : State) (fn : Nat) (v : Latch) : (s.setLatch fn v).fault = s.fault := rfl
@[simp] theorem setLatch_dbg (s : State) (fn : Nat) (v : Latch) : (s.setLatch fn v).dbg = s.dbg := rfl

/-! ### setBox -/

@[simp] theorem setBox_pending (s : State) (n : Nat) (b : MBox) : (s.setBox n b).pending = s.pending := rfl
@[simp] theorem setBox_out (s : State) (n : Nat) (b : MBox) : (s.setBox n b).out = s.out := rfl
@[simp] theorem setBox_free (s : State) (n : Nat) (b : MBox) : (s.setBox n b).free = s.free := rfl
@[simp] theorem setBox_dev (s : State) (n : Nat) (b : MBox) : (s.setBox n b).dev = s.dev := rfl
@[simp] theorem setBox_objs (s : State) (n : Nat) (b : MBox) : (s.setBox n b).objs = s.objs := rfl
@[simp] theorem setBox_flash (s : State) (n : Nat) (b : MBox) : (s.setBox n b).flash = s.flash := rfl
@[simp] theorem setBox_mem (s : State) (n : Nat) (b : MBox) : (s.setBox n b).mem = s.mem := rfl
@[simp] theorem setBox_boot (s : State) (n : Nat) (b : MBox) : (s.setBox n b).boot = s.boot := rfl
@[simp] theorem setBox_meas (s : State) (n : Nat) (b : MBox) : (s.setBox n b).meas = s.meas := rfl
@[simp] theorem setBox_clk (s : State) (n : Nat) (b : MBox) : (s.setBox n b).clk = s.clk := rfl
@[simp] theorem setBox_pwr (s : State) (n : Nat) (b : MBox) : (s.setBox n b).pwr = s.pwr := rfl
@[simp] theorem setBox_res (s : State) (n : Nat) (b : MBox) : (s.setBox n b).res = s.res := rfl
@[simp] theorem setBox_x (s : State) (n : Nat) (b : MBox) : (s.setBox n b).x = s.x := rfl
@[simp] theorem setBox_queues (s : State) (n : Nat) (b : MBox) : (s.setBox n b).queues = s.queues := rfl
@[simp] theorem setBox_flow (s : State) (n : Nat) (b : MBox) : (s.setBox n b).flow = s.flow := rfl
@[simp] theorem setBox_t1 (s : State) (n : Nat) (b : MBox) : (s.setBox n b).t1 = s.t1 := rfl
@[simp] theorem setBox_m (s : State) (n : Nat) (b : MBox) : (s.setBox n b).m = s.m := rfl
@[simp] theorem setBox_st (s : State) (n : Nat) (b : MBox) : (s.setBox n b).st = s.st := rfl
@[simp] theorem setBox_pool (s : State) (n : Nat) (b : MBox) : (s.setBox n b).pool = s.pool := rfl
@[simp] theorem setBox_isle (s : State) (n : Nat) (b : MBox) : (s.setBox n b).isle = s.isle := rfl
@[simp] theorem setBox_carts (s : State) (n : Nat) (b : MBox) : (s.setBox n b).carts = s.carts := rfl
@[simp] theorem setBox_heat (s : State) (n : Nat) (b : MBox) : (s.setBox n b).heat = s.heat := rfl
@[simp] theorem setBox_fault (s : State) (n : Nat) (b : MBox) : (s.setBox n b).fault = s.fault := rfl
@[simp] theorem setBox_obs (s : State) (n : Nat) (b : MBox) : (s.setBox n b).obs = s.obs := rfl
@[simp] theorem setBox_dbg (s : State) (n : Nat) (b : MBox) : (s.setBox n b).dbg = s.dbg := rfl

/-! ### setAgent -/

@[simp] theorem setAgent_pending (s : State) (n : Nat) (a : Option Agent) : (s.setAgent n a).pending = s.pending := rfl
@[simp] theorem setAgent_out (s : State) (n : Nat) (a : Option Agent) : (s.setAgent n a).out = s.out := rfl
@[simp] theorem setAgent_free (s : State) (n : Nat) (a : Option Agent) : (s.setAgent n a).free = s.free := rfl
@[simp] theorem setAgent_dev (s : State) (n : Nat) (a : Option Agent) : (s.setAgent n a).dev = s.dev := rfl
@[simp] theorem setAgent_objs (s : State) (n : Nat) (a : Option Agent) : (s.setAgent n a).objs = s.objs := rfl
@[simp] theorem setAgent_flash (s : State) (n : Nat) (a : Option Agent) : (s.setAgent n a).flash = s.flash := rfl
@[simp] theorem setAgent_mem (s : State) (n : Nat) (a : Option Agent) : (s.setAgent n a).mem = s.mem := rfl
@[simp] theorem setAgent_boot (s : State) (n : Nat) (a : Option Agent) : (s.setAgent n a).boot = s.boot := rfl
@[simp] theorem setAgent_meas (s : State) (n : Nat) (a : Option Agent) : (s.setAgent n a).meas = s.meas := rfl
@[simp] theorem setAgent_clk (s : State) (n : Nat) (a : Option Agent) : (s.setAgent n a).clk = s.clk := rfl
@[simp] theorem setAgent_pwr (s : State) (n : Nat) (a : Option Agent) : (s.setAgent n a).pwr = s.pwr := rfl
@[simp] theorem setAgent_res (s : State) (n : Nat) (a : Option Agent) : (s.setAgent n a).res = s.res := rfl
@[simp] theorem setAgent_x (s : State) (n : Nat) (a : Option Agent) : (s.setAgent n a).x = s.x := rfl
@[simp] theorem setAgent_queues (s : State) (n : Nat) (a : Option Agent) : (s.setAgent n a).queues = s.queues := rfl
@[simp] theorem setAgent_flow (s : State) (n : Nat) (a : Option Agent) : (s.setAgent n a).flow = s.flow := rfl
@[simp] theorem setAgent_t1 (s : State) (n : Nat) (a : Option Agent) : (s.setAgent n a).t1 = s.t1 := rfl
@[simp] theorem setAgent_m (s : State) (n : Nat) (a : Option Agent) : (s.setAgent n a).m = s.m := rfl
@[simp] theorem setAgent_st (s : State) (n : Nat) (a : Option Agent) : (s.setAgent n a).st = s.st := rfl
@[simp] theorem setAgent_pool (s : State) (n : Nat) (a : Option Agent) : (s.setAgent n a).pool = s.pool := rfl
@[simp] theorem setAgent_isle (s : State) (n : Nat) (a : Option Agent) : (s.setAgent n a).isle = s.isle := rfl
@[simp] theorem setAgent_carts (s : State) (n : Nat) (a : Option Agent) : (s.setAgent n a).carts = s.carts := rfl
@[simp] theorem setAgent_heat (s : State) (n : Nat) (a : Option Agent) : (s.setAgent n a).heat = s.heat := rfl
@[simp] theorem setAgent_fault (s : State) (n : Nat) (a : Option Agent) : (s.setAgent n a).fault = s.fault := rfl
@[simp] theorem setAgent_obs (s : State) (n : Nat) (a : Option Agent) : (s.setAgent n a).obs = s.obs := rfl
@[simp] theorem setAgent_dbg (s : State) (n : Nat) (a : Option Agent) : (s.setAgent n a).dbg = s.dbg := rfl

/-! ### addLight -/

@[simp] theorem addLight_pending (s : State) (off n : Nat) : (s.addLight off n).pending = s.pending := rfl
@[simp] theorem addLight_out (s : State) (off n : Nat) : (s.addLight off n).out = s.out := rfl
@[simp] theorem addLight_free (s : State) (off n : Nat) : (s.addLight off n).free = s.free := rfl
@[simp] theorem addLight_dev (s : State) (off n : Nat) : (s.addLight off n).dev = s.dev := rfl
@[simp] theorem addLight_objs (s : State) (off n : Nat) : (s.addLight off n).objs = s.objs := rfl
@[simp] theorem addLight_flash (s : State) (off n : Nat) : (s.addLight off n).flash = s.flash := rfl
@[simp] theorem addLight_mem (s : State) (off n : Nat) : (s.addLight off n).mem = s.mem := rfl
@[simp] theorem addLight_boot (s : State) (off n : Nat) : (s.addLight off n).boot = s.boot := rfl
@[simp] theorem addLight_meas (s : State) (off n : Nat) : (s.addLight off n).meas = s.meas := rfl
@[simp] theorem addLight_clk (s : State) (off n : Nat) : (s.addLight off n).clk = s.clk := rfl
@[simp] theorem addLight_cu (s : State) (off n : Nat) : (s.addLight off n).cu = s.cu := rfl
@[simp] theorem addLight_pwr (s : State) (off n : Nat) : (s.addLight off n).pwr = s.pwr := rfl
@[simp] theorem addLight_res (s : State) (off n : Nat) : (s.addLight off n).res = s.res := rfl
@[simp] theorem addLight_x (s : State) (off n : Nat) : (s.addLight off n).x = s.x := rfl
@[simp] theorem addLight_queues (s : State) (off n : Nat) : (s.addLight off n).queues = s.queues := rfl
@[simp] theorem addLight_flow (s : State) (off n : Nat) : (s.addLight off n).flow = s.flow := rfl
@[simp] theorem addLight_t1 (s : State) (off n : Nat) : (s.addLight off n).t1 = s.t1 := rfl
@[simp] theorem addLight_m (s : State) (off n : Nat) : (s.addLight off n).m = s.m := rfl
@[simp] theorem addLight_st (s : State) (off n : Nat) : (s.addLight off n).st = s.st := rfl
@[simp] theorem addLight_pool (s : State) (off n : Nat) : (s.addLight off n).pool = s.pool := rfl
@[simp] theorem addLight_isle (s : State) (off n : Nat) : (s.addLight off n).isle = s.isle := rfl
@[simp] theorem addLight_carts (s : State) (off n : Nat) : (s.addLight off n).carts = s.carts := rfl
@[simp] theorem addLight_heat (s : State) (off n : Nat) : (s.addLight off n).heat = s.heat := rfl
@[simp] theorem addLight_fault (s : State) (off n : Nat) : (s.addLight off n).fault = s.fault := rfl
@[simp] theorem addLight_dbg (s : State) (off n : Nat) : (s.addLight off n).dbg = s.dbg := rfl

/-! ### memWrite -/

@[simp] theorem memWrite_pending (s : State) (a : Nat) (bs : Bytes) : (s.memWrite a bs).pending = s.pending := rfl
@[simp] theorem memWrite_out (s : State) (a : Nat) (bs : Bytes) : (s.memWrite a bs).out = s.out := rfl
@[simp] theorem memWrite_free (s : State) (a : Nat) (bs : Bytes) : (s.memWrite a bs).free = s.free := rfl
@[simp] theorem memWrite_dev (s : State) (a : Nat) (bs : Bytes) : (s.memWrite a bs).dev = s.dev := rfl
@[simp] theorem memWrite_objs (s : State) (a : Nat) (bs : Bytes) : (s.memWrite a bs).objs = s.objs := rfl
@[simp] theorem memWrite_flash (s : State) (a : Nat) (bs : Bytes) : (s.memWrite a bs).flash = s.flash := rfl
@[simp] theorem memWrite_boot (s : State) (a : Nat) (bs : Bytes) : (s.memWrite a bs).boot = s.boot := rfl
@[simp] theorem memWrite_meas (s : State) (a : Nat) (bs : Bytes) : (s.memWrite a bs).meas = s.meas := rfl
@[simp] theorem memWrite_clk (s : State) (a : Nat) (bs : Bytes) : (s.memWrite a bs).clk = s.clk := rfl
@[simp] theorem memWrite_cu (s : State) (a : Nat) (bs : Bytes) : (s.memWrite a bs).cu = s.cu := rfl
@[simp] theorem memWrite_pwr (s : State) (a : Nat) (bs : Bytes) : (s.memWrite a bs).pwr = s.pwr := rfl
@[simp] theorem memWrite_res (s : State) (a : Nat) (bs : Bytes) : (s.memWrite a bs).res = s.res := rfl
@[simp] theorem memWrite_x (s : State) (a : Nat) (bs : Bytes) : (s.memWrite a bs).x = s.x := rfl
@[simp] theorem memWrite_queues (s : State) (a : Nat) (bs : Bytes) : (s.memWrite a bs).queues = s.queues := rfl
@[simp] theorem memWrite_flow (s : State) (a : Nat) (bs : Bytes) : (s.memWrite a bs).flow = s.flow := rfl
@[simp] theorem memWrite_t1 (s : State) (a : Nat) (bs : Bytes) : (s.memWrite a bs).t1 = s.t1 := rfl
@[simp] theorem memWrite_m (s : State) (a : Nat) (bs : Bytes) : (s.memWrite a bs).m = s.m := rfl
@[simp] theorem memWrite_st (s : State) (a : Nat) (bs : Bytes) : (s.memWrite a bs).st = s.st := rfl
@[simp] theorem memWrite_pool (s : State) (a : Nat) (bs : Bytes) : (s.memWrite a bs).pool = s.pool := rfl
@[simp] theorem memWrite_isle (s : State) (a : Nat) (bs : Bytes) : (s.memWrite a bs).isle = s.isle := rfl
@[simp] theorem memWrite_carts (s : State) (a : Nat) (bs : Bytes) : (s.memWrite a bs).carts = s.carts := rfl
@[simp] theorem memWrite_heat (s : State) (a : Nat) (bs : Bytes) : (s.memWrite a bs).heat = s.heat := rfl
@[simp] theorem memWrite_fault (s : State) (a : Nat) (bs : Bytes) : (s.memWrite a bs).fault = s.fault := rfl
@[simp] theorem memWrite_obs (s : State) (a : Nat) (bs : Bytes) : (s.memWrite a bs).obs = s.obs := rfl
@[simp] theorem memWrite_dbg (s : State) (a : Nat) (bs : Bytes) : (s.memWrite a bs).dbg = s.dbg := rfl

/-! ### memLose -/

@[simp] theorem memLose_pending (s : State) (a n : Nat) : (s.memLose a n).pending = s.pending := rfl
@[simp] theorem memLose_out (s : State) (a n : Nat) : (s.memLose a n).out = s.out := rfl
@[simp] theorem memLose_free (s : State) (a n : Nat) : (s.memLose a n).free = s.free := rfl
@[simp] theorem memLose_dev (s : State) (a n : Nat) : (s.memLose a n).dev = s.dev := rfl
@[simp] theorem memLose_objs (s : State) (a n : Nat) : (s.memLose a n).objs = s.objs := rfl
@[simp] theorem memLose_flash (s : State) (a n : Nat) : (s.memLose a n).flash = s.flash := rfl
@[simp] theorem memLose_boot (s : State) (a n : Nat) : (s.memLose a n).boot = s.boot := rfl
@[simp] theorem memLose_meas (s : State) (a n : Nat) : (s.memLose a n).meas = s.meas := rfl
@[simp] theorem memLose_clk (s : State) (a n : Nat) : (s.memLose a n).clk = s.clk := rfl
@[simp] theorem memLose_cu (s : State) (a n : Nat) : (s.memLose a n).cu = s.cu := rfl
@[simp] theorem memLose_pwr (s : State) (a n : Nat) : (s.memLose a n).pwr = s.pwr := rfl
@[simp] theorem memLose_res (s : State) (a n : Nat) : (s.memLose a n).res = s.res := rfl
@[simp] theorem memLose_x (s : State) (a n : Nat) : (s.memLose a n).x = s.x := rfl
@[simp] theorem memLose_queues (s : State) (a n : Nat) : (s.memLose a n).queues = s.queues := rfl
@[simp] theorem memLose_flow (s : State) (a n : Nat) : (s.memLose a n).flow = s.flow := rfl
@[simp] theorem memLose_t1 (s : State) (a n : Nat) : (s.memLose a n).t1 = s.t1 := rfl
@[simp] theorem memLose_m (s : State) (a n : Nat) : (s.memLose a n).m = s.m := rfl
@[simp] theorem memLose_st (s : State) (a n : Nat) : (s.memLose a n).st = s.st := rfl
@[simp] theorem memLose_pool (s : State) (a n : Nat) : (s.memLose a n).pool = s.pool := rfl
@[simp] theorem memLose_isle (s : State) (a n : Nat) : (s.memLose a n).isle = s.isle := rfl
@[simp] theorem memLose_carts (s : State) (a n : Nat) : (s.memLose a n).carts = s.carts := rfl
@[simp] theorem memLose_heat (s : State) (a n : Nat) : (s.memLose a n).heat = s.heat := rfl
@[simp] theorem memLose_fault (s : State) (a n : Nat) : (s.memLose a n).fault = s.fault := rfl
@[simp] theorem memLose_obs (s : State) (a n : Nat) : (s.memLose a n).obs = s.obs := rfl
@[simp] theorem memLose_dbg (s : State) (a n : Nat) : (s.memLose a n).dbg = s.dbg := rfl

/-! ### flashWrite -/

@[simp] theorem flashWrite_pending (s : State) (a : Nat) (bs : Bytes) : (s.flashWrite a bs).pending = s.pending := rfl
@[simp] theorem flashWrite_out (s : State) (a : Nat) (bs : Bytes) : (s.flashWrite a bs).out = s.out := rfl
@[simp] theorem flashWrite_free (s : State) (a : Nat) (bs : Bytes) : (s.flashWrite a bs).free = s.free := rfl
@[simp] theorem flashWrite_dev (s : State) (a : Nat) (bs : Bytes) : (s.flashWrite a bs).dev = s.dev := rfl
@[simp] theorem flashWrite_objs (s : State) (a : Nat) (bs : Bytes) : (s.flashWrite a bs).objs = s.objs := rfl
@[simp] theorem flashWrite_mem (s : State) (a : Nat) (bs : Bytes) : (s.flashWrite a bs).mem = s.mem := rfl
@[simp] theorem flashWrite_boot (s : State) (a : Nat) (bs : Bytes) : (s.flashWrite a bs).boot = s.boot := rfl
@[simp] theorem flashWrite_meas (s : State) (a : Nat) (bs : Bytes) : (s.flashWrite a bs).meas = s.meas := rfl
@[simp] theorem flashWrite_clk (s : State) (a : Nat) (bs : Bytes) : (s.flashWrite a bs).clk = s.clk := rfl
@[simp] theorem flashWrite_cu (s : State) (a : Nat) (bs : Bytes) : (s.flashWrite a bs).cu = s.cu := rfl
@[simp] theorem flashWrite_pwr (s : State) (a : Nat) (bs : Bytes) : (s.flashWrite a bs).pwr = s.pwr := rfl
@[simp] theorem flashWrite_res (s : State) (a : Nat) (bs : Bytes) : (s.flashWrite a bs).res = s.res := rfl
@[simp] theorem flashWrite_x (s : State) (a : Nat) (bs : Bytes) : (s.flashWrite a bs).x = s.x := rfl
@[simp] theorem flashWrite_queues (s : State) (a : Nat) (bs : Bytes) : (s.flashWrite a bs).queues = s.queues := rfl
@[simp] theorem flashWrite_flow (s : State) (a : Nat) (bs : Bytes) : (s.flashWrite a bs).flow = s.flow := rfl
@[simp] theorem flashWrite_t1 (s : State) (a : Nat) (bs : Bytes) : (s.flashWrite a bs).t1 = s.t1 := rfl
@[simp] theorem flashWrite_m (s : State) (a : Nat) (bs : Bytes) : (s.flashWrite a bs).m = s.m := rfl
@[simp] theorem flashWrite_st (s : State) (a : Nat) (bs : Bytes) : (s.flashWrite a bs).st = s.st := rfl
@[simp] theorem flashWrite_pool (s : State) (a : Nat) (bs : Bytes) : (s.flashWrite a bs).pool = s.pool := rfl
@[simp] theorem flashWrite_isle (s : State) (a : Nat) (bs : Bytes) : (s.flashWrite a bs).isle = s.isle := rfl
@[simp] theorem flashWrite_carts (s : State) (a : Nat) (bs : Bytes) : (s.flashWrite a bs).carts = s.carts := rfl
@[simp] theorem flashWrite_heat (s : State) (a : Nat) (bs : Bytes) : (s.flashWrite a bs).heat = s.heat := rfl
@[simp] theorem flashWrite_fault (s : State) (a : Nat) (bs : Bytes) : (s.flashWrite a bs).fault = s.fault := rfl
@[simp] theorem flashWrite_obs (s : State) (a : Nat) (bs : Bytes) : (s.flashWrite a bs).obs = s.obs := rfl
@[simp] theorem flashWrite_dbg (s : State) (a : Nat) (bs : Bytes) : (s.flashWrite a bs).dbg = s.dbg := rfl

/-! ### flashErase -/

@[simp] theorem flashErase_pending (s : State) (a n : Nat) : (s.flashErase a n).pending = s.pending := rfl
@[simp] theorem flashErase_out (s : State) (a n : Nat) : (s.flashErase a n).out = s.out := rfl
@[simp] theorem flashErase_free (s : State) (a n : Nat) : (s.flashErase a n).free = s.free := rfl
@[simp] theorem flashErase_dev (s : State) (a n : Nat) : (s.flashErase a n).dev = s.dev := rfl
@[simp] theorem flashErase_objs (s : State) (a n : Nat) : (s.flashErase a n).objs = s.objs := rfl
@[simp] theorem flashErase_mem (s : State) (a n : Nat) : (s.flashErase a n).mem = s.mem := rfl
@[simp] theorem flashErase_boot (s : State) (a n : Nat) : (s.flashErase a n).boot = s.boot := rfl
@[simp] theorem flashErase_meas (s : State) (a n : Nat) : (s.flashErase a n).meas = s.meas := rfl
@[simp] theorem flashErase_clk (s : State) (a n : Nat) : (s.flashErase a n).clk = s.clk := rfl
@[simp] theorem flashErase_cu (s : State) (a n : Nat) : (s.flashErase a n).cu = s.cu := rfl
@[simp] theorem flashErase_pwr (s : State) (a n : Nat) : (s.flashErase a n).pwr = s.pwr := rfl
@[simp] theorem flashErase_res (s : State) (a n : Nat) : (s.flashErase a n).res = s.res := rfl
@[simp] theorem flashErase_x (s : State) (a n : Nat) : (s.flashErase a n).x = s.x := rfl
@[simp] theorem flashErase_queues (s : State) (a n : Nat) : (s.flashErase a n).queues = s.queues := rfl
@[simp] theorem flashErase_flow (s : State) (a n : Nat) : (s.flashErase a n).flow = s.flow := rfl
@[simp] theorem flashErase_t1 (s : State) (a n : Nat) : (s.flashErase a n).t1 = s.t1 := rfl
@[simp] theorem flashErase_m (s : State) (a n : Nat) : (s.flashErase a n).m = s.m := rfl
@[simp] theorem flashErase_st (s : State) (a n : Nat) : (s.flashErase a n).st = s.st := rfl
@[simp] theorem flashErase_pool (s : State) (a n : Nat) : (s.flashErase a n).pool = s.pool := rfl
@[simp] theorem flashErase_isle (s : State) (a n : Nat) : (s.flashErase a n).isle = s.isle := rfl
@[simp] theorem flashErase_carts (s : State) (a n : Nat) : (s.flashErase a n).carts = s.carts := rfl
@[simp] theorem flashErase_heat (s : State) (a n : Nat) : (s.flashErase a n).heat = s.heat := rfl
@[simp] theorem flashErase_fault (s : State) (a n : Nat) : (s.flashErase a n).fault = s.fault := rfl
@[simp] theorem flashErase_obs (s : State) (a n : Nat) : (s.flashErase a n).obs = s.obs := rfl
@[simp] theorem flashErase_dbg (s : State) (a n : Nat) : (s.flashErase a n).dbg = s.dbg := rfl

/-! ### setCart -/

@[simp] theorem setCart_pending (s : State) (e : Nat) (c : Cart) : (s.setCart e c).pending = s.pending := rfl
@[simp] theorem setCart_out (s : State) (e : Nat) (c : Cart) : (s.setCart e c).out = s.out := rfl
@[simp] theorem setCart_free (s : State) (e : Nat) (c : Cart) : (s.setCart e c).free = s.free := rfl
@[simp] theorem setCart_dev (s : State) (e : Nat) (c : Cart) : (s.setCart e c).dev = s.dev := rfl
@[simp] theorem setCart_objs (s : State) (e : Nat) (c : Cart) : (s.setCart e c).objs = s.objs := rfl
@[simp] theorem setCart_flash (s : State) (e : Nat) (c : Cart) : (s.setCart e c).flash = s.flash := rfl
@[simp] theorem setCart_mem (s : State) (e : Nat) (c : Cart) : (s.setCart e c).mem = s.mem := rfl
@[simp] theorem setCart_boot (s : State) (e : Nat) (c : Cart) : (s.setCart e c).boot = s.boot := rfl
@[simp] theorem setCart_meas (s : State) (e : Nat) (c : Cart) : (s.setCart e c).meas = s.meas := rfl
@[simp] theorem setCart_clk (s : State) (e : Nat) (c : Cart) : (s.setCart e c).clk = s.clk := rfl
@[simp] theorem setCart_cu (s : State) (e : Nat) (c : Cart) : (s.setCart e c).cu = s.cu := rfl
@[simp] theorem setCart_pwr (s : State) (e : Nat) (c : Cart) : (s.setCart e c).pwr = s.pwr := rfl
@[simp] theorem setCart_res (s : State) (e : Nat) (c : Cart) : (s.setCart e c).res = s.res := rfl
@[simp] theorem setCart_x (s : State) (e : Nat) (c : Cart) : (s.setCart e c).x = s.x := rfl
@[simp] theorem setCart_queues (s : State) (e : Nat) (c : Cart) : (s.setCart e c).queues = s.queues := rfl
@[simp] theorem setCart_flow (s : State) (e : Nat) (c : Cart) : (s.setCart e c).flow = s.flow := rfl
@[simp] theorem setCart_t1 (s : State) (e : Nat) (c : Cart) : (s.setCart e c).t1 = s.t1 := rfl
@[simp] theorem setCart_m (s : State) (e : Nat) (c : Cart) : (s.setCart e c).m = s.m := rfl
@[simp] theorem setCart_st (s : State) (e : Nat) (c : Cart) : (s.setCart e c).st = s.st := rfl
@[simp] theorem setCart_pool (s : State) (e : Nat) (c : Cart) : (s.setCart e c).pool = s.pool := rfl
@[simp] theorem setCart_isle (s : State) (e : Nat) (c : Cart) : (s.setCart e c).isle = s.isle := rfl
@[simp] theorem setCart_heat (s : State) (e : Nat) (c : Cart) : (s.setCart e c).heat = s.heat := rfl
@[simp] theorem setCart_fault (s : State) (e : Nat) (c : Cart) : (s.setCart e c).fault = s.fault := rfl
@[simp] theorem setCart_obs (s : State) (e : Nat) (c : Cart) : (s.setCart e c).obs = s.obs := rfl
@[simp] theorem setCart_dbg (s : State) (e : Nat) (c : Cart) : (s.setCart e c).dbg = s.dbg := rfl

/-! ### killHandles -/

@[simp] theorem killHandles_pending (s : State) (p : Handle → Bool) (code : Nat) : (s.killHandles p code).pending = s.pending := rfl
@[simp] theorem killHandles_out (s : State) (p : Handle → Bool) (code : Nat) : (s.killHandles p code).out = s.out := rfl
@[simp] theorem killHandles_free (s : State) (p : Handle → Bool) (code : Nat) : (s.killHandles p code).free = s.free := rfl
@[simp] theorem killHandles_dev (s : State) (p : Handle → Bool) (code : Nat) : (s.killHandles p code).dev = s.dev := rfl
@[simp] theorem killHandles_objs (s : State) (p : Handle → Bool) (code : Nat) : (s.killHandles p code).objs = s.objs := rfl
@[simp] theorem killHandles_flash (s : State) (p : Handle → Bool) (code : Nat) : (s.killHandles p code).flash = s.flash := rfl
@[simp] theorem killHandles_mem (s : State) (p : Handle → Bool) (code : Nat) : (s.killHandles p code).mem = s.mem := rfl
@[simp] theorem killHandles_boot (s : State) (p : Handle → Bool) (code : Nat) : (s.killHandles p code).boot = s.boot := rfl
@[simp] theorem killHandles_meas (s : State) (p : Handle → Bool) (code : Nat) : (s.killHandles p code).meas = s.meas := rfl
@[simp] theorem killHandles_clk (s : State) (p : Handle → Bool) (code : Nat) : (s.killHandles p code).clk = s.clk := rfl
@[simp] theorem killHandles_pwr (s : State) (p : Handle → Bool) (code : Nat) : (s.killHandles p code).pwr = s.pwr := rfl
@[simp] theorem killHandles_res (s : State) (p : Handle → Bool) (code : Nat) : (s.killHandles p code).res = s.res := rfl
@[simp] theorem killHandles_x (s : State) (p : Handle → Bool) (code : Nat) : (s.killHandles p code).x = s.x := rfl
@[simp] theorem killHandles_queues (s : State) (p : Handle → Bool) (code : Nat) : (s.killHandles p code).queues = s.queues := rfl
@[simp] theorem killHandles_flow (s : State) (p : Handle → Bool) (code : Nat) : (s.killHandles p code).flow = s.flow := rfl
@[simp] theorem killHandles_t1 (s : State) (p : Handle → Bool) (code : Nat) : (s.killHandles p code).t1 = s.t1 := rfl
@[simp] theorem killHandles_m (s : State) (p : Handle → Bool) (code : Nat) : (s.killHandles p code).m = s.m := rfl
@[simp] theorem killHandles_st (s : State) (p : Handle → Bool) (code : Nat) : (s.killHandles p code).st = s.st := rfl
@[simp] theorem killHandles_pool (s : State) (p : Handle → Bool) (code : Nat) : (s.killHandles p code).pool = s.pool := rfl
@[simp] theorem killHandles_isle (s : State) (p : Handle → Bool) (code : Nat) : (s.killHandles p code).isle = s.isle := rfl
@[simp] theorem killHandles_carts (s : State) (p : Handle → Bool) (code : Nat) : (s.killHandles p code).carts = s.carts := rfl
@[simp] theorem killHandles_heat (s : State) (p : Handle → Bool) (code : Nat) : (s.killHandles p code).heat = s.heat := rfl
@[simp] theorem killHandles_fault (s : State) (p : Handle → Bool) (code : Nat) : (s.killHandles p code).fault = s.fault := rfl
@[simp] theorem killHandles_obs (s : State) (p : Handle → Bool) (code : Nat) : (s.killHandles p code).obs = s.obs := rfl
@[simp] theorem killHandles_dbg (s : State) (p : Handle → Bool) (code : Nat) : (s.killHandles p code).dbg = s.dbg := rfl

/-! ### setPort -/

@[simp] theorem setPort_pending (s : State) (q : Nat) (p : Port) : (s.setPort q p).pending = s.pending := rfl
@[simp] theorem setPort_out (s : State) (q : Nat) (p : Port) : (s.setPort q p).out = s.out := rfl
@[simp] theorem setPort_free (s : State) (q : Nat) (p : Port) : (s.setPort q p).free = s.free := rfl
@[simp] theorem setPort_dev (s : State) (q : Nat) (p : Port) : (s.setPort q p).dev = s.dev := rfl
@[simp] theorem setPort_objs (s : State) (q : Nat) (p : Port) : (s.setPort q p).objs = s.objs := rfl
@[simp] theorem setPort_flash (s : State) (q : Nat) (p : Port) : (s.setPort q p).flash = s.flash := rfl
@[simp] theorem setPort_mem (s : State) (q : Nat) (p : Port) : (s.setPort q p).mem = s.mem := rfl
@[simp] theorem setPort_boot (s : State) (q : Nat) (p : Port) : (s.setPort q p).boot = s.boot := rfl
@[simp] theorem setPort_meas (s : State) (q : Nat) (p : Port) : (s.setPort q p).meas = s.meas := rfl
@[simp] theorem setPort_clk (s : State) (q : Nat) (p : Port) : (s.setPort q p).clk = s.clk := rfl
@[simp] theorem setPort_cu (s : State) (q : Nat) (p : Port) : (s.setPort q p).cu = s.cu := rfl
@[simp] theorem setPort_pwr (s : State) (q : Nat) (p : Port) : (s.setPort q p).pwr = s.pwr := rfl
@[simp] theorem setPort_res (s : State) (q : Nat) (p : Port) : (s.setPort q p).res = s.res := rfl
@[simp] theorem setPort_queues (s : State) (q : Nat) (p : Port) : (s.setPort q p).queues = s.queues := rfl
@[simp] theorem setPort_flow (s : State) (q : Nat) (p : Port) : (s.setPort q p).flow = s.flow := rfl
@[simp] theorem setPort_t1 (s : State) (q : Nat) (p : Port) : (s.setPort q p).t1 = s.t1 := rfl
@[simp] theorem setPort_m (s : State) (q : Nat) (p : Port) : (s.setPort q p).m = s.m := rfl
@[simp] theorem setPort_st (s : State) (q : Nat) (p : Port) : (s.setPort q p).st = s.st := rfl
@[simp] theorem setPort_pool (s : State) (q : Nat) (p : Port) : (s.setPort q p).pool = s.pool := rfl
@[simp] theorem setPort_isle (s : State) (q : Nat) (p : Port) : (s.setPort q p).isle = s.isle := rfl
@[simp] theorem setPort_carts (s : State) (q : Nat) (p : Port) : (s.setPort q p).carts = s.carts := rfl
@[simp] theorem setPort_heat (s : State) (q : Nat) (p : Port) : (s.setPort q p).heat = s.heat := rfl
@[simp] theorem setPort_fault (s : State) (q : Nat) (p : Port) : (s.setPort q p).fault = s.fault := rfl
@[simp] theorem setPort_obs (s : State) (q : Nat) (p : Port) : (s.setPort q p).obs = s.obs := rfl
@[simp] theorem setPort_dbg (s : State) (q : Nat) (p : Port) : (s.setPort q p).dbg = s.dbg := rfl

/-! ### setQueue -/

@[simp] theorem setQueue_pending (s : State) (q : Nat) (v : Queue) : (s.setQueue q v).pending = s.pending := rfl
@[simp] theorem setQueue_out (s : State) (q : Nat) (v : Queue) : (s.setQueue q v).out = s.out := rfl
@[simp] theorem setQueue_free (s : State) (q : Nat) (v : Queue) : (s.setQueue q v).free = s.free := rfl
@[simp] theorem setQueue_dev (s : State) (q : Nat) (v : Queue) : (s.setQueue q v).dev = s.dev := rfl
@[simp] theorem setQueue_objs (s : State) (q : Nat) (v : Queue) : (s.setQueue q v).objs = s.objs := rfl
@[simp] theorem setQueue_flash (s : State) (q : Nat) (v : Queue) : (s.setQueue q v).flash = s.flash := rfl
@[simp] theorem setQueue_mem (s : State) (q : Nat) (v : Queue) : (s.setQueue q v).mem = s.mem := rfl
@[simp] theorem setQueue_boot (s : State) (q : Nat) (v : Queue) : (s.setQueue q v).boot = s.boot := rfl
@[simp] theorem setQueue_meas (s : State) (q : Nat) (v : Queue) : (s.setQueue q v).meas = s.meas := rfl
@[simp] theorem setQueue_clk (s : State) (q : Nat) (v : Queue) : (s.setQueue q v).clk = s.clk := rfl
@[simp] theorem setQueue_cu (s : State) (q : Nat) (v : Queue) : (s.setQueue q v).cu = s.cu := rfl
@[simp] theorem setQueue_pwr (s : State) (q : Nat) (v : Queue) : (s.setQueue q v).pwr = s.pwr := rfl
@[simp] theorem setQueue_res (s : State) (q : Nat) (v : Queue) : (s.setQueue q v).res = s.res := rfl
@[simp] theorem setQueue_x (s : State) (q : Nat) (v : Queue) : (s.setQueue q v).x = s.x := rfl
@[simp] theorem setQueue_flow (s : State) (q : Nat) (v : Queue) : (s.setQueue q v).flow = s.flow := rfl
@[simp] theorem setQueue_t1 (s : State) (q : Nat) (v : Queue) : (s.setQueue q v).t1 = s.t1 := rfl
@[simp] theorem setQueue_m (s : State) (q : Nat) (v : Queue) : (s.setQueue q v).m = s.m := rfl
@[simp] theorem setQueue_st (s : State) (q : Nat) (v : Queue) : (s.setQueue q v).st = s.st := rfl
@[simp] theorem setQueue_pool (s : State) (q : Nat) (v : Queue) : (s.setQueue q v).pool = s.pool := rfl
@[simp] theorem setQueue_isle (s : State) (q : Nat) (v : Queue) : (s.setQueue q v).isle = s.isle := rfl
@[simp] theorem setQueue_carts (s : State) (q : Nat) (v : Queue) : (s.setQueue q v).carts = s.carts := rfl
@[simp] theorem setQueue_heat (s : State) (q : Nat) (v : Queue) : (s.setQueue q v).heat = s.heat := rfl
@[simp] theorem setQueue_fault (s : State) (q : Nat) (v : Queue) : (s.setQueue q v).fault = s.fault := rfl
@[simp] theorem setQueue_obs (s : State) (q : Nat) (v : Queue) : (s.setQueue q v).obs = s.obs := rfl
@[simp] theorem setQueue_dbg (s : State) (q : Nat) (v : Queue) : (s.setQueue q v).dbg = s.dbg := rfl

/-! ### setEq -/

@[simp] theorem setEq_pending (s : State) (q : Nat) (v : EQueue) : (s.setEq q v).pending = s.pending := rfl
@[simp] theorem setEq_out (s : State) (q : Nat) (v : EQueue) : (s.setEq q v).out = s.out := rfl
@[simp] theorem setEq_free (s : State) (q : Nat) (v : EQueue) : (s.setEq q v).free = s.free := rfl
@[simp] theorem setEq_dev (s : State) (q : Nat) (v : EQueue) : (s.setEq q v).dev = s.dev := rfl
@[simp] theorem setEq_objs (s : State) (q : Nat) (v : EQueue) : (s.setEq q v).objs = s.objs := rfl
@[simp] theorem setEq_flash (s : State) (q : Nat) (v : EQueue) : (s.setEq q v).flash = s.flash := rfl
@[simp] theorem setEq_mem (s : State) (q : Nat) (v : EQueue) : (s.setEq q v).mem = s.mem := rfl
@[simp] theorem setEq_boot (s : State) (q : Nat) (v : EQueue) : (s.setEq q v).boot = s.boot := rfl
@[simp] theorem setEq_meas (s : State) (q : Nat) (v : EQueue) : (s.setEq q v).meas = s.meas := rfl
@[simp] theorem setEq_clk (s : State) (q : Nat) (v : EQueue) : (s.setEq q v).clk = s.clk := rfl
@[simp] theorem setEq_cu (s : State) (q : Nat) (v : EQueue) : (s.setEq q v).cu = s.cu := rfl
@[simp] theorem setEq_pwr (s : State) (q : Nat) (v : EQueue) : (s.setEq q v).pwr = s.pwr := rfl
@[simp] theorem setEq_res (s : State) (q : Nat) (v : EQueue) : (s.setEq q v).res = s.res := rfl
@[simp] theorem setEq_queues (s : State) (q : Nat) (v : EQueue) : (s.setEq q v).queues = s.queues := rfl
@[simp] theorem setEq_flow (s : State) (q : Nat) (v : EQueue) : (s.setEq q v).flow = s.flow := rfl
@[simp] theorem setEq_t1 (s : State) (q : Nat) (v : EQueue) : (s.setEq q v).t1 = s.t1 := rfl
@[simp] theorem setEq_m (s : State) (q : Nat) (v : EQueue) : (s.setEq q v).m = s.m := rfl
@[simp] theorem setEq_st (s : State) (q : Nat) (v : EQueue) : (s.setEq q v).st = s.st := rfl
@[simp] theorem setEq_pool (s : State) (q : Nat) (v : EQueue) : (s.setEq q v).pool = s.pool := rfl
@[simp] theorem setEq_isle (s : State) (q : Nat) (v : EQueue) : (s.setEq q v).isle = s.isle := rfl
@[simp] theorem setEq_carts (s : State) (q : Nat) (v : EQueue) : (s.setEq q v).carts = s.carts := rfl
@[simp] theorem setEq_heat (s : State) (q : Nat) (v : EQueue) : (s.setEq q v).heat = s.heat := rfl
@[simp] theorem setEq_fault (s : State) (q : Nat) (v : EQueue) : (s.setEq q v).fault = s.fault := rfl
@[simp] theorem setEq_obs (s : State) (q : Nat) (v : EQueue) : (s.setEq q v).obs = s.obs := rfl
@[simp] theorem setEq_dbg (s : State) (q : Nat) (v : EQueue) : (s.setEq q v).dbg = s.dbg := rfl

/-! ### setReg -/

@[simp] theorem setReg_pending (s : State) (e : Nat) (v : RegEntry) : (s.setReg e v).pending = s.pending := rfl
@[simp] theorem setReg_out (s : State) (e : Nat) (v : RegEntry) : (s.setReg e v).out = s.out := rfl
@[simp] theorem setReg_free (s : State) (e : Nat) (v : RegEntry) : (s.setReg e v).free = s.free := rfl
@[simp] theorem setReg_dev (s : State) (e : Nat) (v : RegEntry) : (s.setReg e v).dev = s.dev := rfl
@[simp] theorem setReg_objs (s : State) (e : Nat) (v : RegEntry) : (s.setReg e v).objs = s.objs := rfl
@[simp] theorem setReg_flash (s : State) (e : Nat) (v : RegEntry) : (s.setReg e v).flash = s.flash := rfl
@[simp] theorem setReg_mem (s : State) (e : Nat) (v : RegEntry) : (s.setReg e v).mem = s.mem := rfl
@[simp] theorem setReg_boot (s : State) (e : Nat) (v : RegEntry) : (s.setReg e v).boot = s.boot := rfl
@[simp] theorem setReg_meas (s : State) (e : Nat) (v : RegEntry) : (s.setReg e v).meas = s.meas := rfl
@[simp] theorem setReg_clk (s : State) (e : Nat) (v : RegEntry) : (s.setReg e v).clk = s.clk := rfl
@[simp] theorem setReg_cu (s : State) (e : Nat) (v : RegEntry) : (s.setReg e v).cu = s.cu := rfl
@[simp] theorem setReg_pwr (s : State) (e : Nat) (v : RegEntry) : (s.setReg e v).pwr = s.pwr := rfl
@[simp] theorem setReg_res (s : State) (e : Nat) (v : RegEntry) : (s.setReg e v).res = s.res := rfl
@[simp] theorem setReg_x (s : State) (e : Nat) (v : RegEntry) : (s.setReg e v).x = s.x := rfl
@[simp] theorem setReg_queues (s : State) (e : Nat) (v : RegEntry) : (s.setReg e v).queues = s.queues := rfl
@[simp] theorem setReg_flow (s : State) (e : Nat) (v : RegEntry) : (s.setReg e v).flow = s.flow := rfl
@[simp] theorem setReg_t1 (s : State) (e : Nat) (v : RegEntry) : (s.setReg e v).t1 = s.t1 := rfl
@[simp] theorem setReg_m (s : State) (e : Nat) (v : RegEntry) : (s.setReg e v).m = s.m := rfl
@[simp] theorem setReg_st (s : State) (e : Nat) (v : RegEntry) : (s.setReg e v).st = s.st := rfl
@[simp] theorem setReg_isle (s : State) (e : Nat) (v : RegEntry) : (s.setReg e v).isle = s.isle := rfl
@[simp] theorem setReg_carts (s : State) (e : Nat) (v : RegEntry) : (s.setReg e v).carts = s.carts := rfl
@[simp] theorem setReg_heat (s : State) (e : Nat) (v : RegEntry) : (s.setReg e v).heat = s.heat := rfl
@[simp] theorem setReg_fault (s : State) (e : Nat) (v : RegEntry) : (s.setReg e v).fault = s.fault := rfl
@[simp] theorem setReg_obs (s : State) (e : Nat) (v : RegEntry) : (s.setReg e v).obs = s.obs := rfl
@[simp] theorem setReg_dbg (s : State) (e : Nat) (v : RegEntry) : (s.setReg e v).dbg = s.dbg := rfl

/-! ### setRot -/

@[simp] theorem setRot_pending (s : State) (p : Nat) (r : Option Rot) : (s.setRot p r).pending = s.pending := rfl
@[simp] theorem setRot_out (s : State) (p : Nat) (r : Option Rot) : (s.setRot p r).out = s.out := rfl
@[simp] theorem setRot_free (s : State) (p : Nat) (r : Option Rot) : (s.setRot p r).free = s.free := rfl
@[simp] theorem setRot_dev (s : State) (p : Nat) (r : Option Rot) : (s.setRot p r).dev = s.dev := rfl
@[simp] theorem setRot_objs (s : State) (p : Nat) (r : Option Rot) : (s.setRot p r).objs = s.objs := rfl
@[simp] theorem setRot_flash (s : State) (p : Nat) (r : Option Rot) : (s.setRot p r).flash = s.flash := rfl
@[simp] theorem setRot_mem (s : State) (p : Nat) (r : Option Rot) : (s.setRot p r).mem = s.mem := rfl
@[simp] theorem setRot_boot (s : State) (p : Nat) (r : Option Rot) : (s.setRot p r).boot = s.boot := rfl
@[simp] theorem setRot_meas (s : State) (p : Nat) (r : Option Rot) : (s.setRot p r).meas = s.meas := rfl
@[simp] theorem setRot_clk (s : State) (p : Nat) (r : Option Rot) : (s.setRot p r).clk = s.clk := rfl
@[simp] theorem setRot_cu (s : State) (p : Nat) (r : Option Rot) : (s.setRot p r).cu = s.cu := rfl
@[simp] theorem setRot_pwr (s : State) (p : Nat) (r : Option Rot) : (s.setRot p r).pwr = s.pwr := rfl
@[simp] theorem setRot_res (s : State) (p : Nat) (r : Option Rot) : (s.setRot p r).res = s.res := rfl
@[simp] theorem setRot_x (s : State) (p : Nat) (r : Option Rot) : (s.setRot p r).x = s.x := rfl
@[simp] theorem setRot_queues (s : State) (p : Nat) (r : Option Rot) : (s.setRot p r).queues = s.queues := rfl
@[simp] theorem setRot_flow (s : State) (p : Nat) (r : Option Rot) : (s.setRot p r).flow = s.flow := rfl
@[simp] theorem setRot_t1 (s : State) (p : Nat) (r : Option Rot) : (s.setRot p r).t1 = s.t1 := rfl
@[simp] theorem setRot_m (s : State) (p : Nat) (r : Option Rot) : (s.setRot p r).m = s.m := rfl
@[simp] theorem setRot_st (s : State) (p : Nat) (r : Option Rot) : (s.setRot p r).st = s.st := rfl
@[simp] theorem setRot_pool (s : State) (p : Nat) (r : Option Rot) : (s.setRot p r).pool = s.pool := rfl
@[simp] theorem setRot_isle (s : State) (p : Nat) (r : Option Rot) : (s.setRot p r).isle = s.isle := rfl
@[simp] theorem setRot_carts (s : State) (p : Nat) (r : Option Rot) : (s.setRot p r).carts = s.carts := rfl
@[simp] theorem setRot_fault (s : State) (p : Nat) (r : Option Rot) : (s.setRot p r).fault = s.fault := rfl
@[simp] theorem setRot_obs (s : State) (p : Nat) (r : Option Rot) : (s.setRot p r).obs = s.obs := rfl
@[simp] theorem setRot_dbg (s : State) (p : Nat) (r : Option Rot) : (s.setRot p r).dbg = s.dbg := rfl

/-! ### setRegion -/

@[simp] theorem setRegion_pending (s : State) (r : Nat) (v : Region) : (s.setRegion r v).pending = s.pending := rfl
@[simp] theorem setRegion_out (s : State) (r : Nat) (v : Region) : (s.setRegion r v).out = s.out := rfl
@[simp] theorem setRegion_free (s : State) (r : Nat) (v : Region) : (s.setRegion r v).free = s.free := rfl
@[simp] theorem setRegion_dev (s : State) (r : Nat) (v : Region) : (s.setRegion r v).dev = s.dev := rfl
@[simp] theorem setRegion_objs (s : State) (r : Nat) (v : Region) : (s.setRegion r v).objs = s.objs := rfl
@[simp] theorem setRegion_flash (s : State) (r : Nat) (v : Region) : (s.setRegion r v).flash = s.flash := rfl
@[simp] theorem setRegion_mem (s : State) (r : Nat) (v : Region) : (s.setRegion r v).mem = s.mem := rfl
@[simp] theorem setRegion_boot (s : State) (r : Nat) (v : Region) : (s.setRegion r v).boot = s.boot := rfl
@[simp] theorem setRegion_meas (s : State) (r : Nat) (v : Region) : (s.setRegion r v).meas = s.meas := rfl
@[simp] theorem setRegion_clk (s : State) (r : Nat) (v : Region) : (s.setRegion r v).clk = s.clk := rfl
@[simp] theorem setRegion_cu (s : State) (r : Nat) (v : Region) : (s.setRegion r v).cu = s.cu := rfl
@[simp] theorem setRegion_pwr (s : State) (r : Nat) (v : Region) : (s.setRegion r v).pwr = s.pwr := rfl
@[simp] theorem setRegion_res (s : State) (r : Nat) (v : Region) : (s.setRegion r v).res = s.res := rfl
@[simp] theorem setRegion_x (s : State) (r : Nat) (v : Region) : (s.setRegion r v).x = s.x := rfl
@[simp] theorem setRegion_queues (s : State) (r : Nat) (v : Region) : (s.setRegion r v).queues = s.queues := rfl
@[simp] theorem setRegion_flow (s : State) (r : Nat) (v : Region) : (s.setRegion r v).flow = s.flow := rfl
@[simp] theorem setRegion_t1 (s : State) (r : Nat) (v : Region) : (s.setRegion r v).t1 = s.t1 := rfl
@[simp] theorem setRegion_st (s : State) (r : Nat) (v : Region) : (s.setRegion r v).st = s.st := rfl
@[simp] theorem setRegion_pool (s : State) (r : Nat) (v : Region) : (s.setRegion r v).pool = s.pool := rfl
@[simp] theorem setRegion_isle (s : State) (r : Nat) (v : Region) : (s.setRegion r v).isle = s.isle := rfl
@[simp] theorem setRegion_carts (s : State) (r : Nat) (v : Region) : (s.setRegion r v).carts = s.carts := rfl
@[simp] theorem setRegion_heat (s : State) (r : Nat) (v : Region) : (s.setRegion r v).heat = s.heat := rfl
@[simp] theorem setRegion_fault (s : State) (r : Nat) (v : Region) : (s.setRegion r v).fault = s.fault := rfl
@[simp] theorem setRegion_obs (s : State) (r : Nat) (v : Region) : (s.setRegion r v).obs = s.obs := rfl
@[simp] theorem setRegion_dbg (s : State) (r : Nat) (v : Region) : (s.setRegion r v).dbg = s.dbg := rfl

/-! ### setSlot -/

@[simp] theorem setSlot_pending (s : State) (p n : Nat) (v : Slot) : (s.setSlot p n v).pending = s.pending := rfl
@[simp] theorem setSlot_out (s : State) (p n : Nat) (v : Slot) : (s.setSlot p n v).out = s.out := rfl
@[simp] theorem setSlot_free (s : State) (p n : Nat) (v : Slot) : (s.setSlot p n v).free = s.free := rfl
@[simp] theorem setSlot_dev (s : State) (p n : Nat) (v : Slot) : (s.setSlot p n v).dev = s.dev := rfl
@[simp] theorem setSlot_objs (s : State) (p n : Nat) (v : Slot) : (s.setSlot p n v).objs = s.objs := rfl
@[simp] theorem setSlot_flash (s : State) (p n : Nat) (v : Slot) : (s.setSlot p n v).flash = s.flash := rfl
@[simp] theorem setSlot_mem (s : State) (p n : Nat) (v : Slot) : (s.setSlot p n v).mem = s.mem := rfl
@[simp] theorem setSlot_boot (s : State) (p n : Nat) (v : Slot) : (s.setSlot p n v).boot = s.boot := rfl
@[simp] theorem setSlot_meas (s : State) (p n : Nat) (v : Slot) : (s.setSlot p n v).meas = s.meas := rfl
@[simp] theorem setSlot_clk (s : State) (p n : Nat) (v : Slot) : (s.setSlot p n v).clk = s.clk := rfl
@[simp] theorem setSlot_cu (s : State) (p n : Nat) (v : Slot) : (s.setSlot p n v).cu = s.cu := rfl
@[simp] theorem setSlot_pwr (s : State) (p n : Nat) (v : Slot) : (s.setSlot p n v).pwr = s.pwr := rfl
@[simp] theorem setSlot_res (s : State) (p n : Nat) (v : Slot) : (s.setSlot p n v).res = s.res := rfl
@[simp] theorem setSlot_x (s : State) (p n : Nat) (v : Slot) : (s.setSlot p n v).x = s.x := rfl
@[simp] theorem setSlot_queues (s : State) (p n : Nat) (v : Slot) : (s.setSlot p n v).queues = s.queues := rfl
@[simp] theorem setSlot_flow (s : State) (p n : Nat) (v : Slot) : (s.setSlot p n v).flow = s.flow := rfl
@[simp] theorem setSlot_t1 (s : State) (p n : Nat) (v : Slot) : (s.setSlot p n v).t1 = s.t1 := rfl
@[simp] theorem setSlot_st (s : State) (p n : Nat) (v : Slot) : (s.setSlot p n v).st = s.st := rfl
@[simp] theorem setSlot_pool (s : State) (p n : Nat) (v : Slot) : (s.setSlot p n v).pool = s.pool := rfl
@[simp] theorem setSlot_isle (s : State) (p n : Nat) (v : Slot) : (s.setSlot p n v).isle = s.isle := rfl
@[simp] theorem setSlot_carts (s : State) (p n : Nat) (v : Slot) : (s.setSlot p n v).carts = s.carts := rfl
@[simp] theorem setSlot_heat (s : State) (p n : Nat) (v : Slot) : (s.setSlot p n v).heat = s.heat := rfl
@[simp] theorem setSlot_fault (s : State) (p n : Nat) (v : Slot) : (s.setSlot p n v).fault = s.fault := rfl
@[simp] theorem setSlot_obs (s : State) (p n : Nat) (v : Slot) : (s.setSlot p n v).obs = s.obs := rfl
@[simp] theorem setSlot_dbg (s : State) (p n : Nat) (v : Slot) : (s.setSlot p n v).dbg = s.dbg := rfl

/-! ### setT1 -/

@[simp] theorem setT1_pending (s : State) (q : T1Req) : (s.setT1 q).pending = s.pending := rfl
@[simp] theorem setT1_out (s : State) (q : T1Req) : (s.setT1 q).out = s.out := rfl
@[simp] theorem setT1_free (s : State) (q : T1Req) : (s.setT1 q).free = s.free := rfl
@[simp] theorem setT1_dev (s : State) (q : T1Req) : (s.setT1 q).dev = s.dev := rfl
@[simp] theorem setT1_objs (s : State) (q : T1Req) : (s.setT1 q).objs = s.objs := rfl
@[simp] theorem setT1_flash (s : State) (q : T1Req) : (s.setT1 q).flash = s.flash := rfl
@[simp] theorem setT1_mem (s : State) (q : T1Req) : (s.setT1 q).mem = s.mem := rfl
@[simp] theorem setT1_boot (s : State) (q : T1Req) : (s.setT1 q).boot = s.boot := rfl
@[simp] theorem setT1_meas (s : State) (q : T1Req) : (s.setT1 q).meas = s.meas := rfl
@[simp] theorem setT1_clk (s : State) (q : T1Req) : (s.setT1 q).clk = s.clk := rfl
@[simp] theorem setT1_cu (s : State) (q : T1Req) : (s.setT1 q).cu = s.cu := rfl
@[simp] theorem setT1_pwr (s : State) (q : T1Req) : (s.setT1 q).pwr = s.pwr := rfl
@[simp] theorem setT1_res (s : State) (q : T1Req) : (s.setT1 q).res = s.res := rfl
@[simp] theorem setT1_x (s : State) (q : T1Req) : (s.setT1 q).x = s.x := rfl
@[simp] theorem setT1_queues (s : State) (q : T1Req) : (s.setT1 q).queues = s.queues := rfl
@[simp] theorem setT1_flow (s : State) (q : T1Req) : (s.setT1 q).flow = s.flow := rfl
@[simp] theorem setT1_m (s : State) (q : T1Req) : (s.setT1 q).m = s.m := rfl
@[simp] theorem setT1_st (s : State) (q : T1Req) : (s.setT1 q).st = s.st := rfl
@[simp] theorem setT1_pool (s : State) (q : T1Req) : (s.setT1 q).pool = s.pool := rfl
@[simp] theorem setT1_isle (s : State) (q : T1Req) : (s.setT1 q).isle = s.isle := rfl
@[simp] theorem setT1_carts (s : State) (q : T1Req) : (s.setT1 q).carts = s.carts := rfl
@[simp] theorem setT1_heat (s : State) (q : T1Req) : (s.setT1 q).heat = s.heat := rfl
@[simp] theorem setT1_fault (s : State) (q : T1Req) : (s.setT1 q).fault = s.fault := rfl
@[simp] theorem setT1_obs (s : State) (q : T1Req) : (s.setT1 q).obs = s.obs := rfl
@[simp] theorem setT1_dbg (s : State) (q : T1Req) : (s.setT1 q).dbg = s.dbg := rfl

/-! ### dropT1 -/

@[simp] theorem dropT1_pending (s : State) (id : Nat) : (s.dropT1 id).pending = s.pending := rfl
@[simp] theorem dropT1_out (s : State) (id : Nat) : (s.dropT1 id).out = s.out := rfl
@[simp] theorem dropT1_free (s : State) (id : Nat) : (s.dropT1 id).free = s.free := rfl
@[simp] theorem dropT1_dev (s : State) (id : Nat) : (s.dropT1 id).dev = s.dev := rfl
@[simp] theorem dropT1_objs (s : State) (id : Nat) : (s.dropT1 id).objs = s.objs := rfl
@[simp] theorem dropT1_flash (s : State) (id : Nat) : (s.dropT1 id).flash = s.flash := rfl
@[simp] theorem dropT1_mem (s : State) (id : Nat) : (s.dropT1 id).mem = s.mem := rfl
@[simp] theorem dropT1_boot (s : State) (id : Nat) : (s.dropT1 id).boot = s.boot := rfl
@[simp] theorem dropT1_meas (s : State) (id : Nat) : (s.dropT1 id).meas = s.meas := rfl
@[simp] theorem dropT1_clk (s : State) (id : Nat) : (s.dropT1 id).clk = s.clk := rfl
@[simp] theorem dropT1_cu (s : State) (id : Nat) : (s.dropT1 id).cu = s.cu := rfl
@[simp] theorem dropT1_pwr (s : State) (id : Nat) : (s.dropT1 id).pwr = s.pwr := rfl
@[simp] theorem dropT1_res (s : State) (id : Nat) : (s.dropT1 id).res = s.res := rfl
@[simp] theorem dropT1_x (s : State) (id : Nat) : (s.dropT1 id).x = s.x := rfl
@[simp] theorem dropT1_queues (s : State) (id : Nat) : (s.dropT1 id).queues = s.queues := rfl
@[simp] theorem dropT1_flow (s : State) (id : Nat) : (s.dropT1 id).flow = s.flow := rfl
@[simp] theorem dropT1_m (s : State) (id : Nat) : (s.dropT1 id).m = s.m := rfl
@[simp] theorem dropT1_st (s : State) (id : Nat) : (s.dropT1 id).st = s.st := rfl
@[simp] theorem dropT1_pool (s : State) (id : Nat) : (s.dropT1 id).pool = s.pool := rfl
@[simp] theorem dropT1_isle (s : State) (id : Nat) : (s.dropT1 id).isle = s.isle := rfl
@[simp] theorem dropT1_carts (s : State) (id : Nat) : (s.dropT1 id).carts = s.carts := rfl
@[simp] theorem dropT1_heat (s : State) (id : Nat) : (s.dropT1 id).heat = s.heat := rfl
@[simp] theorem dropT1_fault (s : State) (id : Nat) : (s.dropT1 id).fault = s.fault := rfl
@[simp] theorem dropT1_obs (s : State) (id : Nat) : (s.dropT1 id).obs = s.obs := rfl
@[simp] theorem dropT1_dbg (s : State) (id : Nat) : (s.dropT1 id).dbg = s.dbg := rfl

/-! ### setSrc -/

@[simp] theorem setSrc_pending (s : State) (n : Nat) (v : TSrc) : (s.setSrc n v).pending = s.pending := rfl
@[simp] theorem setSrc_out (s : State) (n : Nat) (v : TSrc) : (s.setSrc n v).out = s.out := rfl
@[simp] theorem setSrc_free (s : State) (n : Nat) (v : TSrc) : (s.setSrc n v).free = s.free := rfl
@[simp] theorem setSrc_dev (s : State) (n : Nat) (v : TSrc) : (s.setSrc n v).dev = s.dev := rfl
@[simp] theorem setSrc_objs (s : State) (n : Nat) (v : TSrc) : (s.setSrc n v).objs = s.objs := rfl
@[simp] theorem setSrc_flash (s : State) (n : Nat) (v : TSrc) : (s.setSrc n v).flash = s.flash := rfl
@[simp] theorem setSrc_mem (s : State) (n : Nat) (v : TSrc) : (s.setSrc n v).mem = s.mem := rfl
@[simp] theorem setSrc_boot (s : State) (n : Nat) (v : TSrc) : (s.setSrc n v).boot = s.boot := rfl
@[simp] theorem setSrc_meas (s : State) (n : Nat) (v : TSrc) : (s.setSrc n v).meas = s.meas := rfl
@[simp] theorem setSrc_clk (s : State) (n : Nat) (v : TSrc) : (s.setSrc n v).clk = s.clk := rfl
@[simp] theorem setSrc_cu (s : State) (n : Nat) (v : TSrc) : (s.setSrc n v).cu = s.cu := rfl
@[simp] theorem setSrc_pwr (s : State) (n : Nat) (v : TSrc) : (s.setSrc n v).pwr = s.pwr := rfl
@[simp] theorem setSrc_res (s : State) (n : Nat) (v : TSrc) : (s.setSrc n v).res = s.res := rfl
@[simp] theorem setSrc_x (s : State) (n : Nat) (v : TSrc) : (s.setSrc n v).x = s.x := rfl
@[simp] theorem setSrc_queues (s : State) (n : Nat) (v : TSrc) : (s.setSrc n v).queues = s.queues := rfl
@[simp] theorem setSrc_flow (s : State) (n : Nat) (v : TSrc) : (s.setSrc n v).flow = s.flow := rfl
@[simp] theorem setSrc_t1 (s : State) (n : Nat) (v : TSrc) : (s.setSrc n v).t1 = s.t1 := rfl
@[simp] theorem setSrc_m (s : State) (n : Nat) (v : TSrc) : (s.setSrc n v).m = s.m := rfl
@[simp] theorem setSrc_st (s : State) (n : Nat) (v : TSrc) : (s.setSrc n v).st = s.st := rfl
@[simp] theorem setSrc_pool (s : State) (n : Nat) (v : TSrc) : (s.setSrc n v).pool = s.pool := rfl
@[simp] theorem setSrc_isle (s : State) (n : Nat) (v : TSrc) : (s.setSrc n v).isle = s.isle := rfl
@[simp] theorem setSrc_carts (s : State) (n : Nat) (v : TSrc) : (s.setSrc n v).carts = s.carts := rfl
@[simp] theorem setSrc_heat (s : State) (n : Nat) (v : TSrc) : (s.setSrc n v).heat = s.heat := rfl
@[simp] theorem setSrc_fault (s : State) (n : Nat) (v : TSrc) : (s.setSrc n v).fault = s.fault := rfl
@[simp] theorem setSrc_dbg (s : State) (n : Nat) (v : TSrc) : (s.setSrc n v).dbg = s.dbg := rfl

/-! ### setCanPart -/

@[simp] theorem setCanPart_pending (s : State) (n : Nat) (p : Option CanPart) : (s.setCanPart n p).pending = s.pending := rfl
@[simp] theorem setCanPart_out (s : State) (n : Nat) (p : Option CanPart) : (s.setCanPart n p).out = s.out := rfl
@[simp] theorem setCanPart_free (s : State) (n : Nat) (p : Option CanPart) : (s.setCanPart n p).free = s.free := rfl
@[simp] theorem setCanPart_dev (s : State) (n : Nat) (p : Option CanPart) : (s.setCanPart n p).dev = s.dev := rfl
@[simp] theorem setCanPart_objs (s : State) (n : Nat) (p : Option CanPart) : (s.setCanPart n p).objs = s.objs := rfl
@[simp] theorem setCanPart_flash (s : State) (n : Nat) (p : Option CanPart) : (s.setCanPart n p).flash = s.flash := rfl
@[simp] theorem setCanPart_mem (s : State) (n : Nat) (p : Option CanPart) : (s.setCanPart n p).mem = s.mem := rfl
@[simp] theorem setCanPart_boot (s : State) (n : Nat) (p : Option CanPart) : (s.setCanPart n p).boot = s.boot := rfl
@[simp] theorem setCanPart_meas (s : State) (n : Nat) (p : Option CanPart) : (s.setCanPart n p).meas = s.meas := rfl
@[simp] theorem setCanPart_clk (s : State) (n : Nat) (p : Option CanPart) : (s.setCanPart n p).clk = s.clk := rfl
@[simp] theorem setCanPart_pwr (s : State) (n : Nat) (p : Option CanPart) : (s.setCanPart n p).pwr = s.pwr := rfl
@[simp] theorem setCanPart_res (s : State) (n : Nat) (p : Option CanPart) : (s.setCanPart n p).res = s.res := rfl
@[simp] theorem setCanPart_x (s : State) (n : Nat) (p : Option CanPart) : (s.setCanPart n p).x = s.x := rfl
@[simp] theorem setCanPart_queues (s : State) (n : Nat) (p : Option CanPart) : (s.setCanPart n p).queues = s.queues := rfl
@[simp] theorem setCanPart_flow (s : State) (n : Nat) (p : Option CanPart) : (s.setCanPart n p).flow = s.flow := rfl
@[simp] theorem setCanPart_t1 (s : State) (n : Nat) (p : Option CanPart) : (s.setCanPart n p).t1 = s.t1 := rfl
@[simp] theorem setCanPart_m (s : State) (n : Nat) (p : Option CanPart) : (s.setCanPart n p).m = s.m := rfl
@[simp] theorem setCanPart_st (s : State) (n : Nat) (p : Option CanPart) : (s.setCanPart n p).st = s.st := rfl
@[simp] theorem setCanPart_pool (s : State) (n : Nat) (p : Option CanPart) : (s.setCanPart n p).pool = s.pool := rfl
@[simp] theorem setCanPart_isle (s : State) (n : Nat) (p : Option CanPart) : (s.setCanPart n p).isle = s.isle := rfl
@[simp] theorem setCanPart_carts (s : State) (n : Nat) (p : Option CanPart) : (s.setCanPart n p).carts = s.carts := rfl
@[simp] theorem setCanPart_heat (s : State) (n : Nat) (p : Option CanPart) : (s.setCanPart n p).heat = s.heat := rfl
@[simp] theorem setCanPart_fault (s : State) (n : Nat) (p : Option CanPart) : (s.setCanPart n p).fault = s.fault := rfl
@[simp] theorem setCanPart_obs (s : State) (n : Nat) (p : Option CanPart) : (s.setCanPart n p).obs = s.obs := rfl
@[simp] theorem setCanPart_dbg (s : State) (n : Nat) (p : Option CanPart) : (s.setCanPart n p).dbg = s.dbg := rfl

/-! ### The debug port -/

@[simp] theorem tapLoad_pending (s : State) (i : TapInstr) : (s.tapLoad i).pending = s.pending := rfl
@[simp] theorem tapLoad_out (s : State) (i : TapInstr) : (s.tapLoad i).out = s.out := rfl
@[simp] theorem tapLoad_free (s : State) (i : TapInstr) : (s.tapLoad i).free = s.free := rfl
@[simp] theorem tapLoad_dev (s : State) (i : TapInstr) : (s.tapLoad i).dev = s.dev := rfl
@[simp] theorem tapLoad_flash (s : State) (i : TapInstr) : (s.tapLoad i).flash = s.flash := rfl
@[simp] theorem tapLoad_mem (s : State) (i : TapInstr) : (s.tapLoad i).mem = s.mem := rfl
@[simp] theorem tapLoad_boot (s : State) (i : TapInstr) : (s.tapLoad i).boot = s.boot := rfl
@[simp] theorem tapLoad_meas (s : State) (i : TapInstr) : (s.tapLoad i).meas = s.meas := rfl
@[simp] theorem tapLoad_clk (s : State) (i : TapInstr) : (s.tapLoad i).clk = s.clk := rfl
@[simp] theorem tapLoad_cu (s : State) (i : TapInstr) : (s.tapLoad i).cu = s.cu := rfl
@[simp] theorem tapLoad_pwr (s : State) (i : TapInstr) : (s.tapLoad i).pwr = s.pwr := rfl
@[simp] theorem tapLoad_res (s : State) (i : TapInstr) : (s.tapLoad i).res = s.res := rfl
@[simp] theorem tapLoad_x (s : State) (i : TapInstr) : (s.tapLoad i).x = s.x := rfl
@[simp] theorem tapLoad_queues (s : State) (i : TapInstr) : (s.tapLoad i).queues = s.queues := rfl
@[simp] theorem tapLoad_flow (s : State) (i : TapInstr) : (s.tapLoad i).flow = s.flow := rfl
@[simp] theorem tapLoad_t1 (s : State) (i : TapInstr) : (s.tapLoad i).t1 = s.t1 := rfl
@[simp] theorem tapLoad_m (s : State) (i : TapInstr) : (s.tapLoad i).m = s.m := rfl
@[simp] theorem tapLoad_st (s : State) (i : TapInstr) : (s.tapLoad i).st = s.st := rfl
@[simp] theorem tapLoad_pool (s : State) (i : TapInstr) : (s.tapLoad i).pool = s.pool := rfl
@[simp] theorem tapLoad_isle (s : State) (i : TapInstr) : (s.tapLoad i).isle = s.isle := rfl
@[simp] theorem tapLoad_carts (s : State) (i : TapInstr) : (s.tapLoad i).carts = s.carts := rfl
@[simp] theorem tapLoad_heat (s : State) (i : TapInstr) : (s.tapLoad i).heat = s.heat := rfl
@[simp] theorem tapLoad_fault (s : State) (i : TapInstr) : (s.tapLoad i).fault = s.fault := rfl
@[simp] theorem tapLoad_obs (s : State) (i : TapInstr) : (s.tapLoad i).obs = s.obs := rfl
@[simp] theorem tapLoad_objs (s : State) (i : TapInstr) : (s.tapLoad i).objs = s.objs := rfl
@[simp] theorem uartLog_pending (s : State) (bs : Bytes) : (s.uartLog bs).pending = s.pending := rfl
@[simp] theorem uartLog_out (s : State) (bs : Bytes) : (s.uartLog bs).out = s.out := rfl
@[simp] theorem uartLog_free (s : State) (bs : Bytes) : (s.uartLog bs).free = s.free := rfl
@[simp] theorem uartLog_dev (s : State) (bs : Bytes) : (s.uartLog bs).dev = s.dev := rfl
@[simp] theorem uartLog_flash (s : State) (bs : Bytes) : (s.uartLog bs).flash = s.flash := rfl
@[simp] theorem uartLog_mem (s : State) (bs : Bytes) : (s.uartLog bs).mem = s.mem := rfl
@[simp] theorem uartLog_boot (s : State) (bs : Bytes) : (s.uartLog bs).boot = s.boot := rfl
@[simp] theorem uartLog_meas (s : State) (bs : Bytes) : (s.uartLog bs).meas = s.meas := rfl
@[simp] theorem uartLog_clk (s : State) (bs : Bytes) : (s.uartLog bs).clk = s.clk := rfl
@[simp] theorem uartLog_cu (s : State) (bs : Bytes) : (s.uartLog bs).cu = s.cu := rfl
@[simp] theorem uartLog_pwr (s : State) (bs : Bytes) : (s.uartLog bs).pwr = s.pwr := rfl
@[simp] theorem uartLog_res (s : State) (bs : Bytes) : (s.uartLog bs).res = s.res := rfl
@[simp] theorem uartLog_x (s : State) (bs : Bytes) : (s.uartLog bs).x = s.x := rfl
@[simp] theorem uartLog_queues (s : State) (bs : Bytes) : (s.uartLog bs).queues = s.queues := rfl
@[simp] theorem uartLog_flow (s : State) (bs : Bytes) : (s.uartLog bs).flow = s.flow := rfl
@[simp] theorem uartLog_t1 (s : State) (bs : Bytes) : (s.uartLog bs).t1 = s.t1 := rfl
@[simp] theorem uartLog_m (s : State) (bs : Bytes) : (s.uartLog bs).m = s.m := rfl
@[simp] theorem uartLog_st (s : State) (bs : Bytes) : (s.uartLog bs).st = s.st := rfl
@[simp] theorem uartLog_pool (s : State) (bs : Bytes) : (s.uartLog bs).pool = s.pool := rfl
@[simp] theorem uartLog_isle (s : State) (bs : Bytes) : (s.uartLog bs).isle = s.isle := rfl
@[simp] theorem uartLog_carts (s : State) (bs : Bytes) : (s.uartLog bs).carts = s.carts := rfl
@[simp] theorem uartLog_heat (s : State) (bs : Bytes) : (s.uartLog bs).heat = s.heat := rfl
@[simp] theorem uartLog_fault (s : State) (bs : Bytes) : (s.uartLog bs).fault = s.fault := rfl
@[simp] theorem uartLog_obs (s : State) (bs : Bytes) : (s.uartLog bs).obs = s.obs := rfl
@[simp] theorem uartLog_objs (s : State) (bs : Bytes) : (s.uartLog bs).objs = s.objs := rfl
@[simp] theorem tapLoad_dbg (s : State) (i : TapInstr) : (s.tapLoad i).dbg = { s.dbg with ir := i } := rfl
@[simp] theorem tapReset_dbg (s : State) : s.tapReset.dbg = { s.dbg with ir := .idcode } := rfl
@[simp] theorem uartLog_dbg (s : State) (bs : Bytes) : (s.uartLog bs).dbg = { s.dbg with tx := s.dbg.tx ++ bs } := rfl
/-- A production-fused device ignores what arrives on UART_RX (R475). -/
theorem uartIn_fused (s : State) (b : Byte) (h : s.dev.productionFused = 1) : s.uartIn b = s := by
  simp [State.uartIn, State.fused, h]

/-! ### What a table reads as after an update -/

@[simp] theorem obj_emit (s : State) (o : Out) (i : Nat) : (s.emit o).obj i = s.obj i := rfl
@[simp] theorem obj_setMeter (s : State) (i' : Nat) (m : Meter) (i : Nat) : (s.setMeter i' m).obj i = s.obj i := rfl
@[simp] theorem obj_setHolds (s : State) (n : Nat) (hs : List HeldKey) (i : Nat) : (s.setHolds n hs).obj i = s.obj i := rfl
@[simp] theorem obj_addHandle (s : State) (h : Handle) (i : Nat) : (s.addHandle h).obj i = s.obj i := rfl
@[simp] theorem obj_updHandle (s : State) (id : Nat) (f : Handle → Handle) (i : Nat) : (s.updHandle id f).obj i = s.obj i := rfl
@[simp] theorem obj_setEntry (s : State) (i' : Nat) (e : FEntry) (i : Nat) : (s.setEntry i' e).obj i = s.obj i := rfl
@[simp] theorem obj_setRec (s : State) (i' : Nat) (r : Option Rec) (i : Nat) : (s.setRec i' r).obj i = s.obj i := rfl
@[simp] theorem obj_setTag (s : State) (t : Nat) (v : LTag) (i : Nat) : (s.setTag t v).obj i = s.obj i := rfl
@[simp] theorem obj_setTrie (s : State) (target i' v : Nat) (i : Nat) : (s.setTrie target i' v).obj i = s.obj i := by
  unfold State.setTrie; split <;> rfl
@[simp] theorem obj_setRing (s : State) (k : Nat) (v : Ring) (i : Nat) : (s.setRing k v).obj i = s.obj i := rfl
@[simp] theorem obj_setBRing (s : State) (fn : Nat) (v : Ring) (i : Nat) : (s.setBRing fn v).obj i = s.obj i := rfl
@[simp] theorem obj_setCRing (s : State) (k : Nat) (v : CRing) (i : Nat) : (s.setCRing k v).obj i = s.obj i := rfl
@[simp] theorem obj_setSensor (s : State) (n : Nat) (v : Sensor) (i : Nat) : (s.setSensor n v).obj i = s.obj i := rfl
@[simp] theorem obj_setDuty (s : State) (q v : Nat) (i : Nat) : (s.setDuty q v).obj i = s.obj i := rfl
@[simp] theorem obj_setCore (s : State) (c : Nat) (k : Core) (i : Nat) : (s.setCore c k).obj i = s.obj i := rfl
@[simp] theorem obj_setMarr (s : State) (i' : Nat) (a : MArr) (i : Nat) : (s.setMarr i' a).obj i = s.obj i := rfl
@[simp] theorem obj_setSched (s : State) (n : Nat) (v : Sched) (i : Nat) : (s.setSched n v).obj i = s.obj i := rfl
@[simp] theorem obj_setCredit (s : State) (d w v : Nat) (i : Nat) : (s.setCredit d w v).obj i = s.obj i := rfl
@[simp] theorem obj_setSlotLock (s : State) (i' : Nat) (v : Option (Nat × Nat × Option Nat)) (i : Nat) : (s.setSlotLock i' v).obj i = s.obj i := rfl
@[simp] theorem obj_setPartSw (s : State) (p : Nat) (v : Part) (i : Nat) : (s.setPartSw p v).obj i = s.obj i := rfl
@[simp] theorem obj_setStrait (s : State) (i' : Nat) (v : Strait) (i : Nat) : (s.setStrait i' v).obj i = s.obj i := rfl
@[simp] theorem obj_setPeer (s : State) (d : Nat) (v : Peer) (i : Nat) : (s.setPeer d v).obj i = s.obj i := rfl
@[simp] theorem obj_setLatch (s : State) (fn : Nat) (v : Latch) (i : Nat) : (s.setLatch fn v).obj i = s.obj i := rfl
@[simp] theorem obj_setBox (s : State) (n : Nat) (b : MBox) (i : Nat) : (s.setBox n b).obj i = s.obj i := rfl
@[simp] theorem obj_setAgent (s : State) (n : Nat) (a : Option Agent) (i : Nat) : (s.setAgent n a).obj i = s.obj i := rfl
@[simp] theorem obj_addLight (s : State) (off n : Nat) (i : Nat) : (s.addLight off n).obj i = s.obj i := rfl
@[simp] theorem obj_memWrite (s : State) (a : Nat) (bs : Bytes) (i : Nat) : (s.memWrite a bs).obj i = s.obj i := rfl
@[simp] theorem obj_memLose (s : State) (a n : Nat) (i : Nat) : (s.memLose a n).obj i = s.obj i := rfl
@[simp] theorem obj_flashWrite (s : State) (a : Nat) (bs : Bytes) (i : Nat) : (s.flashWrite a bs).obj i = s.obj i := rfl
@[simp] theorem obj_flashErase (s : State) (a n : Nat) (i : Nat) : (s.flashErase a n).obj i = s.obj i := rfl
@[simp] theorem obj_setCart (s : State) (e : Nat) (c : Cart) (i : Nat) : (s.setCart e c).obj i = s.obj i := rfl
@[simp] theorem obj_killHandles (s : State) (p : Handle → Bool) (code : Nat) (i : Nat) : (s.killHandles p code).obj i = s.obj i := rfl
@[simp] theorem obj_setPort (s : State) (q : Nat) (p : Port) (i : Nat) : (s.setPort q p).obj i = s.obj i := rfl
@[simp] theorem obj_setQueue (s : State) (q : Nat) (v : Queue) (i : Nat) : (s.setQueue q v).obj i = s.obj i := rfl
@[simp] theorem obj_setEq (s : State) (q : Nat) (v : EQueue) (i : Nat) : (s.setEq q v).obj i = s.obj i := rfl
@[simp] theorem obj_setReg (s : State) (e : Nat) (v : RegEntry) (i : Nat) : (s.setReg e v).obj i = s.obj i := rfl
@[simp] theorem obj_setRot (s : State) (p : Nat) (r : Option Rot) (i : Nat) : (s.setRot p r).obj i = s.obj i := rfl
@[simp] theorem obj_setRegion (s : State) (r : Nat) (v : Region) (i : Nat) : (s.setRegion r v).obj i = s.obj i := rfl
@[simp] theorem obj_setSlot (s : State) (p n : Nat) (v : Slot) (i : Nat) : (s.setSlot p n v).obj i = s.obj i := rfl
@[simp] theorem obj_setT1 (s : State) (q : T1Req) (i : Nat) : (s.setT1 q).obj i = s.obj i := rfl
@[simp] theorem obj_dropT1 (s : State) (id : Nat) (i : Nat) : (s.dropT1 id).obj i = s.obj i := rfl
@[simp] theorem obj_setSrc (s : State) (n : Nat) (v : TSrc) (i : Nat) : (s.setSrc n v).obj i = s.obj i := rfl
@[simp] theorem obj_setCanPart (s : State) (n : Nat) (p : Option CanPart) (i : Nat) : (s.setCanPart n p).obj i = s.obj i := rfl
@[simp] theorem obj_setObj_same (s : State) (k v : Nat) : (s.setObj k v).obj k = v := by simp [State.obj, State.setObj]
theorem obj_setObj (s : State) (k v : Nat) (m' : Nat) : (s.setObj k v).obj m' = if m' = k then v else s.obj m' := by
  simp [State.obj, State.setObj, mget_mset]
theorem obj_setObj_other (s : State) (k v : Nat) (m' : Nat) (h : m' ≠ k) : (s.setObj k v).obj m' = s.obj m' := by
  simp [State.obj, State.setObj, mget_mset_other, h]
@[simp] theorem agent_addHandle (s : State) (h : Handle) (i : Nat) : (s.addHandle h).agent i = s.agent i := rfl
@[simp] theorem agent_updHandle (s : State) (id : Nat) (f : Handle → Handle) (i : Nat) : (s.updHandle id f).agent i = s.agent i := rfl
@[simp] theorem agent_killHandles (s : State) (p : Handle → Bool) (code : Nat) (i : Nat) : (s.killHandles p code).agent i = s.agent i := rfl
@[simp] theorem agent_setCanPart (s : State) (n : Nat) (p : Option CanPart) (i : Nat) : (s.setCanPart n p).agent i = s.agent i := rfl
@[simp] theorem box_addHandle (s : State) (h : Handle) (i : Nat) : (s.addHandle h).box i = s.box i := rfl
@[simp] theorem box_updHandle (s : State) (id : Nat) (f : Handle → Handle) (i : Nat) : (s.updHandle id f).box i = s.box i := rfl
@[simp] theorem box_setAgent (s : State) (n : Nat) (a : Option Agent) (i : Nat) : (s.setAgent n a).box i = s.box i := rfl
@[simp] theorem box_killHandles (s : State) (p : Handle → Bool) (code : Nat) (i : Nat) : (s.killHandles p code).box i = s.box i := rfl
@[simp] theorem box_setCanPart (s : State) (n : Nat) (p : Option CanPart) (i : Nat) : (s.setCanPart n p).box i = s.box i := rfl
@[simp] theorem box_setBox_same (s : State) (n : Nat) (b : MBox) : (s.setBox n b).box n = b := by simp [State.box, State.setBox]
theorem box_setBox (s : State) (n : Nat) (b : MBox) (m' : Nat) : (s.setBox n b).box m' = if m' = n then b else s.box m' := by
  simp [State.box, State.setBox, mget_mset]
theorem box_setBox_other (s : State) (n : Nat) (b : MBox) (m' : Nat) (h : m' ≠ n) : (s.setBox n b).box m' = s.box m' := by
  simp [State.box, State.setBox, mget_mset_other, h]
@[simp] theorem canPart_addHandle (s : State) (h : Handle) (i : Nat) : (s.addHandle h).canPart i = s.canPart i := rfl
@[simp] theorem canPart_updHandle (s : State) (id : Nat) (f : Handle → Handle) (i : Nat) : (s.updHandle id f).canPart i = s.canPart i := rfl
@[simp] theorem canPart_setBox (s : State) (n : Nat) (b : MBox) (i : Nat) : (s.setBox n b).canPart i = s.canPart i := rfl
@[simp] theorem canPart_setAgent (s : State) (n : Nat) (a : Option Agent) (i : Nat) : (s.setAgent n a).canPart i = s.canPart i := rfl
@[simp] theorem canPart_killHandles (s : State) (p : Handle → Bool) (code : Nat) (i : Nat) : (s.killHandles p code).canPart i = s.canPart i := rfl
@[simp] theorem canPart_setCanPart_same (s : State) (n : Nat) (p : Option CanPart) : (s.setCanPart n p).canPart n = p := by simp [State.canPart, State.setCanPart]
theorem canPart_setCanPart (s : State) (n : Nat) (p : Option CanPart) (m' : Nat) : (s.setCanPart n p).canPart m' = if m' = n then p else s.canPart m' := by
  simp [State.canPart, State.setCanPart, mget_mset]
theorem canPart_setCanPart_other (s : State) (n : Nat) (p : Option CanPart) (m' : Nat) (h : m' ≠ n) : (s.setCanPart n p).canPart m' = s.canPart m' := by
  simp [State.canPart, State.setCanPart, mget_mset_other, h]
@[simp] theorem entry_setTag (s : State) (t : Nat) (v : LTag) (i : Nat) : (s.setTag t v).entry i = s.entry i := rfl
@[simp] theorem entry_setTrie (s : State) (target i' v : Nat) (i : Nat) : (s.setTrie target i' v).entry i = s.entry i := by
  unfold State.setTrie; split <;> rfl
@[simp] theorem entry_setRing (s : State) (k : Nat) (v : Ring) (i : Nat) : (s.setRing k v).entry i = s.entry i := rfl
@[simp] theorem entry_setBRing (s : State) (fn : Nat) (v : Ring) (i : Nat) : (s.setBRing fn v).entry i = s.entry i := rfl
@[simp] theorem entry_setCRing (s : State) (k : Nat) (v : CRing) (i : Nat) : (s.setCRing k v).entry i = s.entry i := rfl
@[simp] theorem entry_setEntry_same (s : State) (i : Nat) (e : FEntry) : (s.setEntry i e).entry i = e := by simp [State.entry, State.setEntry]
theorem entry_setEntry (s : State) (i : Nat) (e : FEntry) (m' : Nat) : (s.setEntry i e).entry m' = if m' = i then e else s.entry m' := by
  simp [State.entry, State.setEntry, mget_mset]
theorem entry_setEntry_other (s : State) (i : Nat) (e : FEntry) (m' : Nat) (h : m' ≠ i) : (s.setEntry i e).entry m' = s.entry m' := by
  simp [State.entry, State.setEntry, mget_mset_other, h]
@[simp] theorem tag_setEntry (s : State) (i' : Nat) (e : FEntry) (i : Nat) : (s.setEntry i' e).tag i = s.tag i := rfl
@[simp] theorem tag_setTrie (s : State) (target i' v : Nat) (i : Nat) : (s.setTrie target i' v).tag i = s.tag i := by
  unfold State.setTrie; split <;> rfl
@[simp] theorem tag_setRing (s : State) (k : Nat) (v : Ring) (i : Nat) : (s.setRing k v).tag i = s.tag i := rfl
@[simp] theorem tag_setBRing (s : State) (fn : Nat) (v : Ring) (i : Nat) : (s.setBRing fn v).tag i = s.tag i := rfl
@[simp] theorem tag_setCRing (s : State) (k : Nat) (v : CRing) (i : Nat) : (s.setCRing k v).tag i = s.tag i := rfl
@[simp] theorem tag_setTag_same (s : State) (t : Nat) (v : LTag) : (s.setTag t v).tag t = v := by simp [State.tag, State.setTag]
theorem tag_setTag (s : State) (t : Nat) (v : LTag) (m' : Nat) : (s.setTag t v).tag m' = if m' = t then v else s.tag m' := by
  simp [State.tag, State.setTag, mget_mset]
theorem tag_setTag_other (s : State) (t : Nat) (v : LTag) (m' : Nat) (h : m' ≠ t) : (s.setTag t v).tag m' = s.tag m' := by
  simp [State.tag, State.setTag, mget_mset_other, h]
@[simp] theorem ring_setEntry (s : State) (i' : Nat) (e : FEntry) (i : Nat) : (s.setEntry i' e).ring i = s.ring i := rfl
@[simp] theorem ring_setTag (s : State) (t : Nat) (v : LTag) (i : Nat) : (s.setTag t v).ring i = s.ring i := rfl
@[simp] theorem ring_setTrie (s : State) (target i' v : Nat) (i : Nat) : (s.setTrie target i' v).ring i = s.ring i := by
  unfold State.setTrie; split <;> rfl
@[simp] theorem ring_setBRing (s : State) (fn : Nat) (v : Ring) (i : Nat) : (s.setBRing fn v).ring i = s.ring i := rfl
@[simp] theorem ring_setCRing (s : State) (k : Nat) (v : CRing) (i : Nat) : (s.setCRing k v).ring i = s.ring i := rfl
@[simp] theorem ring_setRing_same (s : State) (k : Nat) (v : Ring) : (s.setRing k v).ring k = v := by simp [State.ring, State.setRing]
theorem ring_setRing (s : State) (k : Nat) (v : Ring) (m' : Nat) : (s.setRing k v).ring m' = if m' = k then v else s.ring m' := by
  simp [State.ring, State.setRing, mget_mset]
theorem ring_setRing_other (s : State) (k : Nat) (v : Ring) (m' : Nat) (h : m' ≠ k) : (s.setRing k v).ring m' = s.ring m' := by
  simp [State.ring, State.setRing, mget_mset_other, h]
@[simp] theorem bRing_setEntry (s : State) (i' : Nat) (e : FEntry) (i : Nat) : (s.setEntry i' e).bRing i = s.bRing i := rfl
@[simp] theorem bRing_setTag (s : State) (t : Nat) (v : LTag) (i : Nat) : (s.setTag t v).bRing i = s.bRing i := rfl
@[simp] theorem bRing_setTrie (s : State) (target i' v : Nat) (i : Nat) : (s.setTrie target i' v).bRing i = s.bRing i := by
  unfold State.setTrie; split <;> rfl
@[simp] theorem bRing_setRing (s : State) (k : Nat) (v : Ring) (i : Nat) : (s.setRing k v).bRing i = s.bRing i := rfl
@[simp] theorem bRing_setCRing (s : State) (k : Nat) (v : CRing) (i : Nat) : (s.setCRing k v).bRing i = s.bRing i := rfl
@[simp] theorem bRing_setBRing_same (s : State) (fn : Nat) (v : Ring) : (s.setBRing fn v).bRing fn = v := by simp [State.bRing, State.setBRing]
theorem bRing_setBRing (s : State) (fn : Nat) (v : Ring) (m' : Nat) : (s.setBRing fn v).bRing m' = if m' = fn then v else s.bRing m' := by
  simp [State.bRing, State.setBRing, mget_mset]
theorem bRing_setBRing_other (s : State) (fn : Nat) (v : Ring) (m' : Nat) (h : m' ≠ fn) : (s.setBRing fn v).bRing m' = s.bRing m' := by
  simp [State.bRing, State.setBRing, mget_mset_other, h]
@[simp] theorem cRing_setEntry (s : State) (i' : Nat) (e : FEntry) (i : Nat) : (s.setEntry i' e).cRing i = s.cRing i := rfl
@[simp] theorem cRing_setTag (s : State) (t : Nat) (v : LTag) (i : Nat) : (s.setTag t v).cRing i = s.cRing i := rfl
@[simp] theorem cRing_setTrie (s : State) (target i' v : Nat) (i : Nat) : (s.setTrie target i' v).cRing i = s.cRing i := by
  unfold State.setTrie; split <;> rfl
@[simp] theorem cRing_setRing (s : State) (k : Nat) (v : Ring) (i : Nat) : (s.setRing k v).cRing i = s.cRing i := rfl
@[simp] theorem cRing_setBRing (s : State) (fn : Nat) (v : Ring) (i : Nat) : (s.setBRing fn v).cRing i = s.cRing i := rfl
@[simp] theorem cRing_setCRing_same (s : State) (k : Nat) (v : CRing) : (s.setCRing k v).cRing k = v := by simp [State.cRing, State.setCRing]
theorem cRing_setCRing (s : State) (k : Nat) (v : CRing) (m' : Nat) : (s.setCRing k v).cRing m' = if m' = k then v else s.cRing m' := by
  simp [State.cRing, State.setCRing, mget_mset]
theorem cRing_setCRing_other (s : State) (k : Nat) (v : CRing) (m' : Nat) (h : m' ≠ k) : (s.setCRing k v).cRing m' = s.cRing m' := by
  simp [State.cRing, State.setCRing, mget_mset_other, h]
@[simp] theorem trieAt_setEntry (s : State) (i' : Nat) (e : FEntry) (i j : Nat) : (s.setEntry i' e).trieAt i j = s.trieAt i j := rfl
@[simp] theorem trieAt_setTag (s : State) (t : Nat) (v : LTag) (i j : Nat) : (s.setTag t v).trieAt i j = s.trieAt i j := rfl
@[simp] theorem trieAt_setRing (s : State) (k : Nat) (v : Ring) (i j : Nat) : (s.setRing k v).trieAt i j = s.trieAt i j := rfl
@[simp] theorem trieAt_setBRing (s : State) (fn : Nat) (v : Ring) (i j : Nat) : (s.setBRing fn v).trieAt i j = s.trieAt i j := rfl
@[simp] theorem trieAt_setCRing (s : State) (k : Nat) (v : CRing) (i j : Nat) : (s.setCRing k v).trieAt i j = s.trieAt i j := rfl
/-- A word of the tables reads as it was written, but the result entry of index 0, which is fixed (R202, R206). -/
theorem trieAt_setTrie_same (s : State) (target i v : Nat) (h : ¬(target = 9 ∧ i = 0)) : (s.setTrie target i v).trieAt target i = v := by
  simp [State.trieAt, State.setTrie, h]
theorem trieAt_setTrie_other (s : State) (target i v : Nat) (i' j' : Nat) (h : i' * 2 ^ 32 + j' ≠ target * 2 ^ 32 + i) : (s.setTrie target i v).trieAt i' j' = s.trieAt i' j' := by
  unfold State.setTrie
  split
  · rfl
  · exact mget_mset_other _ _ _ _ _ h
@[simp] theorem meter_setHolds (s : State) (n : Nat) (hs : List HeldKey) (i : Nat) : (s.setHolds n hs).meter i = s.meter i := rfl
@[simp] theorem meter_setPort (s : State) (q : Nat) (p : Port) (i : Nat) : (s.setPort q p).meter i = s.meter i := rfl
@[simp] theorem meter_setEq (s : State) (q : Nat) (v : EQueue) (i : Nat) : (s.setEq q v).meter i = s.meter i := rfl
@[simp] theorem meter_setMeter_same (s : State) (i : Nat) (m : Meter) : (s.setMeter i m).meter i = m := by simp [State.meter, State.setMeter]
theorem meter_setMeter (s : State) (i : Nat) (m : Meter) (m' : Nat) : (s.setMeter i m).meter m' = if m' = i then m else s.meter m' := by
  simp [State.meter, State.setMeter, mget_mset]
theorem meter_setMeter_other (s : State) (i : Nat) (m : Meter) (m' : Nat) (h : m' ≠ i) : (s.setMeter i m).meter m' = s.meter m' := by
  simp [State.meter, State.setMeter, mget_mset_other, h]
@[simp] theorem holds_setMeter (s : State) (i' : Nat) (m : Meter) (i : Nat) : (s.setMeter i' m).holds i = s.holds i := rfl
@[simp] theorem holds_setPort (s : State) (q : Nat) (p : Port) (i : Nat) : (s.setPort q p).holds i = s.holds i := rfl
@[simp] theorem holds_setEq (s : State) (q : Nat) (v : EQueue) (i : Nat) : (s.setEq q v).holds i = s.holds i := rfl
@[simp] theorem holds_setHolds_same (s : State) (n : Nat) (hs : List HeldKey) : (s.setHolds n hs).holds n = hs := by simp [State.holds, State.setHolds]
theorem holds_setHolds (s : State) (n : Nat) (hs : List HeldKey) (m' : Nat) : (s.setHolds n hs).holds m' = if m' = n then hs else s.holds m' := by
  simp [State.holds, State.setHolds, mget_mset]
theorem holds_setHolds_other (s : State) (n : Nat) (hs : List HeldKey) (m' : Nat) (h : m' ≠ n) : (s.setHolds n hs).holds m' = s.holds m' := by
  simp [State.holds, State.setHolds, mget_mset_other, h]
@[simp] theorem port_setMeter (s : State) (i' : Nat) (m : Meter) (i : Nat) : (s.setMeter i' m).port i = s.port i := rfl
@[simp] theorem port_setHolds (s : State) (n : Nat) (hs : List HeldKey) (i : Nat) : (s.setHolds n hs).port i = s.port i := rfl
@[simp] theorem port_setEq (s : State) (q : Nat) (v : EQueue) (i : Nat) : (s.setEq q v).port i = s.port i := rfl
@[simp] theorem port_setPort_same (s : State) (q : Nat) (p : Port) : (s.setPort q p).port q = p := by simp [State.port, State.setPort]
theorem port_setPort (s : State) (q : Nat) (p : Port) (m' : Nat) : (s.setPort q p).port m' = if m' = q then p else s.port m' := by
  simp [State.port, State.setPort, mget_mset]
theorem port_setPort_other (s : State) (q : Nat) (p : Port) (m' : Nat) (h : m' ≠ q) : (s.setPort q p).port m' = s.port m' := by
  simp [State.port, State.setPort, mget_mset_other, h]
@[simp] theorem eq_setMeter (s : State) (i' : Nat) (m : Meter) (i : Nat) : (s.setMeter i' m).eq i = s.eq i := rfl
@[simp] theorem eq_setHolds (s : State) (n : Nat) (hs : List HeldKey) (i : Nat) : (s.setHolds n hs).eq i = s.eq i := rfl
@[simp] theorem eq_setPort (s : State) (q : Nat) (p : Port) (i : Nat) : (s.setPort q p).eq i = s.eq i := rfl
@[simp] theorem eq_setEq_same (s : State) (q : Nat) (v : EQueue) : (s.setEq q v).eq q = v := by simp [State.eq, State.setEq]
theorem eq_setEq (s : State) (q : Nat) (v : EQueue) (m' : Nat) : (s.setEq q v).eq m' = if m' = q then v else s.eq m' := by
  simp [State.eq, State.setEq, mget_mset]
theorem eq_setEq_other (s : State) (q : Nat) (v : EQueue) (m' : Nat) (h : m' ≠ q) : (s.setEq q v).eq m' = s.eq m' := by
  simp [State.eq, State.setEq, mget_mset_other, h]
@[simp] theorem sensor_setDuty (s : State) (q v : Nat) (i : Nat) : (s.setDuty q v).sensor i = s.sensor i := rfl
@[simp] theorem sensor_setRot (s : State) (p : Nat) (r : Option Rot) (i : Nat) : (s.setRot p r).sensor i = s.sensor i := rfl
@[simp] theorem sensor_setSensor_same (s : State) (n : Nat) (v : Sensor) : (s.setSensor n v).sensor n = v := by simp [State.sensor, State.setSensor]
theorem sensor_setSensor (s : State) (n : Nat) (v : Sensor) (m' : Nat) : (s.setSensor n v).sensor m' = if m' = n then v else s.sensor m' := by
  simp [State.sensor, State.setSensor, mget_mset]
theorem sensor_setSensor_other (s : State) (n : Nat) (v : Sensor) (m' : Nat) (h : m' ≠ n) : (s.setSensor n v).sensor m' = s.sensor m' := by
  simp [State.sensor, State.setSensor, mget_mset_other, h]
@[simp] theorem duty_setSensor (s : State) (n : Nat) (v : Sensor) (i : Nat) : (s.setSensor n v).duty i = s.duty i := rfl
@[simp] theorem duty_setRot (s : State) (p : Nat) (r : Option Rot) (i : Nat) : (s.setRot p r).duty i = s.duty i := rfl
@[simp] theorem duty_setDuty_same (s : State) (q v : Nat) : (s.setDuty q v).duty q = v := by simp [State.duty, State.setDuty]
theorem duty_setDuty (s : State) (q v : Nat) (m' : Nat) : (s.setDuty q v).duty m' = if m' = q then v else s.duty m' := by
  simp [State.duty, State.setDuty, mget_mset]
theorem duty_setDuty_other (s : State) (q v : Nat) (m' : Nat) (h : m' ≠ q) : (s.setDuty q v).duty m' = s.duty m' := by
  simp [State.duty, State.setDuty, mget_mset_other, h]
@[simp] theorem rotOf_setSensor (s : State) (n : Nat) (v : Sensor) (i : Nat) : (s.setSensor n v).rotOf i = s.rotOf i := rfl
@[simp] theorem rotOf_setDuty (s : State) (q v : Nat) (i : Nat) : (s.setDuty q v).rotOf i = s.rotOf i := rfl
@[simp] theorem rotOf_setRot_same (s : State) (p : Nat) (r : Option Rot) : (s.setRot p r).rotOf p = r := by simp [State.rotOf, State.setRot]
theorem rotOf_setRot (s : State) (p : Nat) (r : Option Rot) (m' : Nat) : (s.setRot p r).rotOf m' = if m' = p then r else s.rotOf m' := by
  simp [State.rotOf, State.setRot, mget_mset]
theorem rotOf_setRot_other (s : State) (p : Nat) (r : Option Rot) (m' : Nat) (h : m' ≠ p) : (s.setRot p r).rotOf m' = s.rotOf m' := by
  simp [State.rotOf, State.setRot, mget_mset_other, h]
@[simp] theorem core_setMarr (s : State) (i' : Nat) (a : MArr) (i : Nat) : (s.setMarr i' a).core i = s.core i := rfl
@[simp] theorem core_setSched (s : State) (n : Nat) (v : Sched) (i : Nat) : (s.setSched n v).core i = s.core i := rfl
@[simp] theorem core_setCore_same (s : State) (c : Nat) (k : Core) : (s.setCore c k).core c = k := by simp [State.core, State.setCore]
theorem core_setCore (s : State) (c : Nat) (k : Core) (m' : Nat) : (s.setCore c k).core m' = if m' = c then k else s.core m' := by
  simp [State.core, State.setCore, mget_mset]
theorem core_setCore_other (s : State) (c : Nat) (k : Core) (m' : Nat) (h : m' ≠ c) : (s.setCore c k).core m' = s.core m' := by
  simp [State.core, State.setCore, mget_mset_other, h]
@[simp] theorem marr_setCore (s : State) (c : Nat) (k : Core) (i : Nat) : (s.setCore c k).marr i = s.marr i := rfl
@[simp] theorem marr_setSched (s : State) (n : Nat) (v : Sched) (i : Nat) : (s.setSched n v).marr i = s.marr i := rfl
@[simp] theorem marr_setMarr_same (s : State) (i : Nat) (a : MArr) : (s.setMarr i a).marr i = a := by simp [State.marr, State.setMarr]
theorem marr_setMarr (s : State) (i : Nat) (a : MArr) (m' : Nat) : (s.setMarr i a).marr m' = if m' = i then a else s.marr m' := by
  simp [State.marr, State.setMarr, mget_mset]
theorem marr_setMarr_other (s : State) (i : Nat) (a : MArr) (m' : Nat) (h : m' ≠ i) : (s.setMarr i a).marr m' = s.marr m' := by
  simp [State.marr, State.setMarr, mget_mset_other, h]
@[simp] theorem sched_setCore (s : State) (c : Nat) (k : Core) (i : Nat) : (s.setCore c k).sched i = s.sched i := rfl
@[simp] theorem sched_setMarr (s : State) (i' : Nat) (a : MArr) (i : Nat) : (s.setMarr i' a).sched i = s.sched i := rfl
@[simp] theorem sched_setSched_same (s : State) (n : Nat) (v : Sched) : (s.setSched n v).sched n = v := by simp [State.sched, State.setSched]
theorem sched_setSched (s : State) (n : Nat) (v : Sched) (m' : Nat) : (s.setSched n v).sched m' = if m' = n then v else s.sched m' := by
  simp [State.sched, State.setSched, mget_mset]
theorem sched_setSched_other (s : State) (n : Nat) (v : Sched) (m' : Nat) (h : m' ≠ n) : (s.setSched n v).sched m' = s.sched m' := by
  simp [State.sched, State.setSched, mget_mset_other, h]
@[simp] theorem credit_setSlotLock (s : State) (i' : Nat) (v : Option (Nat × Nat × Option Nat)) (i j : Nat) : (s.setSlotLock i' v).credit i j = s.credit i j := rfl
@[simp] theorem credit_setPeer (s : State) (d : Nat) (v : Peer) (i j : Nat) : (s.setPeer d v).credit i j = s.credit i j := rfl
@[simp] theorem credit_setReg (s : State) (e : Nat) (v : RegEntry) (i j : Nat) : (s.setReg e v).credit i j = s.credit i j := rfl
@[simp] theorem credit_setCredit_same (s : State) (d w v : Nat) : (s.setCredit d w v).credit d w = v := by simp [State.credit, State.setCredit]
theorem credit_setCredit_other (s : State) (d w v : Nat) (i' j' : Nat) (h : 64 * i' + j' ≠ 64 * d + w) : (s.setCredit d w v).credit i' j' = s.credit i' j' :=
  mget_mset_other _ _ _ _ _ h
@[simp] theorem slotLockOf_setCredit (s : State) (d w v : Nat) (i : Nat) : (s.setCredit d w v).slotLockOf i = s.slotLockOf i := rfl
@[simp] theorem slotLockOf_setPeer (s : State) (d : Nat) (v : Peer) (i : Nat) : (s.setPeer d v).slotLockOf i = s.slotLockOf i := rfl
@[simp] theorem slotLockOf_setReg (s : State) (e : Nat) (v : RegEntry) (i : Nat) : (s.setReg e v).slotLockOf i = s.slotLockOf i := rfl
@[simp] theorem slotLockOf_setSlotLock_same (s : State) (i : Nat) (v : Option (Nat × Nat × Option Nat)) : (s.setSlotLock i v).slotLockOf i = v := by simp [State.slotLockOf, State.setSlotLock]
theorem slotLockOf_setSlotLock (s : State) (i : Nat) (v : Option (Nat × Nat × Option Nat)) (m' : Nat) : (s.setSlotLock i v).slotLockOf m' = if m' = i then v else s.slotLockOf m' := by
  simp [State.slotLockOf, State.setSlotLock, mget_mset]
theorem slotLockOf_setSlotLock_other (s : State) (i : Nat) (v : Option (Nat × Nat × Option Nat)) (m' : Nat) (h : m' ≠ i) : (s.setSlotLock i v).slotLockOf m' = s.slotLockOf m' := by
  simp [State.slotLockOf, State.setSlotLock, mget_mset_other, h]
@[simp] theorem peer_setCredit (s : State) (d w v : Nat) (i : Nat) : (s.setCredit d w v).peer i = s.peer i := rfl
@[simp] theorem peer_setSlotLock (s : State) (i' : Nat) (v : Option (Nat × Nat × Option Nat)) (i : Nat) : (s.setSlotLock i' v).peer i = s.peer i := rfl
@[simp] theorem peer_setReg (s : State) (e : Nat) (v : RegEntry) (i : Nat) : (s.setReg e v).peer i = s.peer i := rfl
@[simp] theorem peer_setPeer_same (s : State) (d : Nat) (v : Peer) : (s.setPeer d v).peer d = v := by simp [State.peer, State.setPeer]
theorem peer_setPeer (s : State) (d : Nat) (v : Peer) (m' : Nat) : (s.setPeer d v).peer m' = if m' = d then v else s.peer m' := by
  simp [State.peer, State.setPeer, mget_mset]
theorem peer_setPeer_other (s : State) (d : Nat) (v : Peer) (m' : Nat) (h : m' ≠ d) : (s.setPeer d v).peer m' = s.peer m' := by
  simp [State.peer, State.setPeer, mget_mset_other, h]
@[simp] theorem reg_setCredit (s : State) (d w v : Nat) (i : Nat) : (s.setCredit d w v).reg i = s.reg i := rfl
@[simp] theorem reg_setSlotLock (s : State) (i' : Nat) (v : Option (Nat × Nat × Option Nat)) (i : Nat) : (s.setSlotLock i' v).reg i = s.reg i := rfl
@[simp] theorem reg_setPeer (s : State) (d : Nat) (v : Peer) (i : Nat) : (s.setPeer d v).reg i = s.reg i := rfl
@[simp] theorem reg_setReg_same (s : State) (e : Nat) (v : RegEntry) : (s.setReg e v).reg e = v := by simp [State.reg, State.setReg]
theorem reg_setReg (s : State) (e : Nat) (v : RegEntry) (m' : Nat) : (s.setReg e v).reg m' = if m' = e then v else s.reg m' := by
  simp [State.reg, State.setReg, mget_mset]
theorem reg_setReg_other (s : State) (e : Nat) (v : RegEntry) (m' : Nat) (h : m' ≠ e) : (s.setReg e v).reg m' = s.reg m' := by
  simp [State.reg, State.setReg, mget_mset_other, h]
@[simp] theorem partSw_setRegion (s : State) (r : Nat) (v : Region) (i : Nat) : (s.setRegion r v).partSw i = s.partSw i := rfl
@[simp] theorem partSw_setSlot (s : State) (p n : Nat) (v : Slot) (i : Nat) : (s.setSlot p n v).partSw i = s.partSw i := rfl
@[simp] theorem partSw_setPartSw_same (s : State) (p : Nat) (v : Part) : (s.setPartSw p v).partSw p = v := by simp [State.partSw, State.setPartSw]
theorem partSw_setPartSw (s : State) (p : Nat) (v : Part) (m' : Nat) : (s.setPartSw p v).partSw m' = if m' = p then v else s.partSw m' := by
  simp [State.partSw, State.setPartSw, mget_mset]
theorem partSw_setPartSw_other (s : State) (p : Nat) (v : Part) (m' : Nat) (h : m' ≠ p) : (s.setPartSw p v).partSw m' = s.partSw m' := by
  simp [State.partSw, State.setPartSw, mget_mset_other, h]
@[simp] theorem region_setPartSw (s : State) (p : Nat) (v : Part) (i : Nat) : (s.setPartSw p v).region i = s.region i := rfl
@[simp] theorem region_setSlot (s : State) (p n : Nat) (v : Slot) (i : Nat) : (s.setSlot p n v).region i = s.region i := rfl
@[simp] theorem region_setRegion_same (s : State) (r : Nat) (v : Region) : (s.setRegion r v).region r = v := by simp [State.region, State.setRegion]
theorem region_setRegion (s : State) (r : Nat) (v : Region) (m' : Nat) : (s.setRegion r v).region m' = if m' = r then v else s.region m' := by
  simp [State.region, State.setRegion, mget_mset]
theorem region_setRegion_other (s : State) (r : Nat) (v : Region) (m' : Nat) (h : m' ≠ r) : (s.setRegion r v).region m' = s.region m' := by
  simp [State.region, State.setRegion, mget_mset_other, h]
@[simp] theorem slot_setPartSw (s : State) (p : Nat) (v : Part) (i j : Nat) : (s.setPartSw p v).slot i j = s.slot i j := rfl
@[simp] theorem slot_setRegion (s : State) (r : Nat) (v : Region) (i j : Nat) : (s.setRegion r v).slot i j = s.slot i j := rfl
@[simp] theorem slot_setSlot_same (s : State) (p n : Nat) (v : Slot) : (s.setSlot p n v).slot p n = v := by simp [State.slot, State.setSlot]
theorem slot_setSlot_other (s : State) (p n : Nat) (v : Slot) (i' j' : Nat) (h : 4 * i' + j' ≠ 4 * p + n) : (s.setSlot p n v).slot i' j' = s.slot i' j' :=
  mget_mset_other _ _ _ _ _ h
@[simp] theorem latchOf_addLight (s : State) (off n : Nat) (i : Nat) : (s.addLight off n).latchOf i = s.latchOf i := rfl
@[simp] theorem latchOf_setSrc (s : State) (n : Nat) (v : TSrc) (i : Nat) : (s.setSrc n v).latchOf i = s.latchOf i := rfl
@[simp] theorem latchOf_setLatch_same (s : State) (fn : Nat) (v : Latch) : (s.setLatch fn v).latchOf fn = v := by simp [State.latchOf, State.setLatch]
theorem latchOf_setLatch (s : State) (fn : Nat) (v : Latch) (m' : Nat) : (s.setLatch fn v).latchOf m' = if m' = fn then v else s.latchOf m' := by
  simp [State.latchOf, State.setLatch, mget_mset]
theorem latchOf_setLatch_other (s : State) (fn : Nat) (v : Latch) (m' : Nat) (h : m' ≠ fn) : (s.setLatch fn v).latchOf m' = s.latchOf m' := by
  simp [State.latchOf, State.setLatch, mget_mset_other, h]
@[simp] theorem light_setLatch (s : State) (fn : Nat) (v : Latch) (i : Nat) : (s.setLatch fn v).light i = s.light i := rfl
@[simp] theorem light_setSrc (s : State) (n : Nat) (v : TSrc) (i : Nat) : (s.setSrc n v).light i = s.light i := rfl
@[simp] theorem src_setLatch (s : State) (fn : Nat) (v : Latch) (i : Nat) : (s.setLatch fn v).src i = s.src i := rfl
@[simp] theorem src_addLight (s : State) (off n : Nat) (i : Nat) : (s.addLight off n).src i = s.src i := rfl
@[simp] theorem src_setSrc_same (s : State) (n : Nat) (v : TSrc) : (s.setSrc n v).src n = v := by simp [State.src, State.setSrc]
theorem src_setSrc (s : State) (n : Nat) (v : TSrc) (m' : Nat) : (s.setSrc n v).src m' = if m' = n then v else s.src m' := by
  simp [State.src, State.setSrc, mget_mset]
theorem src_setSrc_other (s : State) (n : Nat) (v : TSrc) (m' : Nat) (h : m' ≠ n) : (s.setSrc n v).src m' = s.src m' := by
  simp [State.src, State.setSrc, mget_mset_other, h]
@[simp] theorem recOf_setT1 (s : State) (q : T1Req) (i : Nat) : (s.setT1 q).recOf i = s.recOf i := rfl
@[simp] theorem recOf_dropT1 (s : State) (id : Nat) (i : Nat) : (s.dropT1 id).recOf i = s.recOf i := rfl
@[simp] theorem recOf_setRec_same (s : State) (i : Nat) (r : Option Rec) : (s.setRec i r).recOf i = r := by simp [State.recOf, State.setRec]
theorem recOf_setRec (s : State) (i : Nat) (r : Option Rec) (m' : Nat) : (s.setRec i r).recOf m' = if m' = i then r else s.recOf m' := by
  simp [State.recOf, State.setRec, mget_mset]
theorem recOf_setRec_other (s : State) (i : Nat) (r : Option Rec) (m' : Nat) (h : m' ≠ i) : (s.setRec i r).recOf m' = s.recOf m' := by
  simp [State.recOf, State.setRec, mget_mset_other, h]
@[simp] theorem queue_setQueue_same (s : State) (q : Nat) (v : Queue) : (s.setQueue q v).queue q = v := by simp [State.queue, State.setQueue]
theorem queue_setQueue (s : State) (q : Nat) (v : Queue) (m' : Nat) : (s.setQueue q v).queue m' = if m' = q then v else s.queue m' := by
  simp [State.queue, State.setQueue, mget_mset]
theorem queue_setQueue_other (s : State) (q : Nat) (v : Queue) (m' : Nat) (h : m' ≠ q) : (s.setQueue q v).queue m' = s.queue m' := by
  simp [State.queue, State.setQueue, mget_mset_other, h]
@[simp] theorem strait_setStrait_same (s : State) (i : Nat) (v : Strait) : (s.setStrait i v).strait i = v := by simp [State.strait, State.setStrait]
theorem strait_setStrait (s : State) (i : Nat) (v : Strait) (m' : Nat) : (s.setStrait i v).strait m' = if m' = i then v else s.strait m' := by
  simp [State.strait, State.setStrait, mget_mset]
theorem strait_setStrait_other (s : State) (i : Nat) (v : Strait) (m' : Nat) (h : m' ≠ i) : (s.setStrait i v).strait m' = s.strait m' := by
  simp [State.strait, State.setStrait, mget_mset_other, h]
@[simp] theorem cart_setCart_same (s : State) (e : Nat) (c : Cart) : (s.setCart e c).cart e = c := by simp [State.cart, State.setCart]
theorem cart_setCart (s : State) (e : Nat) (c : Cart) (m' : Nat) : (s.setCart e c).cart m' = if m' = e then c else s.cart m' := by
  simp [State.cart, State.setCart, mget_mset]
theorem cart_setCart_other (s : State) (e : Nat) (c : Cart) (m' : Nat) (h : m' ≠ e) : (s.setCart e c).cart m' = s.cart m' := by
  simp [State.cart, State.setCart, mget_mset_other, h]

end Sys2Proof.Machine
end

