-- ==== Sys2Proof/Laws/Operations.lean ====
section
/-! SUPPORT. Laws of the shared operations: what an event, the passage of time, a core's issue and a descriptor can do. -/
namespace Sys2Proof.Machine
open Sys2Proof.Claims

/-! ## Conditional and repeated changes -/

@[simp] theorem when_true (s : State) (f : State → State) : s.when true f = f s := rfl
@[simp] theorem when_false (s : State) (f : State → State) : s.when false f = s := rfl
@[simp] theorem each_nil {α : Type} (s : State) (f : State → α → State) : s.each [] f = s := rfl
@[simp] theorem each_cons {α : Type} (s : State) (x : α) (xs : List α) (f : State → α → State) : s.each (x :: xs) f = (f s x).each xs f := rfl
/-- What every pass of a loop keeps, the loop keeps. -/
theorem each_keeps {α : Type} (p : State → Prop) (xs : List α) (f : State → α → State) (h : ∀ s, ∀ x ∈ xs, p s → p (f s x)) (s : State)
    (hs : p s) : p (s.each xs f) := by
  induction xs generalizing s with
  | nil => exact hs
  | cons x xs ih => exact ih (fun s y hy => h s y (List.mem_cons_of_mem _ hy)) _ (h s x List.mem_cons_self hs)

/-! ## Counters -/

/-- A counter counts one, modulo 2^64; every other object is as before. -/
theorem ctr_obj (s : State) (k j : Nat) : (s.ctr k).obj j = if j = k then (s.obj k + 1) % 2 ^ 64 else s.obj j := obj_setObj s k _ j
@[simp] theorem ctr_obj_same (s : State) (k : Nat) : (s.ctr k).obj k = (s.obj k + 1) % 2 ^ 64 := obj_setObj_same s k _
theorem ctr_obj_other (s : State) (k j : Nat) (h : j ≠ k) : (s.ctr k).obj j = s.obj j := obj_setObj_other s k _ j h
/-- Counting changes the objects only. -/
theorem ctr_rest (s : State) (k : Nat) : s.ctr k = { s with objs := (s.ctr k).objs } := rfl

/-! ## Events (R87 to R89) -/

/-- Everything but the log of what leaves, the agents' notifications, Cuhild's windows and mailboxes, the straits and the count of lost
notifications is as before. -/
structure Noted (s t : State) : Prop where
  rest : t = { s with out := t.out, cu := t.cu, st := t.st, objs := t.objs }
  cu : t.cu = { s.cu with agents := t.cu.agents, cfgGo := t.cu.cfgGo, cfgDone := t.cu.cfgDone, cfgRsp := t.cu.cfgRsp, mbox := t.cu.mbox }
  objs : ∀ k, k ≠ Obj.ctrNotifyLost → t.obj k = s.obj k

theorem Noted.refl (s : State) : Noted s s := ⟨rfl, rfl, fun _ _ => rfl⟩
theorem Noted.trans {s t u : State} (h : Noted s t) (g : Noted t u) : Noted s u := by
  obtain ⟨h1, h2, h3⟩ := h
  obtain ⟨g1, g2, g3⟩ := g
  exact ⟨by rw [g1, h1], by rw [g2, h2], fun k hk => (g3 k hk).trans (h3 k hk)⟩
/-- Sending a message notes nothing else. -/
theorem Sent.noted {s t : State} (h : Sent s t) : Noted s t :=
  ⟨by rw [h.rest], by rw [h.cu], fun k _ => h.obj k⟩
theorem Noted.setAgent (s : State) (n : Nat) (a : Option Agent) : Noted s (s.setAgent n a) := ⟨rfl, rfl, fun _ _ => rfl⟩
theorem Noted.mem {s t : State} (h : Noted s t) : t.mem = s.mem := by rw [h.rest]
theorem Noted.flash {s t : State} (h : Noted s t) : t.flash = s.flash := by rw [h.rest]
theorem Noted.clk {s t : State} (h : Noted s t) : t.clk = s.clk := by rw [h.rest]
theorem Noted.isle {s t : State} (h : Noted s t) : t.isle = s.isle := by rw [h.rest]
theorem Noted.flow {s t : State} (h : Noted s t) : t.flow = s.flow := by rw [h.rest]

/-- Delivering what waits. -/
theorem Noted.pump (fuel : Nat) (s : State) (n : Nat) : Noted s (State.pump fuel s n) := by
  induction fuel generalizing s with
  | zero => exact Noted.refl s
  | succ fuel ih =>
    unfold State.pump
    split
    · exact Noted.refl s
    · split
      · exact Noted.refl s
      · split
        · exact ((Noted.setAgent s n _).trans (Sent.send _ _ _ _ _ _).noted).trans (ih _)
        · exact Noted.refl s

/-- Queueing a notification. -/
theorem Noted.note (s : State) (n : Nat) (m : Msg) : Noted s (s.note n m) := by
  unfold State.note
  split
  · exact Noted.refl s
  · refine Noted.trans ?_ (Noted.pump 65 _ n)
    simp only [State.when]
    split
    · exact (Noted.setAgent s n _).trans ⟨rfl, rfl, fun k hk => ctr_obj_other _ _ _ hk⟩
    · exact Noted.setAgent s n _

/-- An event only notifies. -/
theorem Noted.event (s : State) (k : Nat) : Noted s (s.event k) := by
  unfold State.event
  generalize List.range 8 = xs
  generalize (keyRow k).getD ⟨0, 0, 0, 0, 0, .ro, 0, .any, false⟩ = row
  simp only
  induction xs generalizing s with
  | nil => exact Noted.refl s
  | cons x xs ih =>
    simp only [List.foldl_cons]
    refine Noted.trans ?_ (ih _)
    split
    · exact Noted.note _ _ _
    · exact Noted.refl s

/-- Giving an object a value gives it that value, and every other object but the count of lost notifications keeps its own. -/
theorem setEv_obj (s : State) (k v j : Nat) (hj : j ≠ Obj.ctrNotifyLost) : (s.setEv k v).obj j = if j = k then v else s.obj j := by
  unfold State.setEv
  split
  · next h => split
              · next e => rw [e]; exact h
              · rfl
  · split
    · rw [(Noted.event _ _).objs j hj, obj_setObj]
    · exact obj_setObj s k v j
/-- Nothing else changes but the objects and what notifying changes. -/
theorem setEv_rest (s : State) (k v : Nat) :
    s.setEv k v = { s with out := (s.setEv k v).out, cu := (s.setEv k v).cu, st := (s.setEv k v).st, objs := (s.setEv k v).objs } := by
  have h := (Noted.event (s.setObj k v) k).rest
  unfold State.setEv
  split
  · rfl
  · split
    · generalize (s.setObj k v).event k = t at h ⊢
      exact h
    · rfl

/-! ## Time (R8, R98) -/

/-- The passage of time changes the clock only. -/
theorem elapse_rest (s : State) (n : Nat) : s.elapse n = { s with clk := (s.elapse n).clk } := rfl
@[simp] theorem elapse_ticks (s : State) (n : Nat) : (s.elapse n).clk.ticks = s.clk.ticks + n := rfl
@[simp] theorem elapse_obj (s : State) (n k : Nat) : (s.elapse n).obj k = s.obj k := rfl
/-- Waiting until a tick ends at that tick or, when it is past, now. -/
theorem elapseTo_ticks (s : State) (t : Nat) : (s.elapseTo t).clk.ticks = max s.clk.ticks t := by
  unfold State.elapseTo
  split
  · simp only [elapse_ticks]; omega
  · omega
theorem elapseTo_rest (s : State) (t : Nat) : s.elapseTo t = { s with clk := (s.elapseTo t).clk } := by
  unfold State.elapseTo
  split <;> rfl
@[simp] theorem elapseTo_obj (s : State) (t k : Nat) : (s.elapseTo t).obj k = s.obj k := by rw [elapseTo_rest]; rfl

/-! ## Memory and flash -/

/-- A write of memory keeps its canonical form, and so does losing a range. -/
theorem memWrite_wf (s : State) (a : Nat) (bs : Bytes) (h : Memory.wf s.mem = true) : Memory.wf (s.memWrite a bs).mem = true :=
  Memory.wf_writeAll s.mem a bs h
theorem memLose_wf (s : State) (a n : Nat) (h : Memory.wf s.mem = true) : Memory.wf (s.memLose a n).mem = true :=
  Memory.wf_mdrop (fun k => decide (a ≤ k) && decide (k < a + n)) s.mem h
/-- Bytes outside a write read as before. -/
theorem memWrite_read_other (s : State) (a x : Nat) (bs : Bytes) (h : x < a ∨ a + bs.length ≤ x) :
    Memory.read (s.memWrite a bs).mem x = Memory.read s.mem x := Memory.read_writeAll_other s.mem a x bs h
/-- Flash keeps its canonical form. -/
theorem flashErase_wf (s : State) (a n : Nat) (h : mwf (fun _ => (0xFF : Byte)) none s.flash = true) :
    mwf (fun _ => (0xFF : Byte)) none (s.flashErase a n).flash = true := mwf_filter _ _ _ _ h
theorem flashWrite_wf (s : State) (a : Nat) (bs : Bytes) (h : mwf (fun _ => (0xFF : Byte)) none s.flash = true) :
    mwf (fun _ => (0xFF : Byte)) none (s.flashWrite a bs).flash = true := by
  simp only [State.flashWrite]
  generalize bs.zipIdx = xs
  generalize s.flash = m at h
  induction xs generalizing m with
  | nil => exact h
  | cons x xs ih => exact ih _ (mwf_mset _ _ _ _ h)

/-! ## Issue on a core (R257 to R261) -/

/-- A word that does not end its bundle waits in it; nothing else changes. -/
theorem issue_joins (s : State) (c w slot : Nat) (i : Instr) (hj : canJoin s c w slot = true) (he : bit w 31 = false) :
    s.issue c w slot true true i = s.setCore c { s.core c with bundle := (s.core c).bundle ++ [(slot, w, i)] } := by
  simp only [canJoin, Bool.and_eq_true, Bool.not_eq_true'] at hj
  obtain ⟨⟨h1, h2⟩, h3⟩ := hj
  simp [State.issue, h1, h2, h3, he]
/-- A word that ends its bundle issues it whole. -/
theorem issue_last (s : State) (c w slot : Nat) (i : Instr) (hj : canJoin s c w slot = true) (he : bit w 31 = true) :
    s.issue c w slot true true i = s.issueBundle c ((s.core c).bundle ++ [(slot, w, i)]) := by
  simp only [canJoin, Bool.and_eq_true, Bool.not_eq_true'] at hj
  obtain ⟨⟨h1, h2⟩, h3⟩ := hj
  simp [State.issue, h1, h2, h3, he]
/-- A bundle of one word whose instruction does its work moves the core on. -/
theorem issue_ok (s t : State) (c w slot : Nat) (i : Instr) (hi : canIssue s c w = true) (hf : s.effect i = .ok t) :
    s.issue c w slot true true i = State.afterWord c (t.advance c 1) i := by
  simp only [canIssue, Bool.and_eq_true, Bool.not_eq_true', List.isEmpty_iff] at hi
  obtain ⟨⟨⟨h1, h2⟩, h3⟩, h4⟩ := hi
  simp [State.issue, h1, h2, h3, h4, State.issueBundle, State.runBundle, hf, lowestFault]
/-- A bundle of one word whose instruction faults stops the core with that fault (R287). -/
theorem issue_fault (s : State) (c w slot : Nat) (i : Instr) (f : CFault) (hi : canIssue s c w = true) (hf : s.effect i = .fault f) :
    s.issue c w slot true true i = s.coreFault c f w (s.core c).pc := by
  simp only [canIssue, Bool.and_eq_true, Bool.not_eq_true', List.isEmpty_iff] at hi
  obtain ⟨⟨⟨h1, h2⟩, h3⟩, h4⟩ := hi
  simp [State.issue, h1, h2, h3, h4, State.issueBundle, State.runBundle, hf, lowestFault]
/-- A core that is not ready issues nothing. -/
theorem issue_not_ready (s : State) (c w slot : Nat) (ok fields : Bool) (i : Instr) (h : s.coreReady c = false) :
    s.issue c w slot ok fields i = s := by
  simp [State.issue, h]
/-- A reserved word faults with code 0x01 (R262, R275). -/
theorem issue_reserved (s : State) (c w slot : Nat) (ok fields : Bool) (i : Instr)
    (h : s.coreReady c = true) (hr : reservedWord w = true) :
    s.issue c w slot ok fields i = s.coreFault c { code := 0x01 } w (s.core c).pc := by
  simp [State.issue, h, hr]
/-- Counting for an operator leaves every core as it is. -/
@[simp] theorem opCount_core (s : State) (c : Nat) (g : OpCtr → OpCtr) (n : Nat) : (s.opCount c g).core n = s.core n := by
  have h : ∀ (b : Bool) (t : State), (t.when b (·.ctr Obj.ctrOpCounterEvicted)).isle.cores = t.isle.cores := by
    intro b t; cases b <;> rfl
  simp only [State.opCount, State.core, h]
@[simp] theorem addLight_core (s : State) (off k n : Nat) : (s.addLight off k).core n = s.core n := rfl
/-- What moving on leaves: the core past the word. -/
theorem advance_core (s : State) (c : Nat) : (s.advance c 1).core c = stepped (s.core c) s.now := by
  unfold State.advance stepped
  rw [addLight_core, opCount_core, core_setCore_same]

/-! ## Descriptors (R194 to R200) -/

/-- A descriptor that its ring serves is read from the host and runs its operation, whose result leaves in the completion. -/
theorem descriptor_serves (s : State) (op : Nat) (d : Desc) (f : State → Nat → State × DRes) (h : ringServes s d = true)
    (hb : (f (fetched s d) (s.ring (4 * d.fn + d.ring)).tag).2.buf = []) (hs : (f (fetched s d) (s.ring (4 * d.fn + d.ring)).tag).2.st ≠ 9) :
    s.descriptor op d f =
      (let r := s.ring (4 * d.fn + d.ring)
       let e := f (fetched s d) r.tag
       let c := e.1.complete d.fn { e.1.ring (4 * d.fn + d.ring) with sc := (r.sc + 1) % r.wrap } (completion d.cookie op e.2) (2 + d.ring)
       (c.1.setRing (4 * d.fn + d.ring) c.2).renewRing (4 * d.fn + d.ring)) := by
  simp only [ringServes, Bool.and_eq_true, Bool.not_eq_true', bne_iff_ne, beq_iff_eq, ne_eq] at h
  obtain ⟨⟨⟨⟨⟨⟨⟨⟨h1, h2⟩, h3⟩, h4⟩, h5⟩, h6⟩, h7⟩, h8⟩, h9⟩ := h
  have hs' : ((f (fetched s d) (s.ring (4 * d.fn + d.ring)).tag).2.st == 9) = false := by simpa using hs
  have ht : (s.emit (.dmaRead d.fn ((s.ring (4 * d.fn + d.ring)).descAt 128) 128)).tag (s.ring (4 * d.fn + d.ring)).tag
      = s.tag (s.ring (4 * d.fn + d.ring)).tag := rfl
  unfold fetched at hb hs' ⊢
  unfold State.descriptor
  simp [h1, h2, h3, h4, h5, h6, h7, h8, h9, hb, hs', ht]

end Sys2Proof.Machine
end

