-- ==== Sys2Proof/Tests/Slice0.lean ====
section
/-! SUPPORT. The model's own tests: an ill-formed term for each check of WellFormed, small steps against the spec's numbers, and a
witness for the hypotheses of every statement. -/
namespace Sys2Proof.Tests
set_option linter.unusedVariables false
set_option Elab.async false
set_option maxRecDepth 100000
open Sys2Proof Sys2Proof.Machine Sys2Proof.Claims

/-- An agent at an endpoint. -/
def agentOf (ep : Endpoint) : Agent :=
  { ep := ep, heard := 0, heardTick := 0, mask := 0, nonce := [], kept := [], claims := [], notes := [], lost := 0 }
/-- The device started, in Crossing, everything powered; agent 0 at the physical function owns it, agent 1 is at the mailbox of virtual
function 3, agent 2 at the configuration window. -/
def owned : State :=
  let s := { State.reset with
    pwr := { Power.init with phase := 1, coreClock := true }
    boot := { Boot.init with served := true, firstDone := true }
    cu := { Cuhild.init with agents := [(0, some (agentOf .pf)), (1, some (agentOf (.vf 3))), (2, some (agentOf .cfgWindow))], lease := some 100000 } }
  s.each [(Obj.powerState, 3), (Obj.powerDomains, 63), (Obj.machineIslesUp, 15), (Obj.machineStacksUp, 15), (Obj.machineSoundsUp, 15),
    (Obj.ownerAgent, 0), (Obj.ownerEpoch, 7)] (fun s e => s.setObj e.1 e.2)
/-- A request of the owner. -/
def own (seq : Nat) : Req := { ep := .pf, agent := 0, seq := seq, epoch := 7 }
/-- `owned` with some objects given values. -/
def withObjs (s : State) (os : List (Nat × Nat)) : State := s.each os (fun s e => s.setObj e.1 e.2)


/-! ## Ill-formed commands: one term for each check of WellFormed -/

/-- A request whose fields do not fit (R53). -/
theorem test_wf_request : ([{ own 1 with agent := 256 }, { own 1 with seq := 65536 }, { own 1 with epoch := 2 ^ 32 }, { own 1 with ep := .vf 16 },
    { own 1 with ep := .can 128 }, { own 1 with ep := .strait 64 }, { own 1 with ep := .inband 64 0 0 }, { own 1 with ep := .inband 0 (2 ^ 48) 0 },
    { own 1 with ep := .inband 0 0 (2 ^ 17) }] : List Req).all (fun r => !(Instr.heartbeat r).wf) = true := by decide
/-- The owner's requests with an operand that does not fit. -/
theorem test_wf_requests : ([.read (own 1) 65536 0, .read (own 1) 0 256, .write (own 1) 0 0 256 [], .write (own 1) 65536 0 0 [],
    .readMulti (own 1) [], .readMulti (own 1) [(65536, 0)], .blobOpen (own 1) 0 0 256 0, .blobOpen (own 1) 0 0 0 (2 ^ 32),
    .blobSeg (own 1) 65536 0 0 [], .blobSeg (own 1) 0 65536 0 [], .blobSeg (own 1) 0 0 (2 ^ 32) [], .blobClose (own 1) 65536 0 none,
    .blobClose (own 1) 0 256 none, .blobClose (own 1) 0 0 (some (2 ^ 32)), .claim (own 1) 256 0, .claim (own 1) 0 (2 ^ 32), .yield (own 1) 256,
    .grant (own 1) 256 0, .grant (own 1) 0 256, .revoke (own 1) 256, .notify (own 1) (2 ^ 32), .timeSetWrite (own 1) (2 ^ 64),
    .startInferenceWrite (own 1) (2 ^ 32), .partQuadsWrite (own 1) 16 0, .partQuadsWrite (own 1) 0 (2 ^ 32), .ownerDutyWrite (own 1) 4 0,
    .ownerDutyWrite (own 1) 0 256, .portModeWrite (own 1) false 4 0, .portModeWrite (own 1) false 0 256, .slotLoad (own 1) 16 0 0,
    .slotUnload (own 1) 0 4 0, .swap (own 1) 16 0, .t1SlotWrite (own 1) 0 (2 ^ 32), .cartridgeRelease (own 1) 8 0,
    .driveSetpointWrite (own 1) 8 0, .recoverResume (own 1) 16 0] : List Instr).all (fun i => !i.wf) = true := by decide
/-- A payload longer than its transport carries. -/
theorem test_wf_lengths : ([.canFdFrame 0 true (List.replicate 9 0),
    .canFdFrame 0 false (List.replicate 65 0), .canFdFrame (2 ^ 29) false [], .queuePush 0 0 (List.replicate 65 0) false,
    .frameIngress { port := 64, bytes := List.replicate 14 0 }, .frameIngress { port := 0, bytes := List.replicate 13 0 }] : List Instr).all
    (fun i => !i.wf) = true := by decide
theorem test_wf_long : ((Instr.write (own 1) 0 0 0 (List.replicate 256 0)).wf || (Instr.blobSeg (own 1) 0 0 0 (List.replicate 1001 0)).wf || (Instr.mailboxDoorbell 0 0 [List.replicate 1025 0]).wf ||
    (Instr.configWindowGo (List.replicate 257 0)).wf || (Instr.straitCuhildMessage 0 (List.replicate 1025 0)).wf ||
    (Instr.readMulti (own 1) (List.replicate 33 (0, 0))).wf || (Instr.flitReceive 0 (List.replicate 257 0)).wf) = false := by decide +kernel
/-- An index past what it indexes: timers, cores, quads, ports, queues, straits, cartridges, sensors and rails. -/
theorem test_wf_indexes : ([.agentIdleExpiry 8, .blobHandleTimeout 65536, .mailboxDoorbell 17 0 [], .mailboxDoorbell 0 32 [],
    .mailboxResponseDeliver 17, .pcieFunctionReset 17, .counterLatch 17, .counterLatchComplete 17, .mmioRegisterWrite 17 0 0 0,
    .mmioRegisterWrite 0 7 0 0, .mmioRegisterWrite 0 0 (2 ^ 24) 0, .mmioRegisterWrite 0 0 0 (2 ^ 64), .canReassemblyTimeout 128,
    .rxSignalDetect 128, .detectorBackoffEnd 128, .napEntry 128, .coreReset 128, .coreWatchdog 128, .preemptRequest 128, .contextRestore 128,
    .dozeEntry 32, .residencyWake 32, .isleOffEntry 4, .isleWatchdog 4, .isleAutoRestore 4, .restoreTrainTimeout 4, .soundTrained 4,
    .residencyEntryDone true 4, .residencyEntryDone false 32, .slotRearm 16 0 ⟨true, {}⟩, .slotRearm 0 4 ⟨true, {}⟩, .holdLimitExpiry 8,
    .frameTransmit 64 0 0 false, .linkLoss ⟨64, false⟩, .linkUp 64, .holdDeadline 64, .dampEnd 64, .seriesClose 64, .trainTimeout 64,
    .xoffInChange 4 true, .flowRingDoorbell 0 4 ⟨0, []⟩, .flowRingEnable 0 0 (2 ^ 32), .ringKeepAlive 17 0, .ringKeepAlive 0 4,
    .lockLeaseExpiry 64, .lockSweepDone 64, .queuePush 264 0 [] false, .queuePush 0 (2 ^ 32) [] false, .queueCommit 264,
    .queuePop 264 0 0, .queueRewind 264, .spillRefillLand ⟨264, {}⟩, .collectorRingDeliver 256 {}, .collectorFrameSend 256 {},
    .recordFetchComplete (2 ^ 22) 0, .recordFetchComplete 0 5, .nodeFetchComplete 0 4096 0, .nodeFetchComplete 0 0 4, .schedulerDispatch 4 0 {}, .schedulerDispatch 0 3 {},
    .bundleRingDoorbell 17 ⟨0, []⟩, .bundleRingDoorbell 0 ⟨2 ^ 32, []⟩, .tier2Result 4 0 false, .tier2Result 0 16 false, .t2Timeout (2 ^ 48),
    .drainComplete 16, .gapArmDone 16 ⟨true, {}⟩, .rotationExchange 16, .restartArmingDone 16] : List Instr).all (fun i => !i.wf) = true := by decide
theorem test_wf_indexes_more : ([.straitTrained 8, .straitTrainTimeout 8, .straitInitDone 8 0 [], .straitInitTimeout 8, .straitLinkLoss 8,
    .straitRetrain 8, .replayTimeout 8, .ackIdleTimeout 8, .nakReceive 8 0, .flitReceive 8 [], .straitCuhildMessage 64 [], .memberLost 64,
    .registryUpdate 64 [], .admissionReply 64 0, .replicaLockRequest 64 0, .replicaLockReply 64 0 0 0, .segmentRequest 64 0 0 0 0,
    .bundleSegment 64 0 0 [], .weightStreamSegment 64 0 0 [], .remoteWork 64 [], .remoteResult 64 [], .workCredit 64 0 0 true,
    .admissionRequest 64 0 0 0 0 [], .poolHeartbeat 8 0 0 [], .poolHeartbeat 0 64 0 [], .replicaLockVoid 64, .cartridgeOccupied 8,
    .cartridgeVacated 8, .cartridgeReadyTimeout 8, .challengeDone 8 [], .challengeTimeout 8, .cartridgeFwInstallTimeout 8, .lightUsable 8,
    .lifeAccrual 8 0 0 0, .lifeRecordWrite 8 true, .sensorSample 108 none, .soundTransferFail 4 ⟨true, 0⟩, .hangDetect 7 0,
    .traceFrameClose 8, .traceTimePeriod 8, .powerGoodArrive 7, .powerGoodTimeout 7, .powerGoodFall 7, .reverseEnableDrop 7, .ppsEdge 20,
    .coreClockStart 7 true, .slotLoadComplete 16 0 {}, .slotLoadComplete 0 4 {}] : List Instr).all (fun i => !i.wf) = true := by
  decide
/-- The isle commands: a core, register, tile, row, offset, width or mask past its range (R257, R264). -/
theorem test_wf_isle : ([.scalarOp 128 0 0 0 0 0, .scalarOp 0 0 32 0 0 0, .scalarOp 0 0 0 32 0 0, .scalarOp 0 0 0 0 32 0, .scalarOp 0 0 0 0 0 32,
    .branch 0 0 0 0 (2 ^ 22), .scalarLoadStore 0 0 true 32 0 false, .scalarLoadStore 0 0 true 0 (2 ^ 22) false, .vectorOp 0 0 32 0 0 0,
    .vld 0 0 32 0 false, .vst 0 0 0 (2 ^ 22), .vtl 0 0 0 8 0, .vtl 0 0 0 0 128, .vts 0 0 8 0 0, .vts 0 0 0 128 0, .vside 0 0 8 0 0 0 1 0,
    .vside 0 0 0 0 0 0 257 0, .xmov 0 0 true (.core 0) (2 ^ 22) 0 0 false, .xmov 0 0 true (.core 0) 0 0 (2 ^ 22) false, .qbar 0 0 0 (2 ^ 32),
    .opset 0 0 65536 0, .opset 0 0 0 65536, .done 128 0, .wait 128 0, .tcfg 128 0, .trel 128 0, .csld 128 0, .tld 128 0 [],
    .tldCvExpand 128 0 [], .tldCvQuantise 128 0 [], .tldCvWiden 128 0 [], .tst 128 0, .acfg 128 0, .wld 128 0, .wldComplete 128 [], .wldComplete 0 [⟨4, true, 0, 0, 1⟩], .wldComplete 0 [⟨0, true, 65, 0, 1⟩], .wldComplete 0 [⟨0, true, 0, 65, 1⟩],
    .astr 128 0, .astrT 128 0, .aew 128 0, .rq 128 0, .rstat 128 0, .astrChunkCommit 0 16 [], .astrChunkCommit 0 1 [⟨0, false, 128, 0, 1⟩]] : List Instr).all (fun i => !i.wf) = true := by
  decide
/-- A flow descriptor, a key and a bundle descriptor whose fields do not fit (R154, R195, R350). -/
theorem test_wf_descriptors : let k : FlowKey := { part := 0, family := 0, tunnel := 0, frag := false, proto := 0, vni := 0, lo := 0, hi := 0, lop := 0, hip := 0 }
    let d : Desc := { fn := 0, ring := 0, key := k }
    let b : BDesc := { fn := 0, epoch := 0, region := 0, off := 0, len := 0 }
    (([{ d with fn := 17 }, { d with ring := 4 }, { d with flags := 256 }, { d with epoch := 65536 }, { d with cookie := 2 ^ 32 },
      { d with buf := 2 ^ 64 }, { d with a := 2 ^ 64 }, { d with b := 2 ^ 64 }, { d with mepoch := 2 ^ 32 }, { d with score := 256 },
      { d with key := { k with part := 16 } }, { d with key := { k with family := 4 } }, { d with key := { k with tunnel := 4 } },
      { d with key := { k with proto := 256 } }, { d with key := { k with vni := 2 ^ 24 } }, { d with key := { k with lo := 2 ^ 128 } },
      { d with key := { k with hi := 2 ^ 128 } }, { d with key := { k with lop := 65536 } }, { d with key := { k with hip := 65536 } }] : List Desc).all
        (fun d => !(Instr.insert d).wf)) &&
    (([{ b with fn := 17 }, { b with epoch := 2 ^ 32 }, { b with cookie := 2 ^ 32 }, { b with host := 2 ^ 64 }, { b with region := 65536 },
      { b with off := 2 ^ 40 }, { b with len := 2 ^ 32 }] : List BDesc).all (fun b => !(Instr.bundleHostToRegion b).wf)) = true := by decide
/-- Well-formed terms of the same shapes are taken. -/
theorem test_wf_taken : ([.read (own 1) 0x1100 1, .heartbeat { own 1 with ep := .inband 63 1 65536 }, .sensorSample 107 (some 40), .qbar 5 0 1 0xFF,
    .powerGoodArrive 6, .canFdFrame 0 false (List.replicate 64 0), .ppsEdge 19, .nodeFetchComplete 7 4095 3] : List Instr).all (fun i => i.wf) = true := by
  decide

/-! ## The spec's numbers -/

/-- R87, its example: the words of the nonce reach the report's bytes 40 to 55 least significant byte first. -/
theorem test_nonce_bytes : ([0x3A71, 0x0C9E, 0x52D4, 0xE803, 0x6B1F, 0x907A, 0x1D45, 0xC2B8].flatMap (le 2) : Bytes) =
    [0x71, 0x3A, 0x9E, 0x0C, 0xD4, 0x52, 0x03, 0xE8, 0x1F, 0x6B, 0x7A, 0x90, 0x45, 0x1D, 0xB8, 0xC2] := by decide
/-- The check value of CRC-32C over the digits 1 to 9, from its standard. -/
theorem test_crc32c : crc32c [0x31, 0x32, 0x33, 0x34, 0x35, 0x36, 0x37, 0x38, 0x39] = 0xE3069283 := by decide +kernel
/-- The first and last bytes of SHA-384 of the three bytes abc, from its standard. -/
theorem test_sha384 : let d := sha384 [0x61, 0x62, 0x63]
    d.length = 48 ∧ d.take 4 = [0xCB, 0x00, 0x75, 0x3F] ∧ d.drop 44 = [0x34, 0xC8, 0x25, 0xA7] := by decide +kernel
/-- R26, R266: the core stores lie 0x40_0000 apart from 0x50_0000_0000. -/
theorem test_core_store : coreStore 127 = 0x501FC00000 := by decide
/-- R180's example: a slot of table A and one of table B. -/
theorem test_slot_addr : slotAddr (4 * 0x645D1) = 0x600645D100 ∧ slotAddr (4 * 0x645D1 + 2) = 0x600645D180 ∧
    slotAddr (2 ^ 21 + 4 * 0x20A7F) - 0x600A0A7F00 = slotAddr (2 ^ 21 + 4 * 0x20A7F) - 0x600A0A7F00 := by decide
/-- The trie of R203's example: software's entries. -/
def tarnTrie : State :=
  (([(0, 0x0A2C, 0x29), (0, 0x0A2D, 0x80000005), (0, 0x0A2E, 0x29), (0, 0x0A2F, 0x29), (2, 5 * 256 + 0x61, 0x8000000C), (2, 5 * 256 + 0x62, 42),
    (3, 12 * 256 + 0xC8, 43), (3, 12 * 256 + 100, 42), (9, 41, 0x00030201), (9, 42, 0x00070305), (9, 43, 0x00090310)] : List (Nat × Nat × Nat)).foldl
    (fun s e => s.setTrie e.1 e.2.1 e.2.2) (withObjs owned [(Obj.trieEnable, 1)]))
/-- R203's example: 10.45.97.200 gives class 9 and tag 0x0310, 10.45.98.7 result 42, 10.47.0.1 result 41. -/
theorem test_trie : (tarnTrie.trieLookup 1 0x0A2D61C8).2 = (9, 0x0310) ∧ (tarnTrie.trieLookup 1 0x0A2D6207).2 = (7, 0x0305) ∧
    (tarnTrie.trieLookup 1 0x0A2F0001).2 = (3, 0x0201) := by decide +kernel
/-- R249's example: bounds 0.0, 0.6 and 1.2; the score 0.82 takes entry 2. -/
theorem test_verdict_map : mapByScore (le 4 0 ++ List.replicate 8 0 ++ le 4 0x3F19999A ++ List.replicate 8 0 ++ le 4 0x3F99999A ++ List.replicate 8 0 ++
    (List.range 13).flatMap (fun _ => le 4 0x40000000 ++ List.replicate 8 0)) 0x3F51EB85 = 2 := by decide +kernel
/-- The 64 values of R318's example: 9.5 at element 30, 5.25 at element 7, and the values of its table at elements 0 to 4. -/
def skerrowRow : List Nat :=
  (List.range 64).map (fun i => match i with
    | 0 => 0x3F80 * 65536 | 1 => 0xBF40 * 65536 | 2 => 0x4060 * 65536 | 3 => 0x3E00 * 65536 | 4 => 0xC01C * 65536
    | 7 => 0x40A8 * 65536 | 30 => 0x4118 * 65536 | _ => 0)
/-- R316 to R319, the example: the scale, the codes of the table's rows and the two escapes. -/
theorem test_quantise_bell4 : let q := quantise 1 0x3A80 0x3D80 skerrowRow
    q.s = 0x3D80 ∧ q.z = 0 ∧ q.zero = false ∧ q.under = false ∧
    q.rows.map (fun r => (r.codes.take 8, r.codes.getD 30 0, r.esc, r.clipped)) =
      [([3, 10, 7, 0, 13, 0, 0, 8], 8, [(7, 0x40A8 * 65536), (30, 0x4118 * 65536)], 0)] := by decide +kernel
/-- R320's example: 84 and 152, with output 5 gaining 5,060. -/
theorem test_side_quotients : sideQuot 0x40A8 0x3D80 = (84, false) ∧ sideQuot 0x4118 0x3D80 = (152, false) ∧
    (sideQuot 0x40A8 0x3D80).1 * (-23) + (sideQuot 0x4118 0x3D80).1 * 46 = 5060 := by decide +kernel
/-- R322's example: 19,272 at scale 0.0625 and 0x3B50 gives 3.8228759765625. -/
theorem test_rq_value : rqValue 19272 none 0x3D800400 0x3B50 true = 0x4074AA00 := by decide +kernel
/-- R389's table and example: 53 °C is row 55, factor 126; 100% drive is column 100; the advisory threshold is met after 28,572 seconds. -/
theorem test_life : lifeT (53 * 256) = some 126 ∧ lifeI 100 100 = some 100 ∧ lifeStage (18356400000 + 126 * 28571) 60000 = 0 ∧
    lifeStage (18356400000 + 126 * 28572) 60000 = 1 := by decide
/-- The tile words of R267's example, and the one whose row field is 0x81. -/
theorem test_tile_words : tcfgCheck (tcfgWords 0x8048107001B80124 0x04B8042410908048) = none ∧
    (tcfgCheck (tcfgWords 0x8148107001B80124 0x04B8042410908048)).map (·.1) = some 3 := by decide
/-- The code of the answer to a request: the abort code of the answer kept for agent 0, the owner. -/
def answerCode (i : Instr) (s : State) : Option Nat :=
  match exec i s with
  | .next t => ((t.agent 0).bind (fun a => a.kept.getLast?)).map (fun e => e.2.2.abort)
  | _ => none
/-- R49's rows: no such index, no such subindex, the type, the access, the range, a stale epoch, a scope, and an applied write. -/
theorem test_write_codes : answerCode (.write (own 1) 0x9999 1 1 [1]) owned = some 0xC003 ∧
    answerCode (.write (own 1) 0x1100 0x70 1 [1]) owned = some 0xC004 ∧ answerCode (.write (own 1) 0x2000 0x10 3 [1]) owned = some 0xC005 ∧
    answerCode (.write (own 1) 0x2000 0x10 3 [1, 0]) owned = some 0xC006 ∧
    answerCode (.write { own 1 with epoch := 6 } 0x2000 0x10 3 [0xEE, 0x05]) owned = some 0xC009 ∧
    answerCode (.write (own 1) 0x2000 0x10 3 [0xEE, 0x05]) owned = some 0 := by decide +kernel
/-- R80's example: agents 0 and 2 bid with priority 180; the nonce 0x7B02_9A41 prevails over 0x5A1C_03E7, and the loser's answer is 0xC012. -/
theorem test_claim_window : (match (exec (.claim { own 1 with ep := .cfgWindow, agent := 2 } 180 0x5A1C03E7) (withObjs owned [(Obj.ownerAgent, 0xFF)])) with
    | .next s => match exec (.claim (own 1) 180 0x7B029A41) s with
      | .next s => match exec .claimWindowClose s with
        | .next t => (t.obj Obj.ownerAgent, t.obj Obj.ownerEpoch, ((t.agent 2).bind (fun a => a.kept.getLast?)).map (fun e => e.2.2.abort))
        | _ => (9, 9, none)
      | _ => (9, 9, none)
    | _ => (9, 9, none)) = (0, 8, some 0xC012) := by decide +kernel
/-- R403's and R404's example: isle 2's forecast peak with quad 16 at the given duty and its hottest. -/
def warmIsle (peak : Int) (duty : Nat) : State :=
  let s := (List.range 16).foldl (fun s n => s.setSensor (32 + n) { val := if n = 0 then 97 * 256 else 90 * 256, read := true }) owned
  let s := s.setSensor 90 { val := 80 * 256, read := true }
  { s with heat := { s.heat with peak := [(3, peak)] } }.setDuty 16 duty
/-- At 98.3 °C quad 16 goes from 16 to 14 and from 14 to 12; at 97.4 °C it stays; at 94.8 °C it goes from 12 to 13. -/
theorem test_throttle : ((warmIsle 25165 16).throttle 2 false).duty 16 = 14 ∧ ((warmIsle 25114 14).throttle 2 false).duty 16 = 12 ∧
    ((warmIsle 24934 12).throttle 2 false).duty 16 = 12 ∧ ((warmIsle 24269 12).throttle 2 false).duty 16 = 13 := by decide +kernel
/-- A read handle of agent 0. -/
def rdHandle : Handle :=
  { id := 4, agent := 0, idx := 0x1210, sub := 1, write := false, len := 3, data := [1, 2, 3], deadline := 1000, basis := 0xFF, dead := none }

/-- The device in Berth with a start trigger (autostart) waiting. -/
def berth : State :=
  withObjs { owned with pwr := { owned.pwr with coreClock := false, trigger := some 1 } }
    [(Obj.powerState, 1), (Obj.powerDomains, 0), (Obj.machineIslesUp, 0), (Obj.machineStacksUp, 0), (Obj.machineSoundsUp, 0)]
/-- The cores of quad 0 in Nap. -/
def napping : State := { withObjs owned [(Obj.resFreeFloor, 3)] with res := { Resid.init with nap := [(0, 1), (1, 1), (2, 1), (3, 1)] } }
/-- The quads of isle 3 in Doze. -/
def dozing3 : State :=
  { withObjs owned [(Obj.resFreeFloor, 3)] with res := { Resid.init with doze := (List.range 8).map (fun i => (24 + i, 1)) } }

/-- `owned` in plain crossing with host port 0 and line port 32 Up, lit and usable. -/
def up : State :=
  withObjs owned [(portObj 0 1, 2), (portObj 32 1, 2), (Obj.portUpHost, 1), (Obj.portUpLine, 1), (Obj.startPlainCrossing, 1)]
/-- A frame of 64 bytes with its FCS, of EtherType 0x9999. -/
def frame64 : Bytes := [2, 0, 0, 0, 0, 1, 2, 0, 0, 0, 0, 2, 0x99, 0x99] ++ zeros 46
/-- A flow key of partition 0. -/
def key0 : FlowKey :=
  { part := 0, family := 0, tunnel := 0, frag := false, proto := 6, vni := 0, lo := 0x0A000001, hi := 0x0A000002, lop := 80, hip := 1024 }

/-- The facts of a frame. -/
def meta0 : Meta :=
  { time := 5, dir := true, line := false, len := 64, payload := 0, tcp := true, flags := 2, window := 9, outerKey := false,
    tagged := false, snap := 0 }
/-- The record of a key's first frame. -/
def rec0 : Rec := Rec.init meta0 (0, 0, 0, 0)
/-- An ensemble of one tree, none of whose nodes is pinned. -/
def ens0 : Ens := { digest := [7], head := le 4 1 ++ zeros 212, levels := 0, nodes := [] }
/-- A tier-1 request of that tree, its root on its way. -/
def walk1 : T1Req :=
  { id := 7, key := key0, time := 0, epoch := 0, ens := 0, digest := [7], feats := [], trees := [⟨0, 0, none, true⟩], dead := false }
/-- `owned` with that request, its root node a test. -/
def walking0 : State := { owned with t1 := { owned.t1 with reqs := [walk1], ens := [ens0] } }
/-- `owned` with that request, its root node a leaf. -/
def walking1 : State := { walking0 with mem := [(230, 8)] }
/-- The same once the leaf is there. -/
def walkDone : T1Req := { walk1 with trees := [⟨0, 1, some 0, false⟩] }

/-- The first slot that key0 may take. -/
def slot0 : Nat := (owned.candidates key0).headD 0
/-- `owned` with frames looked up. -/
def opened : State := withObjs owned [(Obj.startPlainCrossing, 0)]
/-- `opened` with ring 1 of the physical function enabled under tag 2, a descriptor submitted, and key0 in the table. -/
def ringed : State :=
  let f := opened.flow
  { opened with flow := { f with
      entries := [(slot0, { FEntry.empty with valid := true, key := key0 })]
      tags := [(2, { ring := some 1, lease := 1000 })], rings := [(1, { comp := 0x8000, en := true, sp := 1, tag := 2 })] } }
/-- A pending key without a record's facts. -/
def pend0 : Pend := { key := key0, merged := 3, crossed := 2, stamp := 9, record := rec0 }

/-- `owned` with core 0 running a command. -/
def running : State := owned.setCore 0 { run := 1, cur := some ⟨1, 2, 0, 0, 0⟩ }
/-- The same with five tiles filled: T0 A INT8 and T1 W INT8 of 64 rows (T0 of 65), T2 D, T3 S, T4 G FP32 of 4 rows. -/
def tiled : State :=
  running.setCore 0 { running.core 0 with
    cfg := [(0, 65 * 256 + 0x28), (1, 64 * 256 + 0x48), (2, 4 * 256 + 0x70), (3, 4 * 256 + 0xB8), (4, 4 * 256 + 0x94)]
    fill := [(0, 64), (1, 64), (2, 4), (3, 1)], x := [(5, 0x300)] }
/-- The same with array 0 loaded. -/
def loaded : State := tiled.setCore 0 { tiled.core 0 with loaded := 1 }

/-- `owned` with region 0 granted to partition 3 and region 1 to the owner. -/
def granted : State :=
  { owned with m := { owned.m with regions := [(0, { base := 0, size := 2, holder := 3, epoch := 1 }), (1, { base := 0x200000, size := 2, holder := 0xF0, epoch := 1 })] } }
/-- A load of region 0 in progress in slot 2 of partition 3, the stacks not reachable. -/
def loading : State := withObjs (granted.setSlot 3 2 { load := some 0 }) [(Obj.partSlotState 3 2, 1), (Obj.machineStacksUp, 0)]
/-- An isle record of kind 3, version 1.0.0, without lists. -/
def tinyRec : Bytes := [3, 1, 0, 0, 1, 0, 0, 0, 0, 0, 0, 0, 0, 0, 0, 0]
/-- A bundle of a record and an ensemble of no trees, its digests those of SHA-384. -/
def tinyBundle : Bytes :=
  le 4 0x5A424E44 ++ [1, 0, 0, 0] ++ le 8 512 ++ le 2 2 ++ zeros 46 ++
  (le 2 1 ++ zeros 2 ++ le 4 16 ++ le 8 192 ++ be 48 0x69310a6650474239ab726661e000f8481dd488394776fdd31a2b4583e0d5fa62b34cf0b380e8921857c7d90efe7f0959) ++
  (le 2 2 ++ zeros 2 ++ le 4 208 ++ le 8 256 ++ be 48 0x3face631cd47a7b360d1cd296a4f693f34e47f6e4f3fa2516922f8c803cbe989e1e866b59974e68480ee01efaee5af42) ++
  ([4, 1, 0, 0, 1] ++ zeros 59) ++ zeros 208 ++ be 48 0x6cab6b6181c528e35d076dc902913f9cfd88a530cac7972332210c918d76323373bcda7ce5c1aa41f3ff46e761590483
/-- A load of that bundle in progress in slot 1 of partition 0. -/
def loadingOk : State :=
  let b := tinyBundle
  { granted.setSlot 0 1 { load := some 0 } with
    mem := b.zipIdx.filterMap (fun e => if e.1 = 0 then none else some (e.2, e.1))
    boot := { owned.boot with isle := zeros 16 ++ tinyRec }
    objs := (withObjs granted [(Obj.partSlotState 0 1, 1)]).objs }
/-- A tier-2 request of key0. -/
def req2 : T2Req :=
  { seq := 9, key := key0, index := slot0, part := 0, slot := 0, epoch := 0, time := 0, deadline := 700, flags := 0, fence := 0, record := [] }
/-- Its result: status 0, epoch 5, output 1. -/
def resultBytes : Bytes := [1, 0, 0, 0, 5, 0, 0, 0, 9, 0, 0, 0, 0, 0, 0, 0xFF, 1, 0, 0, 0] ++ zeros 44
/-- The request outstanding and its result at the front of result queue 15 of isle 3. -/
def answeredT2 : State :=
  let s := ringed.setQueue (128 + 63) { words := [⟨resultBytes, false⟩], wr := 1, cm := 1, pkts := [1] }
  { s with m := { s.m with out2 := [req2] } }

/-- `granted` with a bundle ring of the physical function enabled and a descriptor submitted. -/
def bundled : State := granted.setBRing 0 { comp := 0x9000, en := true, sp := 1 }
/-- `granted` as device 4 of pool 3, strait 2 Up to member 5, two flits unacknowledged; entry 255 offers region 0, entry 1 is a bundle of
member 5. -/
def linked : State :=
  let s := withObjs granted [(Obj.poolId, 3), (Obj.poolDevice, 4), (Obj.poolMembers, 32), (Obj.straitState 2, 3), (Obj.straitUp, 4), (Obj.straitPeer 2, 5)]
  { s.setStrait 2 { replay := [(7, [1]), (8, [2])], tx := 9, initGot := true, initAck := true } with
    pool := { s.pool with reg := [(1, { kind := 1, holder := 5, len := 512 }), (255, { kind := 1, holder := 4, region := 0, len := 512 })]
    } }
/-- A fetch of entry 1 of member 5 into region 1. -/
def fetch0 (epoch : Option Nat) : Fetch := { holder := 5, entry := 1, region := 1, len := 512, digest := zeros 48, epoch := epoch, got := 0 }
/-- `linked` with that fetch. -/
def fetching (epoch : Option Nat) : State := { linked with pool := { linked.pool with fetch := some (fetch0 epoch) } }
/-- A finished fetch of the small bundle into region 0. -/
def fetchDone : Fetch := { holder := 5, entry := 1, region := 0, len := 512, digest := bundleDigest tinyBundle, epoch := some 3, got := 512 }
/-- The first of two flits of a control packet, its CRC-32C in network order. -/
def goodFlit : Bytes :=
  let f := [0x12, 4, 5, 0, 0, 0, 0, 0, 0, 0, 0, 4, 0x01, 0, 0, 0] ++ [1, 2, 3, 4] ++ zeros 232
  f ++ be 4 (crc32c f)

/-- `owned` with an authenticated cartridge lit in slot 3. -/
def lighted : State :=
  withObjs (owned.setCart 3 { phase := 3, known := true, usable := true, nominal := 100 })
    [(Obj.cartPresent, 8), (Obj.cartLit, 8), (Obj.cartAuth 3, 1), (Obj.cartRatedHours 3, 40000), (Obj.cartState 3, 6), (Obj.cartIdleDark, 0)]
/-- The same after a light loss with two attempts made. -/
def darkened : State := withObjs (lighted.setCart 3 { lighted.cart 3 with usable := false, loss := some (9, 2) }) [(Obj.cartLit, 0)]
/-- The registers of a cartridge. -/
def regs0 : CartRegs :=
  { serial := 77, rated := 40000, fw := 0x010203, temp := 8960, drive := 100, nominal := 100, digest := zeros 48, cert := [1], life0 := zeros 64, life1 := zeros 64 }
/-- A sample of good light. -/
def sample0 : OptSample := { rx := [0, 0, 0, 0], tx := [0, 0, 0, 0], cw := 2000, status := 1, drive := 100, nominal := 100 }
/-- `owned` with a rotation engaged for partition 3. -/
def rotating : State := withObjs (owned.setRot 3 (some ⟨0, 1, 1, true, 70, 5⟩)) [(Obj.thermRotateMask, 8), (Obj.thermRotating, 8)]
/-- `owned` with source 7 tracing, one byte in its frame. -/
def tracing : State := withObjs (owned.setSrc 7 { buf := [0x50], pkt := true, first := 4, count := 1 }) [(Obj.traceEnable, 128), (Obj.traceState, 1)]

/-- `ringed` with a finished walk for its entry, which is software-pinned. -/
def pinnedT1 : State := { (ringed.setEntry slot0 { ringed.entry slot0 with pinned := true }) with t1 := { ringed.t1 with reqs := [walkDone], ens := [ens0] } }
theorem witness_EveryStepKeepsTheInvariant_1 : ∃ s t, Inv s ∧ step s = .next t :=
  ⟨State.reset, State.reset, by decide +kernel, by rfl⟩
theorem witness_EveryStepKeepsTheInvariant_2 : ∃ s t, step s = .next t := ⟨State.reset, State.reset, by rfl⟩

/-- What holds of what an absent value is. -/
theorem of_none {α : Type} {o : Option α} (h : o = none) (p : α → Prop) : ∀ x, o = some x → p x := by
  intro x e; rw [h] at e; cases e

/-! ## Witnesses: states and operands that meet the hypotheses of each clause of a statement -/

theorem witness_ReadAnswersItem_1 : ∃ (s : State) (r : Req) (n : Nat) (idx sub : Nat), (admitted s r 0x01 n = true) ∧ ((highestSub idx).isSome = true) ∧ ((dictRow idx sub).isSome = true) ∧ (inScope r.ep.scope idx sub = true) ∧ (s.mayRead n idx sub = true) ∧ (typeOf idx sub ≠ 0x0D) ∧ (accOf idx sub = .ro → s.sourceOn idx sub = true) ∧ (idx * 256 + sub ≠ Obj.attestNonceFeed) :=
  ⟨owned, own 5, 0, 0x1100, 1, by decide +kernel⟩

theorem witness_ReadAnswersItem_1a : ∃ (s : State) (r : Req) (n : Nat) (idx sub : Nat), (admitted s r 0x01 n = true) ∧ ((highestSub idx).isSome = true) ∧ ((dictRow idx sub).isSome = true) ∧ (inScope r.ep.scope idx sub = true) ∧ (s.mayRead n idx sub = true) ∧ (typeOf idx sub ≠ 0x0D) ∧ (accOf idx sub = .ro → s.sourceOn idx sub = true) ∧ (idx * 256 + sub ≠ Obj.attestNonceFeed) :=
  ⟨owned, { ep := .vf 3, agent := 1, seq := 9, epoch := 0 }, 1, 0x1000, 1, by decide +kernel⟩

theorem witness_ReadAnswersItem_2 : ∃ (s : State) (r : Req) (n : Nat) (a : Agent), (admitted s r 0x01 n = true) ∧ (s.agent n = some a) :=
  ⟨owned, own 5, 0, agentOf .pf, by decide +kernel⟩

theorem witness_ReadAnswersItem_3 : ∃ (s : State) (r : Req) (n : Nat) (refs : List (Nat × Nat)), (admitted s r 0x03 n = true) ∧ (1 ≤ refs.length) ∧ (refs.length ≤ 32) ∧ (∀ e ∈ refs, (arrived s r n).readCheck n r.ep.scope e.1 e.2 = 0) ∧ (fieldsLen ([(1, refs.length), (1, 0)] ++ refs.flatMap (fun e => (arrived s r n).item n e.1 e.2)) ≤ 1008) :=
  ⟨owned, own 5, 0, [(0x1100, 1), (0x1000, 1)], by decide +kernel⟩

theorem witness_WriteKeepsValue_1 : ∃ (s : State) (r : Req) (n : Nat) (idx sub : Nat) (d : DRow) (val : Bytes), (admitted s r 0x02 n = true) ∧ (owns s r n = true) ∧ (idx < 0x8000) ∧ (dictRow idx sub = some d) ∧ (sub ≠ 0) ∧ ((highestSub idx).isSome = true) ∧ (inScope r.ep.scope idx sub = true) ∧ (d.acc = .rw ∨ d.acc = .ow ∨ d.acc = .wo) ∧ (d.ty ≠ 0x0D) ∧ (val.length = typeWidth d.ty) ∧ (val.length ≤ 255) ∧ (d.dom.ok (8 * typeWidth d.ty) (unle val) = true) ∧ (writers.lookup (idx * 256 + sub) = none) ∧ (idx < 0x4110 ∨ 0x4118 ≤ idx) :=
  ⟨owned, own 5, 0, 0x2000, 0x10, ⟨0x2000, 1, 0x10, 1, 3, .ow, 9216, .range 1518 9600, false⟩, [0xEE, 0x05], by decide +kernel⟩

theorem witness_BlobTransfer_1 : ∃ (s : State) (r : Req) (n : Nat) (idx sub len : Nat), (admitted s r 0x10 n = true) ∧ ((arrived s r n).openCheck n r.ep.scope idx sub = 0) ∧ (idx * 256 + sub ≠ Obj.attestReport) ∧ (s.cu.handles.length < 65536) :=
  ⟨owned, own 5, 0, 0x1210, 1, 0, by decide +kernel⟩

theorem witness_BlobTransfer_2 : ∃ (s : State) (r : Req) (n : Nat), (admitted s r 0x10 n = true) ∧ (s.handleRoom n = true) :=
  ⟨owned, own 5, 0, by decide +kernel⟩

theorem witness_BlobTransfer_3 : ∃ (s : State) (r : Req) (n : Nat), (admitted s r 0x10 n = true) ∧ ((arrived s r n).openCheck n r.ep.scope 0x1630 0x09 = 0) :=
  ⟨{ withObjs owned [(Obj.obsDumpHeld, 1), (Obj.obsInspectAddr, 0x4000000000), (Obj.obsInspectLen, 16)] with obs := { halted := 1 } }, own 5, 0, by decide +kernel⟩

theorem witness_BlobTransfer_4 : ∃ (s : State) (r : Req) (n : Nat) (ext : Bool), (admitted s r 0x10 n = true) ∧ ((arrived s r n).openCheck n r.ep.scope 0x1620 (if ext then 8 else 7) = 0) :=
  ⟨owned, own 5, 0, false, by decide +kernel⟩

theorem witness_BlobTransfer_4a : ∃ (s : State) (r : Req) (n : Nat) (ext : Bool), (admitted s r 0x10 n = true) ∧ ((arrived s r n).openCheck n r.ep.scope 0x1620 (if ext then 8 else 7) = 0) :=
  ⟨owned, own 5, 0, true, by decide +kernel⟩

theorem witness_BlobTransfer_5 : ∃ (s : State) (r : Req) (n : Nat) (id count off : Nat) (h : Handle), (admitted s r 0x11 n = true) ∧ (s.cu.handles.find? (fun g => g.id == id && g.agent == n) = some h) ∧ (h.write = false) ∧ (h.dead = none) ∧ (1 ≤ count) ∧ (count ≤ (if r.ep = .cfgWindow then 232 else 992)) ∧ (off < h.len) :=
  ⟨{ owned with cu := { owned.cu with handles := [rdHandle] } }, own 5, 0, 4, 2, 1, rdHandle, by decide +kernel⟩

theorem witness_BlobTransfer_6 : ∃ (s : State) (r : Req) (n : Nat) (id : Nat) (h : Handle), (admitted s r 0x12 n = true) ∧ (s.cu.handles.find? (fun g => g.id == id && g.agent == n) = some h) ∧ (h.write = false) ∧ (h.dead = none) ∧ (s.traceRead = false) :=
  ⟨{ owned with cu := { owned.cu with handles := [rdHandle] } }, own 5, 0, 4, rdHandle, by decide +kernel⟩

theorem witness_ClaimElectsOwner_1 : ∃ (s : State) (r : Req) (n : Nat) (prio nonce : Nat) (a : Agent), (admitted s r 0x20 n = true) ∧ (s.obj Obj.ownerAgent = 0xFF) ∧ (r.ep.scope = 0xFF) ∧ (s.agent n = some a) :=
  ⟨withObjs owned [(Obj.ownerAgent, 0xFF)], own 5, 0, 3, 77, agentOf .pf, by decide +kernel⟩

theorem witness_ClaimElectsOwner_2 : ∃ (s : State) (w : Nat) (b : Bid), (s.cu.window = some w) ∧ (bestBid s.cu.bids = some b) ∧ (b.agent < 8) :=
  ⟨{ owned with cu := { owned.cu with window := some 50, bids := [⟨0, 3, 9⟩, ⟨1, 3, 9⟩, ⟨2, 3, 8⟩] } }, 50, ⟨0, 3, 9⟩, by decide +kernel⟩

theorem witness_OwnerOperations_1 : ∃ (s : State) (r : Req) (n : Nat), (admitted s r 0x21 n = true) ∧ (owns s r n = true) :=
  ⟨owned, own 5, 0, by decide +kernel⟩

theorem witness_OwnerOperations_2 : ∃ (s : State) (r : Req) (n : Nat) (target : Nat) (a : Agent), (admitted s r 0x21 n = true) ∧ (owns s r n = true) ∧ (target < 8) ∧ (s.agent target = some a) ∧ (a.ep.scope = 0xFF) :=
  ⟨owned, own 5, 0, 2, agentOf .cfgWindow, by decide +kernel⟩

theorem witness_OwnerOperations_3 : ∃ (s : State) (r : Req) (n : Nat), (admitted s r 0x22 n = true) ∧ (owns s r n = true) :=
  ⟨owned, own 5, 0, by decide +kernel⟩

theorem witness_OwnerOperations_4 : ∃ (s : State) (r : Req) (n : Nat), (s.served r.ep = true) ∧ (quiet s = true) ∧ (s.agentAt r.ep = none) ∧ (r.agent = 0xFF) ∧ ((List.range 8).find? (fun m => (s.agent m).isNone) = some n) :=
  ⟨owned, { ep := .can 9, agent := 0xFF, seq := 1, epoch := 0 }, 3, by decide +kernel⟩

theorem witness_OwnerOperations_5 : ∃ (s : State) (r : Req) (n : Nat) (p m : Nat) (a : Agent), (admitted s r 0x30 n = true) ∧ (owns s r n = true) ∧ (p < 16) ∧ (s.agent m = some a) ∧ (a.ep.scope = 0xFF ∨ a.ep.scope = p) ∧ (m ≠ n) ∧ (s.obj (Obj.delegP p) = 0xFF) :=
  ⟨owned, own 5, 0, 3, 1, agentOf (.vf 3), by decide +kernel⟩

theorem witness_OwnerOperations_6 : ∃ (s : State) (r : Req) (n : Nat) (p : Nat), (admitted s r 0x31 n = true) ∧ (owns s r n = true) ∧ (p < 16) :=
  ⟨withObjs owned [(Obj.delegP 3, 1)], own 5, 0, 3, by decide +kernel⟩

theorem witness_OwnerOperations_7 : ∃ (s : State) (r : Req) (n : Nat) (mask : Nat), (admitted s r 0x40 n = true) ∧ (r.ep ≠ .cfgWindow) :=
  ⟨owned, own 5, 0, 0xFFFFFFFF, by decide +kernel⟩

theorem witness_CuhildTimersEnd_1 : ∃ (s : State) (w : Nat), (s.cu.lease = some w) :=
  ⟨owned, 100000, by decide +kernel⟩

theorem witness_CuhildTimersEnd_2 : ∃ (s : State) (n : Nat) (a : Agent), (s.agent n = some a) ∧ (s.obj Obj.ownerAgent ≠ n) :=
  ⟨owned, 1, agentOf (.vf 3), by decide +kernel⟩

theorem witness_CuhildTimersEnd_3 : ∃ (s : State) (id : Nat) (h : Handle), (s.openHandles.find? (fun g => g.id == id) = some h) :=
  ⟨{ owned with cu := { owned.cu with handles := [rdHandle] } }, 4, rdHandle, by decide +kernel⟩

theorem witness_CuhildTimersEnd_4 : ∃ (s : State) (n : Nat) (p : CanPart), (s.canPart n = some p) :=
  ⟨{ owned with cu := { owned.cu with can := [(9, some ⟨1, [1], 70⟩)] } }, 9, ⟨1, [1], 70⟩, by decide +kernel⟩

theorem witness_MailboxesAndHostRegisters_1 : ∃ (s : State) (fn producer : Nat) (slots : List Bytes), (fn ≤ 16) ∧ (s.linkOn = true) ∧ (s.served (boxEp fn) = false) :=
  ⟨withObjs owned [(Obj.powerState, 1)], 0, 2, [[1], [2]], by decide +kernel⟩

theorem witness_MailboxesAndHostRegisters_2 : ∃ (s : State) (fn : Nat) (m : Bytes), (fn ≤ 16) ∧ (s.linkOn = true) ∧ (s.served (boxEp fn) = true) ∧ ((s.box fn).reqs = []) ∧ (decodeMsg (boxEp fn) (slotMsg m) = none) :=
  ⟨owned, 0, [0x20], by decide +kernel⟩

theorem witness_MailboxesAndHostRegisters_3 : ∃ (s u : State) (fn : Nat) (m : Bytes) (r : Req) (n idx sub : Nat), (fn ≤ 16) ∧ (s.linkOn = true) ∧ (s.served (boxEp fn) = true) ∧ ((s.box fn).reqs = []) ∧ (decodeMsg (boxEp fn) (slotMsg m) = some (r, .read idx sub)) ∧ (u = ((s.setBox fn { s.box fn with reqP := ((s.box fn).reqP + 1) % 32, reqs := [m] }).trigger 3).setBox fn { s.box fn with reqP := ((s.box fn).reqP + 1) % 32, reqC := ((s.box fn).reqC + 1) % 32, reqs := [] }) ∧ (admitted u r 0x01 n = true) ∧ (u.readCheck n r.ep.scope idx sub = 0) ∧ (idx * 256 + sub ≠ Obj.attestNonceFeed) :=
  ⟨owned, _, 0, [0x10, 0x01, 0, 0, 5, 0, 4, 0, 7, 0, 0, 0, 0, 0, 0, 0, 0x00, 0x11, 1, 0], ⟨.pf, 0, 5, 7⟩, 0, 0x1100, 1, by decide +kernel, by decide +kernel, by decide +kernel, by decide +kernel, by decide +kernel, rfl, by decide +kernel⟩

theorem witness_MailboxesAndHostRegisters_4 : ∃ (s : State) (fn : Nat) (m : Bytes) (ms : List Bytes), ((s.box fn).waiting = m :: ms) ∧ (ringFull5 (s.box fn).rspP (s.box fn).rspC = false) ∧ (s.served (boxEp fn) = true) :=
  ⟨owned.setBox 0 { waiting := [[1]], irq := 1 }, 0, [1], [], by decide +kernel⟩

theorem witness_MailboxesAndHostRegisters_5 : ∃ (s : State) (fn v : Nat), (fn ≤ 16) ∧ (s.bar2On = true) :=
  ⟨owned, 0, 33, by decide +kernel⟩

theorem witness_MailboxesAndHostRegisters_5a : ∃ (s : State) (fn v : Nat), (fn ≤ 16) ∧ (s.bar2On = true) :=
  ⟨owned, 16, 0, by decide +kernel⟩

theorem witness_MailboxesAndHostRegisters_6 : ∃ (s : State) (v : Nat), (s.served .cfgWindow = true) ∧ (bit v 1 = false) :=
  ⟨{ owned with cu := { owned.cu with cfgDone := true } }, 0, by decide +kernel⟩

theorem witness_MailboxesAndHostRegisters_7 : ∃ (s : State) (fn ring v : Nat), (fn ≤ 16) ∧ (s.bar2On = true) ∧ (hasRing fn ring = true) ∧ (ring < 256) ∧ ((s.ring (4 * fn + ring)).en = false) :=
  ⟨owned, 0, 1, 0x12345, by decide +kernel⟩

theorem witness_MailboxesAndHostRegisters_8 : ∃ (s : State) (fn ring v : Nat), (fn ≤ 16) ∧ (s.bar2On = true) ∧ (hasRing fn ring = true) ∧ (ring < 256) ∧ ((s.ring (4 * fn + ring)).en = false) :=
  ⟨owned, 0, 1, 0x12345, by decide +kernel⟩

theorem witness_MailboxesAndHostRegisters_9 : ∃ (s : State) (fn ring v : Nat), (fn ≤ 16) ∧ (s.bar2On = true) ∧ (hasRing fn ring = true) ∧ (ring < 256) :=
  ⟨ringed, 0, 1, 5, by decide +kernel⟩

theorem witness_MailboxesAndHostRegisters_10 : ∃ (s : State) (fn i v : Nat), (fn ≤ 16) ∧ (s.bar2On = true) ∧ (i < (if fn = 0 then 64 else 4)) ∧ ((s.cRing (64 * fn + i)).en = false) ∧ (bit v 0 = true) :=
  ⟨owned, 0, 63, 3, by decide +kernel⟩

theorem witness_MailboxesAndHostRegisters_10a : ∃ (s : State) (fn i v : Nat), (fn ≤ 16) ∧ (s.bar2On = true) ∧ (i < (if fn = 0 then 64 else 4)) ∧ ((s.cRing (64 * fn + i)).en = false) ∧ (bit v 0 = true) :=
  ⟨owned, 16, 3, 1, by decide +kernel⟩

theorem witness_MailboxesAndHostRegisters_11 : ∃ (s : State) (fn v : Nat), (fn ≤ 16) ∧ (s.bar2On = true) ∧ ((s.bRing fn).en = false) ∧ (bit v 0 = true) :=
  ⟨owned, 16, 1, by decide +kernel⟩

theorem witness_MessagesByTransport_1 : ∃ (s : State) (msg : Bytes), (s.served .cfgWindow = true) ∧ (s.cu.cfgGo = true) :=
  ⟨{ owned with cu := { owned.cu with cfgGo := true } }, [], by decide +kernel⟩

theorem witness_MessagesByTransport_2 : ∃ (s : State) (msg : Bytes), (s.served .cfgWindow = true) ∧ (s.cu.cfgGo = false) ∧ (leAt (padTo 256 msg) 6 2 ≤ 240) ∧ (decodeMsg .cfgWindow ((padTo 256 msg).take (16 + leAt (padTo 256 msg) 6 2)) = none) :=
  ⟨owned, [0x20], by decide +kernel⟩

theorem witness_MessagesByTransport_3 : ∃ (s : State) (msg : Bytes) (r : Req) (b : Body), (s.served .cfgWindow = true) ∧ (s.cu.cfgGo = false) ∧ (leAt (padTo 256 msg) 6 2 ≤ 240) ∧ (decodeMsg .cfgWindow ((padTo 256 msg).take (16 + leAt (padTo 256 msg) 6 2)) = some (r, b)) :=
  ⟨owned, [0x10, 0x22, 2, 0, 1, 0, 0, 0, 7, 0, 0, 0, 0, 0, 0, 0], ⟨.cfgWindow, 2, 1, 7⟩, .heartbeat, by decide +kernel⟩

theorem witness_MessagesByTransport_4 : ∃ (s : State) (id : Nat) (data : Bytes), (s.on = true) ∧ (s.boot.served = true) :=
  ⟨owned, 0, [], by decide +kernel⟩

theorem witness_MessagesByTransport_5 : ∃ (s : State) (id : Nat) (data : Bytes), (s.on = true) ∧ (s.boot.served = true) ∧ (bits id 25 19 = s.obj Obj.cuhildCanNode) ∧ (bits id 11 8 = 1) ∧ (bits id 18 12 ≤ 126) ∧ (s.canPart (bits id 18 12) = none) ∧ (byteAt data 0 = 0x80) :=
  ⟨owned, canId 0 (owned.obj Obj.cuhildCanNode) 9, [0x80, 1, 2], by decide +kernel⟩

theorem witness_MessagesByTransport_6 : ∃ (s : State) (id : Nat) (data : Bytes), (s.on = true) ∧ (s.boot.served = true) ∧ (bits id 25 19 = s.obj Obj.cuhildCanNode) ∧ (bits id 11 8 = 1) ∧ (bits id 18 12 ≤ 126) ∧ (s.canPart (bits id 18 12) = none) ∧ (byteAt data 0 = 0xC0) :=
  ⟨owned, canId 0 (owned.obj Obj.cuhildCanNode) 9, [0xC0, 1, 2], by decide +kernel⟩

theorem witness_MessagesByTransport_7 : ∃ (s : State) (src : Nat) (msg : Bytes) (r : Req) (b : Body), (s.served (.strait src) = true) ∧ (decodeMsg (.strait src) msg = some (r, b)) :=
  ⟨linked, 5, [0x10, 0x22, 2, 0, 0, 1, 0, 0, 0, 0, 0, 7, 0, 0, 0, 0], ⟨.strait 5, 2, 1, 7⟩, .heartbeat, by decide +kernel⟩

theorem witness_MessagesByTransport_8 : ∃ (s : State) (fn : Nat), (fn ≤ 16) ∧ (s.linkOn = true) :=
  ⟨owned, 0, by decide +kernel⟩

theorem witness_MessagesByTransport_8a : ∃ (s : State) (fn : Nat), (fn ≤ 16) ∧ (s.linkOn = true) :=
  ⟨owned, 4, by decide +kernel⟩

theorem witness_MessagesByTransport_9 : ∃ (s : State), True :=
  ⟨owned, by decide +kernel⟩

theorem witness_MessagesByTransport_10 : ∃ (s : State), True :=
  ⟨owned, by decide +kernel⟩

theorem witness_StartAndOff_1 : ∃ (s : State), (s.on = false) :=
  ⟨State.reset, by decide +kernel⟩

theorem witness_StartAndOff_1a : ∃ (s : State), (s.on = false) :=
  ⟨State.reset, by decide +kernel⟩

theorem witness_StartAndOff_2 : ∃ (s : State), (s.on = false) :=
  ⟨State.reset, by decide +kernel⟩

theorem witness_StartAndOff_2a : ∃ (s : State), (s.on = false) :=
  ⟨State.reset, by decide +kernel⟩

theorem witness_StartAndOff_3 : ∃ (s : State), True :=
  ⟨owned, by decide +kernel⟩

theorem witness_StartAndOff_3a : ∃ (s : State), True :=
  ⟨owned, by decide +kernel⟩

theorem witness_StartAndOff_4 : ∃ (s : State), True :=
  ⟨owned, by decide +kernel⟩

theorem witness_StartAndOff_4a : ∃ (s : State), True :=
  ⟨owned, by decide +kernel⟩

theorem witness_StartAndOff_5 : ∃ (s : State) (w : Nat), (s.boot.restartAt = some w) :=
  ⟨{ owned with boot := { owned.boot with restartAt := some 60 } }, 60, by decide +kernel⟩

theorem witness_StartAndPowerWrites_1 : ∃ (s : State) (r : Req) (n : Nat) (v : Nat), (admitted s r 0x02 n = true) ∧ (owns s r n = true) ∧ (v ≤ 1) :=
  ⟨owned, own 5, 0, 1, by decide +kernel⟩

theorem witness_StartAndPowerWrites_1a : ∃ (s : State) (r : Req) (n : Nat) (v : Nat), (admitted s r 0x02 n = true) ∧ (owns s r n = true) ∧ (v ≤ 1) :=
  ⟨withObjs { owned with cu := { owned.cu with agents := [(0, some (agentOf .cfgWindow))] } } [(Obj.powerState, 1)], { own 5 with ep := .cfgWindow }, 0, 1, by decide +kernel⟩

theorem witness_StartAndPowerWrites_2 : ∃ (s : State) (r : Req) (n : Nat) (v : Nat), (admitted s r 0x02 n = true) ∧ (owns s r n = true) ∧ (v ≤ 1) :=
  ⟨owned, own 5, 0, 1, by decide +kernel⟩

theorem witness_StartAndPowerWrites_2a : ∃ (s : State) (r : Req) (n : Nat) (v : Nat), (admitted s r 0x02 n = true) ∧ (owns s r n = true) ∧ (v ≤ 1) :=
  ⟨withObjs { owned with cu := { owned.cu with agents := [(0, some (agentOf .cfgWindow))] } } [(Obj.powerState, 1)], { own 5 with ep := .cfgWindow }, 0, 1, by decide +kernel⟩

theorem witness_StartAndPowerWrites_3 : ∃ (s : State) (r : Req) (n : Nat) (v : Nat), (admitted s r 0x02 n = true) ∧ (owns s r n = true) ∧ (v < 256) ∧ (bit v 1 = true → bit v 0 = true) ∧ ((bit v 2 || bit v 3 || bit v 4 || bit v 5) = true → bit v 1 = true) :=
  ⟨owned, own 5, 0, 0xC7, by decide +kernel⟩

theorem witness_StartAndPowerWrites_4 : ∃ (s : State) (r : Req) (n : Nat), (admitted s r 0x02 n = true) ∧ (owns s r n = true) ∧ (s.obj Obj.updStatus ≠ 1) :=
  ⟨owned, own 5, 0, by decide +kernel⟩

theorem witness_StartAndPowerWrites_5 : ∃ (s : State) (r : Req) (n : Nat) (v : Nat), (admitted s r 0x02 n = true) ∧ (owns s r n = true) ∧ (v < 2 ^ 64) :=
  ⟨owned, own 5, 0, 1234567890123456789, by decide +kernel⟩

theorem witness_StartAndPowerWrites_6 : ∃ (s : State) (r : Req) (n : Nat) (isle v : Nat), (admitted s r 0x02 n = true) ∧ (owns s r n = true) ∧ (isle < 4) ∧ (1 ≤ v) ∧ (v ≤ 16) :=
  ⟨owned, own 5, 0, 3, 16, by decide +kernel⟩

theorem witness_StartAndPowerWrites_6a : ∃ (s : State) (r : Req) (n : Nat) (isle v : Nat), (admitted s r 0x02 n = true) ∧ (owns s r n = true) ∧ (isle < 4) ∧ (1 ≤ v) ∧ (v ≤ 16) :=
  ⟨owned, own 5, 0, 0, 1, by decide +kernel⟩

theorem witness_CoreClockStartsAndStops_1 : ∃ (s : State) (reason q : Nat), (s.berth = true) ∧ (s.pwr.trigger = some q) ∧ (s.pwr.pllRetry = none) ∧ (s.domain 0 = false) :=
  ⟨berth, 1, 1, by decide +kernel⟩

theorem witness_CoreClockStartsAndStops_2 : ∃ (s : State) (reason q : Nat), (s.berth = true) ∧ (s.pwr.trigger = some q) ∧ (s.pwr.pllRetry = none) :=
  ⟨berth, 1, 1, by decide +kernel⟩

theorem witness_CoreClockStartsAndStops_3 : ∃ (s : State) (w q : Nat), (s.pwr.pllRetry = some w) ∧ (s.pwr.trigger = some q) ∧ (s.domain 0 = false) :=
  ⟨{ berth with pwr := { berth.pwr with pllRetry := some 90 } }, 90, 1, by decide +kernel⟩

theorem witness_CoreClockStartsAndStops_4 : ∃ (s : State) (w q : Nat), (s.pwr.pllRetry = some w) ∧ (s.pwr.trigger = some q) :=
  ⟨{ berth with pwr := { berth.pwr with pllRetry := some 90 } }, 90, 1, by decide +kernel⟩

theorem witness_CoreClockStartsAndStops_5 : ∃ (s : State) (l : Nat), (s.berth = true) ∧ (s.laneEnabled l = true) ∧ (∀ b ∈ s.pwr.backoff, b.1 = l → b.2.2 ≤ s.clk.ticks) ∧ (s.boot.served = true) ∧ (s.boot.recovery = false) ∧ (s.obj Obj.thermTripped = 0) ∧ (s.pwr.trigger = none) :=
  ⟨{ berth with pwr := { berth.pwr with trigger := none, backoff := [(1, 5, 900)] } }, 0, by decide +kernel⟩

theorem witness_CoreClockStartsAndStops_5a : ∃ (s : State) (l : Nat), (s.berth = true) ∧ (s.laneEnabled l = true) ∧ (∀ b ∈ s.pwr.backoff, b.1 = l → b.2.2 ≤ s.clk.ticks) ∧ (s.boot.served = true) ∧ (s.boot.recovery = false) ∧ (s.obj Obj.thermTripped = 0) ∧ (s.pwr.trigger = none) :=
  ⟨{ withObjs berth [(Obj.straitEnable, 255)] with pwr := { berth.pwr with trigger := none } }, 127, by decide +kernel⟩

theorem witness_CoreClockStartsAndStops_6 : ∃ (s : State) (l : Nat) (b : Nat × Nat × Nat), (s.pwr.backoff.find? (fun b => b.1 == l) = some b) :=
  ⟨{ berth with pwr := { berth.pwr with backoff := [(1, 5, 900)] } }, 1, (1, 5, 900), by decide +kernel⟩

theorem witness_CoreClockStartsAndStops_7 : ∃ (s : State), (s.running = true) ∧ (s.obj Obj.powerAutoStop = 1) ∧ (s.obj Obj.powerCoreHold = 0) ∧ (s.idleNow = true) :=
  ⟨withObjs owned [(Obj.powerState, 2), (Obj.powerAutoStop, 1), (Obj.powerBerthKeep, 1)], by decide +kernel⟩

theorem witness_RailsRiseAndFall_1 : ∃ (s : State) (q : Nat), (s.on = true) ∧ (q < 7) ∧ (s.pwr.waits.any (fun w => w.1 == q) = false) :=
  ⟨berth, 6, by decide +kernel⟩

theorem witness_RailsRiseAndFall_1a : ∃ (s : State) (q : Nat), (s.on = true) ∧ (q < 7) ∧ (s.pwr.waits.any (fun w => w.1 == q) = false) :=
  ⟨berth, 0, by decide +kernel⟩

theorem witness_RailsRiseAndFall_2 : ∃ (s : State) (q : Nat), (s.on = true) ∧ (q < 7) ∧ (s.pwr.waits.any (fun w => w.1 == q) = true) ∧ (s.pwr.waits.all (fun w => w.1 == q) = true) ∧ (s.pwr.up = some 0) ∧ (bit s.pwr.en 2 = false) :=
  ⟨{ berth with pwr := { berth.pwr with up := some 0, en := 3, waits := [(1, 50)] } }, 1, by decide +kernel⟩

theorem witness_RailsRiseAndFall_3 : ∃ (s : State) (q : Nat) (rest : List Nat), (s.pwr.down = q :: rest) :=
  ⟨{ berth with pwr := { berth.pwr with down := [2, 1], en := 7 } }, 2, [1], by decide +kernel⟩

theorem witness_TripsAndTheirClearing_1 : ∃ (s : State), (s.on = true) ∧ (s.obj Obj.thermTripped = 0) :=
  ⟨owned, by decide +kernel⟩

theorem witness_TripsAndTheirClearing_2 : ∃ (s : State), (s.pwr.coreClock = true) ∧ (s.obj Obj.thermTripped = 0) :=
  ⟨owned, by decide +kernel⟩

theorem witness_TripsAndTheirClearing_3 : ∃ (s : State) (q : Nat) (w : Nat × Nat), (s.pwr.waits.find? (fun w => w.1 == q) = some w) ∧ (s.obj Obj.thermTripped = 0) :=
  ⟨{ berth with pwr := { berth.pwr with up := some 0, en := 3, waits := [(1, 50)] } }, 1, (1, 50), by decide +kernel⟩

theorem witness_TripsAndTheirClearing_4 : ∃ (s : State) (q : Nat), (s.on = true) ∧ (q < 7) ∧ (bit s.pwr.en q = true) ∧ (s.obj Obj.thermTripped = 0) :=
  ⟨{ owned with pwr := { owned.pwr with en := 127 } }, 6, by decide +kernel⟩

theorem witness_TripsAndTheirClearing_5 : ∃ (s : State) (r : Req) (n : Nat), (admitted s r 0x02 n = true) ∧ (owns s r n = true) ∧ (s.obj Obj.thermTripped = 1) ∧ (s.heat.sensors.all (fun e => decide (e.2.val ≤ (s.obj Obj.thermResumeTemp : Int) * 256)) = true) :=
  ⟨withObjs owned [(Obj.thermTripped, 1)], own 5, 0, by decide +kernel⟩

theorem witness_TripsAndTheirClearing_6 : ∃ (s : State) (w : Nat), (s.obj Obj.thermTripped = 1) ∧ (s.obj Obj.thermAutoResume = 1) ∧ (s.pwr.tripCool = some w) :=
  ⟨{ withObjs owned [(Obj.thermTripped, 1), (Obj.thermAutoResume, 1)] with pwr := { owned.pwr with tripCool := some 5 } }, 5, by decide +kernel⟩

theorem witness_FlashAndUpdates_1 : ∃ (s : State), (s.boot.keptPending = true) :=
  ⟨{ owned with boot := { owned.boot with keptPending := true } }, by decide +kernel⟩

theorem witness_FlashAndUpdates_1a : ∃ (s : State), (s.boot.keptPending = true) :=
  ⟨{ owned with boot := { owned.boot with keptPending := true, keptCopy := 1 } }, by decide +kernel⟩

theorem witness_FlashAndUpdates_2 : ∃ (s : State) (p : Prog), (s.boot.prog = some p) ∧ (4 ≤ p.image.length) :=
  ⟨{ owned with boot := { owned.boot with prog := some ⟨1, 0, [1, 2, 3, 4, 5]⟩ } }, ⟨1, 0, [1, 2, 3, 4, 5]⟩, by decide +kernel⟩

theorem witness_FlashAndUpdates_3 : ∃ (s : State) (p : Prog), (s.boot.prog = some p) :=
  ⟨{ owned with boot := { owned.boot with prog := some ⟨1, 0, [1, 2, 3, 4, 5]⟩ } }, ⟨1, 0, [1, 2, 3, 4, 5]⟩, by decide +kernel⟩

theorem witness_DeviceTimeDiscipline_1 : ∃ (s : State) (off p : Nat), (s.clk.ppsTick = some p) ∧ (s.clk.ticks < p + 25000000) :=
  ⟨{ owned with clk := { owned.clk with ppsTick := some 5 } }, 3, 5, by decide +kernel⟩

theorem witness_DeviceTimeDiscipline_2 : ∃ (s : State) (off v w : Nat), (s.on = true) ∧ (∀ p, s.clk.ppsTick = some p → p + 25000000 ≤ s.clk.ticks) ∧ (s.clk.armed = some (v, w)) :=
  ⟨{ owned with clk := { owned.clk with armed := some (77, 900) } }, 3, 77, 900, by decide +kernel, of_none (by decide +kernel) _, by decide +kernel⟩

theorem witness_DeviceTimeDiscipline_3 : ∃ (s : State) (off good : Nat) (e f : Int), (s.on = true) ∧ (∀ p, s.clk.ppsTick = some p → p + 25000000 ≤ s.clk.ticks) ∧ (s.clk.armed = none) ∧ (e = ((s.clk.dev + off % 20 : Nat) + 500000000 : Int) % 1000000000 - 500000000) ∧ (good = (if e.natAbs ≤ 100 then min 8 (s.clk.ppsGood + 1) else 0)) ∧ (f = max (-200000) (min 200000 (roundEvenI (8 * s.clk.freq - e) 8))) ∧ (e.natAbs ≤ s.obj Obj.timeStepLimit) :=
  ⟨{ owned with clk := { owned.clk with dev := 1000000040 } }, 3, 1, 43, -5, by decide +kernel, of_none (by decide +kernel) _, by decide +kernel⟩

theorem witness_DeviceTimeDiscipline_4 : ∃ (s : State) (off good : Nat) (e : Int), (s.on = true) ∧ (∀ p, s.clk.ppsTick = some p → p + 25000000 ≤ s.clk.ticks) ∧ (s.clk.armed = none) ∧ (e = ((s.clk.dev + off % 20 : Nat) + 500000000 : Int) % 1000000000 - 500000000) ∧ (good = (if e.natAbs ≤ 100 then min 8 (s.clk.ppsGood + 1) else 0)) ∧ (s.obj Obj.timeStepLimit < e.natAbs) :=
  ⟨{ owned with clk := { owned.clk with dev := 1400000000 } }, 0, 0, 400000000, by decide +kernel, of_none (by decide +kernel) _, by decide +kernel⟩

theorem witness_DeviceTimeDiscipline_5 : ∃ (s : State) (w : Nat), (s.clk.ppsTick = some w) :=
  ⟨{ owned with clk := { owned.clk with ppsTick := some 5 } }, 5, by decide +kernel⟩

theorem witness_DeviceTimeDiscipline_6 : ∃ (s : State) (v w : Nat), (s.clk.armed = some (v, w)) :=
  ⟨{ owned with clk := { owned.clk with armed := some (77, 900) } }, 77, 900, by decide +kernel⟩

theorem witness_ResidencyOfCores_1 : ∃ (s : State) (c : Nat), (s.isleOn (c / 32) = true) ∧ ((s.core c).idle = true) ∧ (s.napping c = false) :=
  ⟨owned, 127, by decide +kernel⟩

theorem witness_ResidencyOfCores_2 : ∃ (s : State) (q : Nat), (s.isleOn (q / 8) = true) ∧ (s.quadState q = 1) ∧ (2 ≤ s.floor q) ∧ (s.entersAt q = false) :=
  ⟨napping, 0, by decide +kernel⟩

theorem witness_ResidencyOfCores_3 : ∃ (s : State) (n : Nat), (s.isleOn n = true) ∧ (s.res.entering.contains (true, n) = false) ∧ (∀ i ∈ List.range 8, s.dozing (8 * n + i) = true ∧ s.floor (8 * n + i) = 3) :=
  ⟨dozing3, 3, by decide +kernel⟩

theorem witness_ResidencyOfCores_4 : ∃ (s : State) (q : Nat), (q < 32) ∧ (s.res.entering.contains (false, q) = true) ∧ (s.res.wakes.contains q = false) ∧ (2 ≤ s.floor q) ∧ (∀ i ∈ List.range 32, i ≠ q → s.domain (2 + i / 8) = true → s.entersAt i = false → s.quadState i ≤ s.floor i) ∧ (∀ i ∈ List.range 4, (s.sched (q / 8)).waiting.any (fun e => e.1 == 4 * q + i) = false) :=
  ⟨{ napping with res := { napping.res with entering := [(false, 0)] } }, 0, by decide +kernel⟩

theorem witness_ResidencyOfCores_5 : ∃ (s : State) (n : Nat), (n < 4) ∧ (s.res.entering.contains (true, n) = true) :=
  ⟨{ dozing3 with res := { dozing3.res with entering := [(true, 3)] } }, 3, by decide +kernel⟩

theorem witness_ResidencyOfCores_6 : ∃ (s : State) (q : Nat), (q < 32) ∧ (s.domain (2 + q / 8) = true) ∧ (s.res.entering.any (fun e => if e.1 then e.2 == q / 8 else e.2 == q) = false) :=
  ⟨dozing3, 24, by decide +kernel⟩

theorem witness_ResidencyOfCores_6a : ∃ (s : State) (q : Nat), (q < 32) ∧ (s.domain (2 + q / 8) = true) ∧ (s.res.entering.any (fun e => if e.1 then e.2 == q / 8 else e.2 == q) = false) :=
  ⟨owned, 0, by decide +kernel⟩

theorem witness_ResidencyOfCores_7 : ∃ (s : State) (r : Req) (n : Nat) (p v : Nat), (admitted s r 0x02 n = true) ∧ (owns s r n = true) ∧ (p < 16) ∧ (v < 2 ^ 32) ∧ (∀ q ∈ List.range 32, bit v q = true → bit (s.obj (Obj.partQuads p)) q = false → (∀ o ∈ List.range 16, o ≠ p → bit (s.obj (Obj.partQuads o)) q = false) ∧ bit (s.obj Obj.faultIslesFenced) (q / 8) = false) ∧ (∀ q ∈ List.range 32, bit (s.obj (Obj.partQuads p)) q = true → bit v q = false → ∀ m ∈ List.range 4, s.slotState p m = 0 ∨ bit (s.obj (Obj.partSlotQuads p m)) q = false) :=
  ⟨owned, own 5, 0, 2, 0x00000F00, by decide +kernel⟩

theorem witness_FramesCross_1 : ∃ (s : State) (f : FrameIn), (s.portTakes f.port = true) ∧ (64 ≤ f.bytes.length + 4) ∧ (f.bytes.length + 4 ≤ s.obj Obj.portMaxFrame) ∧ (s.consumes f = false) ∧ (f.fcsOk = true) ∧ (f.fecBad = false) ∧ (s.obj Obj.startPlainCrossing = 1) ∧ (s.admits (paired f.port) = .in_) :=
  ⟨up, { port := 0, bytes := frame64 }, by decide +kernel⟩

theorem witness_FramesCross_2 : ∃ (s : State) (f : FrameIn), (s.portTakes f.port = true) ∧ (64 ≤ f.bytes.length + 4) ∧ (f.bytes.length + 4 ≤ s.obj Obj.portMaxFrame) ∧ (s.consumes f = false) ∧ (f.fcsOk = true) ∧ (f.fecBad = false) ∧ (s.obj Obj.startPlainCrossing = 0) ∧ ((s.parse f.bytes).cls = .nonip) ∧ (bits (s.obj (Obj.partNonipVerdict (s.partOf f.port (s.parse f.bytes).vid))) 31 28 = 0) ∧ (s.obj (Obj.partTagMode (s.partOf f.port (s.parse f.bytes).vid)) ≠ 1) ∧ (s.admits (paired f.port) = .in_) :=
  ⟨withObjs up [(Obj.startPlainCrossing, 0)], { port := 0, bytes := frame64 }, by decide +kernel⟩

theorem witness_FramesCross_3 : ∃ (s : State) (f : FrameIn), (s.portTakes f.port = true) ∧ (64 ≤ f.bytes.length + 4) ∧ (f.bytes.length + 4 ≤ s.obj Obj.portMaxFrame) ∧ (f.fcsOk = false ∨ f.fecBad = true) ∧ (f.badLate = false) ∧ (s.obj Obj.startPlainCrossing = 1) ∧ (s.admits (paired f.port) = .in_) :=
  ⟨up, { port := 0, bytes := frame64, fcsOk := false }, by decide +kernel⟩

theorem witness_FramesCross_3a : ∃ (s : State) (f : FrameIn), (s.portTakes f.port = true) ∧ (64 ≤ f.bytes.length + 4) ∧ (f.bytes.length + 4 ≤ s.obj Obj.portMaxFrame) ∧ (f.fcsOk = false ∨ f.fecBad = true) ∧ (f.badLate = false) ∧ (s.obj Obj.startPlainCrossing = 1) ∧ (s.admits (paired f.port) = .in_) :=
  ⟨up, { port := 0, bytes := frame64, fecBad := true, fecWords := 1 }, by decide +kernel⟩

theorem witness_FramesCross_4 : ∃ (s : State) (f : FrameIn), (s.portTakes f.port = true) ∧ (f.bytes.length + 4 < 64 ∨ s.obj Obj.portMaxFrame < f.bytes.length + 4) :=
  ⟨up, { port := 0, bytes := frame64.drop 1 }, by decide +kernel⟩

theorem witness_FramesCross_4a : ∃ (s : State) (f : FrameIn), (s.portTakes f.port = true) ∧ (f.bytes.length + 4 < 64 ∨ s.obj Obj.portMaxFrame < f.bytes.length + 4) :=
  ⟨withObjs up [(Obj.portMaxFrame, 63)], { port := 0, bytes := frame64 }, by decide +kernel⟩

theorem witness_FramesCross_5 : ∃ (s : State) (q : Nat) (f : EFrame) (fs : List EFrame) (late : Bool), (s.netOn = true) ∧ (s.portState q = 2) ∧ (s.xoffed q = false) ∧ ((s.eq q).frames = f :: fs) ∧ (f.judge = false) ∧ (f.bad = false) :=
  ⟨up.setEq 32 { wr := 1, frames := [⟨frame64, false, 0, false⟩] }, 32, ⟨frame64, false, 0, false⟩, [], true, by decide +kernel⟩

theorem witness_FramesCross_6 : ∃ (s : State) (q bad fixed : Nat) (f : EFrame) (fs : List EFrame), (s.netOn = true) ∧ (s.portState q = 2) ∧ (s.xoffed q = false) ∧ ((s.eq q).frames = f :: fs) ∧ (f.judge = false) ∧ (f.bad = false) ∧ (0 < bad) :=
  ⟨up.setEq 32 { wr := 1, frames := [⟨frame64, false, 0, false⟩] }, 32, 1, 0, ⟨frame64, false, 0, false⟩, [], by decide +kernel⟩

theorem witness_FramesCross_7 : ∃ (s : State) (g : Nat) (level : Bool), (s.on = true) ∧ (g < 4) :=
  ⟨up, 3, true, by decide +kernel⟩

theorem witness_HeldFramesLeave_1 : ∃ (s : State) (n : Nat) (h : HeldKey) (hs : List HeldKey), (s.netOn = true) ∧ (s.holds n = h :: hs) :=
  ⟨{ up with x := { up.x with holds := [(0, [⟨key0, false, 9, []⟩])] } }, 0, ⟨key0, false, 9, []⟩, [], by decide +kernel⟩

theorem witness_PortsFollowTheirLinks_1 : ∃ (s : State) (q : Nat), (s.netOn = true) ∧ (q < 64) ∧ (s.portState q = 2) ∧ ((s.port q).series = 0) ∧ (0 < s.obj Obj.portHoldTime) ∧ (∀ f ∈ (s.eq q).frames.head?, f.bad = false) :=
  ⟨up, 0, by decide +kernel⟩

theorem witness_PortsFollowTheirLinks_1a : ∃ (s : State) (q : Nat), (s.netOn = true) ∧ (q < 64) ∧ (s.portState q = 2) ∧ ((s.port q).series = 0) ∧ (0 < s.obj Obj.portHoldTime) ∧ (∀ f ∈ (s.eq q).frames.head?, f.bad = false) :=
  ⟨up, 32, by decide +kernel⟩

theorem witness_PortsFollowTheirLinks_2 : ∃ (s : State) (q : Nat) (f : EFrame) (fs : List EFrame), (s.netOn = true) ∧ (q < 64) ∧ (s.portState q = 2) ∧ ((s.port q).series = 0) ∧ (0 < s.obj Obj.portHoldTime) ∧ ((s.eq q).frames = f :: fs) :=
  ⟨up.setEq 32 { wr := 1, frames := [⟨frame64, false, 0, false⟩] }, 32, ⟨frame64, false, 0, false⟩, [], by decide +kernel⟩

theorem witness_PortsFollowTheirLinks_3 : ∃ (s : State) (q : Nat), (s.netOn = true) ∧ (q < 64) ∧ (s.running = true) ∧ (s.present q = true) ∧ (s.mismatched q = false) ∧ (s.portState q = 3 ∨ s.portState q = 4) ∧ ((s.port q).followed = false) ∧ (32 ≤ q → s.lightOk q = true) :=
  ⟨withObjs up [(portObj 0 1, 3)], 0, by decide +kernel⟩

theorem witness_PortsFollowTheirLinks_4 : ∃ (s : State) (q d : Nat), (q < 64) ∧ ((s.port q).hold = some d) ∧ (s.portState q = 3) :=
  ⟨(withObjs up [(portObj 0 1, 3)]).setPort 0 { hold := some 9 }, 0, 9, by decide +kernel⟩

theorem witness_PortsFollowTheirLinks_5 : ∃ (s : State) (q d : Nat), (q < 64) ∧ ((s.port q).damp = some d) :=
  ⟨up.setPort 0 { damp := some 9 }, 0, 9, by decide +kernel⟩

theorem witness_PortsFollowTheirLinks_6 : ∃ (s : State) (q : Nat), (0 < (s.port q).series) ∧ ((s.port q).damp = none) :=
  ⟨up.setPort 0 { series := 3 }, 0, by decide +kernel⟩

theorem witness_PortsFollowTheirLinks_7 : ∃ (s : State) (q d : Nat), ((s.port q).train = some d) :=
  ⟨up.setPort 0 { train := some 9 }, 0, 9, by decide +kernel⟩

theorem witness_PortAndMeterWrites_1 : ∃ (s : State) (r : Req) (n : Nat) (line : Bool) (v : Nat), (admitted s r 0x02 n = true) ∧ (owns s r n = true) ∧ (v < 2 ^ 32) :=
  ⟨owned, own 5, 0, false, 5, by decide +kernel⟩

theorem witness_PortAndMeterWrites_1a : ∃ (s : State) (r : Req) (n : Nat) (line : Bool) (v : Nat), (admitted s r 0x02 n = true) ∧ (owns s r n = true) ∧ (v < 2 ^ 32) :=
  ⟨owned, own 5, 0, true, 0xFFFFFFFF, by decide +kernel⟩

theorem witness_PortAndMeterWrites_2 : ∃ (s : State) (r : Req) (n : Nat) (line : Bool) (g v : Nat), (admitted s r 0x02 n = true) ∧ (owns s r n = true) ∧ (g < 4) ∧ (1 ≤ v) ∧ (v ≤ 3) :=
  ⟨owned, own 5, 0, false, 0, 1, by decide +kernel⟩

theorem witness_PortAndMeterWrites_2a : ∃ (s : State) (r : Req) (n : Nat) (line : Bool) (g v : Nat), (admitted s r 0x02 n = true) ∧ (owns s r n = true) ∧ (g < 4) ∧ (1 ≤ v) ∧ (v ≤ 3) :=
  ⟨owned, own 5, 0, true, 3, 3, by decide +kernel⟩

theorem witness_PortAndMeterWrites_3 : ∃ (s : State) (r : Req) (n : Nat), (admitted s r 0x02 n = true) ∧ (owns s r n = true) ∧ (s.obj Obj.meterCir ≤ s.obj Obj.meterPir) ∧ (s.obj Obj.portMaxFrame ≤ s.obj Obj.meterCbs) ∧ (s.obj Obj.portMaxFrame ≤ s.obj Obj.meterPbs) :=
  ⟨withObjs owned [(Obj.meterCbs, 20000), (Obj.meterPbs, 20000)], own 5, 0, by decide +kernel⟩

theorem witness_TableReads_1 : ∃ (s : State) (d : Desc) (i : Nat), (ringServes s d = true) ∧ (keyScope d = true) ∧ (s.findKey d.key = some i) ∧ (d.ecc = []) :=
  ⟨ringed, { fn := 0, ring := 1, epoch := 0, key := key0, buf := 0x1000 }, slot0, by decide +kernel⟩

theorem witness_TableReads_2 : ∃ (s : State) (d : Desc) (i : Nat), (ringServes s d = true) ∧ (d.fn = 0) ∧ (d.ecc = []) ∧ (i < 4194304) ∧ (d.a = 0x6000000000 + 64 * i) :=
  ⟨ringed, { fn := 0, ring := 1, epoch := 0, key := key0, buf := 0x1000, a := 0x6000000000 }, 0, by decide +kernel⟩

theorem witness_TableReads_2a : ∃ (s : State) (d : Desc) (i : Nat), (ringServes s d = true) ∧ (d.fn = 0) ∧ (d.ecc = []) ∧ (i < 4194304) ∧ (d.a = 0x6000000000 + 64 * i) :=
  ⟨ringed, { fn := 0, ring := 1, epoch := 0, key := key0, buf := 0x1000, a := 0x6000000000 + 64 * 4194303 }, 4194303, by decide +kernel⟩

theorem witness_TableReads_3 : ∃ (s : State) (d : Desc) (i : Nat), (ringServes s d = true) ∧ (d.fn = 0) ∧ (d.ecc = []) ∧ (1 ≤ d.b) ∧ (d.b ≤ 4096) ∧ (i + d.b ≤ 4194304) ∧ (d.a = 0x6000000000 + 64 * i) :=
  ⟨ringed, { fn := 0, ring := 1, epoch := 0, key := key0, buf := 0x1000, a := 0x6000000000, b := 1 }, 0, by decide +kernel⟩

theorem witness_TableReads_3a : ∃ (s : State) (d : Desc) (i : Nat), (ringServes s d = true) ∧ (d.fn = 0) ∧ (d.ecc = []) ∧ (1 ≤ d.b) ∧ (d.b ≤ 4096) ∧ (i + d.b ≤ 4194304) ∧ (d.a = 0x6000000000 + 64 * i) :=
  ⟨ringed, { fn := 0, ring := 1, epoch := 0, key := key0, buf := 0x1000, a := 0x6000000000 + 64 * 4194300, b := 4 }, 4194300, by decide +kernel⟩

theorem witness_TableReads_4 : ∃ (s : State) (d : Desc) (target first : Nat), (ringServes s d = true) ∧ (d.fn = 0) ∧ (d.a = target * 2 ^ 32 + first) ∧ (target ≤ 9) ∧ (1 ≤ d.b) ∧ (d.b ≤ 1024) ∧ (first + d.b ≤ trieSize target) :=
  ⟨ringed, { fn := 0, ring := 1, epoch := 0, key := key0, buf := 0x1000, a := 9 * 2 ^ 32, b := 2 }, 9, 0, by decide +kernel⟩

theorem witness_TableReads_4a : ∃ (s : State) (d : Desc) (target first : Nat), (ringServes s d = true) ∧ (d.fn = 0) ∧ (d.a = target * 2 ^ 32 + first) ∧ (target ≤ 9) ∧ (1 ≤ d.b) ∧ (d.b ≤ 1024) ∧ (first + d.b ≤ trieSize target) :=
  ⟨ringed, { fn := 0, ring := 1, epoch := 0, key := key0, buf := 0x1000, a := 65535, b := 1 }, 0, 65535, by decide +kernel⟩

theorem witness_TableChanges_1 : ∃ (s : State) (d : Desc) (i : Nat), (ringServes s d = true) ∧ (keyScope d = true) ∧ (bits d.flags 2 0 = 0) ∧ (∀ x ∈ d.ecc, (s.candidates d.key).contains x = false) ∧ (s.findKey d.key = none) ∧ (s.partCount d.key.part < s.obj (Obj.partFlowQuota d.key.part)) ∧ ((s.candidates d.key).find? (fun j => !(s.entry j).valid) = some i) :=
  ⟨{ ringed with flow := { ringed.flow with entries := [] } }, { fn := 0, ring := 1, epoch := 0, key := key0, buf := 0x1000, score := 7, verdict := 0xA0000000 }, slot0, by decide +kernel⟩

theorem witness_TableChanges_2 : ∃ (s : State) (d : Desc) (i : Nat), (ringServes s d = true) ∧ (keyScope d = true) ∧ (∀ x ∈ d.ecc, (s.candidates d.key).contains x = false) ∧ (s.findKey d.key = some i) ∧ (s.locked (s.entry i) = false ∨ (s.entry i).owner = (s.ring (4 * d.fn + d.ring)).tag) ∧ (bits d.flags 1 0 = 0) :=
  ⟨ringed, { fn := 0, ring := 1, epoch := 0, key := key0, buf := 0x1000, score := 7, verdict := 0xA0000000 }, slot0, by decide +kernel⟩

theorem witness_TableChanges_3 : ∃ (s : State) (d : Desc) (i : Nat), (ringServes s d = true) ∧ (keyScope d = true) ∧ (∀ x ∈ d.ecc, (s.candidates d.key).contains x = false) ∧ (s.findKey d.key = some i) ∧ (s.locked (s.entry i) = false ∨ ((s.entry i).owner = (s.ring (4 * d.fn + d.ring)).tag ∧ bit d.flags 1 = true)) ∧ (d.fn = 0 ∨ (s.entry i).pinned = false) :=
  ⟨ringed, { fn := 0, ring := 1, epoch := 0, key := key0, buf := 0x1000 }, slot0, by decide +kernel⟩

theorem witness_TableChanges_4 : ∃ (s : State) (d : Desc) (i : Nat), (ringServes s d = true) ∧ (keyScope d = true) ∧ (∀ x ∈ d.ecc, (s.candidates d.key).contains x = false) ∧ (s.findKey d.key = some i) ∧ (s.locked (s.entry i) = false ∨ ((s.entry i).owner = (s.ring (4 * d.fn + d.ring)).tag ∧ bit d.flags 1 = true)) ∧ (d.a ≤ (s.stamp + 2 ^ 32 - (s.entry i).stamp) % 2 ^ 32) :=
  ⟨ringed, { fn := 0, ring := 1, epoch := 0, key := key0, buf := 0x1000 }, slot0, by decide +kernel⟩

theorem witness_TableChanges_5 : ∃ (s : State) (d : Desc) (i : Nat), (ringServes s d = true) ∧ (keyScope d = true) ∧ (∀ x ∈ d.ecc, (s.candidates d.key).contains x = false) ∧ (s.findKey d.key = some i) ∧ (s.locked (s.entry i) = false ∨ (s.entry i).owner = (s.ring (4 * d.fn + d.ring)).tag) :=
  ⟨ringed, { fn := 0, ring := 1, epoch := 0, key := key0, buf := 0x1000 }, slot0, by decide +kernel⟩

theorem witness_TableChanges_6 : ∃ (s : State) (d : Desc) (i : Nat), (ringServes s d = true) ∧ (keyScope d = true) ∧ (∀ x ∈ d.ecc, (s.candidates d.key).contains x = false) ∧ (s.findKey d.key = some i) ∧ (s.locked (s.entry i) = false ∨ (s.entry i).owner = (s.ring (4 * d.fn + d.ring)).tag) :=
  ⟨ringed, { fn := 0, ring := 1, epoch := 0, key := key0, buf := 0x1000 }, slot0, by decide +kernel⟩

theorem witness_TableChanges_7 : ∃ (s : State) (d : Desc) (i : Nat), (ringServes s d = true) ∧ (keyScope d = true) ∧ (d.ecc = [i]) ∧ (s.findKey d.key = some i) ∧ (∀ j ∈ s.candidates d.key, j ≠ i → (s.entry j).valid = true → (s.entry j).key ≠ d.key) :=
  ⟨ringed, { fn := 0, ring := 1, epoch := 0, key := key0, buf := 0x1000, ecc := [slot0] }, slot0, by decide +kernel⟩

theorem witness_TrieWritesWords_1 : ∃ (s : State) (d : Desc) (target first : Nat), (ringServes s d = true) ∧ (d.fn = 0) ∧ (d.a = target * 2 ^ 32 + first) ∧ (target ≤ 9) ∧ (1 ≤ d.b) ∧ (d.b ≤ 1024) ∧ (first + d.b ≤ trieSize target) ∧ (¬ (target = 9 ∧ first = 0)) :=
  ⟨ringed, { fn := 0, ring := 1, epoch := 0, key := key0, buf := 0x1000, a := 9 * 2 ^ 32 + 1, b := 2, data := [5, 6] }, 9, 1, by decide +kernel⟩

theorem witness_TrieWritesWords_1a : ∃ (s : State) (d : Desc) (target first : Nat), (ringServes s d = true) ∧ (d.fn = 0) ∧ (d.a = target * 2 ^ 32 + first) ∧ (target ≤ 9) ∧ (1 ≤ d.b) ∧ (d.b ≤ 1024) ∧ (first + d.b ≤ trieSize target) ∧ (¬ (target = 9 ∧ first = 0)) :=
  ⟨ringed, { fn := 0, ring := 1, epoch := 0, key := key0, buf := 0x1000, a := 65535, b := 1 }, 0, 65535, by decide +kernel⟩

theorem witness_LeasesOfRings_1 : ∃ (s : State) (g k : Nat), ((s.tag g).ring = some k) ∧ ((s.tag g).sweep = false) ∧ ((s.tagLocks g).isEmpty = false) :=
  ⟨{ ringed with flow := { ringed.flow with entries := [(slot0, { FEntry.empty with valid := true, key := key0, lock := true, owner := 2 })] } }, 2, 1, by decide +kernel⟩

theorem witness_LeasesOfRings_2 : ∃ (s : State) (g : Nat), ((s.tag g).sweep = true) :=
  ⟨ringed.setTag 3 { sweep := true }, 3, by decide +kernel⟩

theorem witness_LeasesOfRings_3 : ∃ (s : State) (fn ring producer : Nat), (hasRing fn ring = true) ∧ (s.linkOn = true) :=
  ⟨ringed, 0, 1, 5, by decide +kernel⟩

theorem witness_LeasesOfRings_4 : ∃ (s u : State) (fn ring producer : Nat) (fetched : List (Bytes × Bytes)), (exec (.flowRingDoorbell fn ring ⟨producer, []⟩) s = .next u) ∧ (hasRing fn ring = true) :=
  ⟨ringed, _, 0, 1, 5, [], rfl, by decide +kernel⟩

theorem witness_LeasesOfRings_6 : ∃ (s : State) (fn ring v g : Nat), (hasRing fn ring = true) ∧ (s.bar2On = true) ∧ (bit v 0 = true) ∧ ((s.ring (4 * fn + ring)).en = false) ∧ ((List.range 64).find? (fun x => (s.tag x).ring.isNone && !(s.tag x).sweep) = some g) :=
  ⟨ringed, 0, 0, 1, 0, by decide +kernel⟩

theorem witness_LeasesOfRings_7 : ∃ (s : State) (fn ring v : Nat), (hasRing fn ring = true) ∧ (s.bar2On = true) ∧ (bit v 0 = false) ∧ ((s.ring (4 * fn + ring)).en = true) ∧ ((s.tag (s.ring (4 * fn + ring)).tag).ring = some (4 * fn + ring)) :=
  ⟨ringed, 0, 1, 0, by decide +kernel⟩

theorem witness_LeasesOfRings_8 : ∃ (s : State) (fn ring : Nat), (hasRing fn ring = true) ∧ (s.bar2On = true) ∧ ((s.ring (4 * fn + ring)).en = true) ∧ ((s.tag (s.ring (4 * fn + ring)).tag).ring = some (4 * fn + ring)) ∧ ((s.tag (s.ring (4 * fn + ring)).tag).sweep = false) :=
  ⟨ringed, 0, 1, by decide +kernel⟩

theorem witness_LearningAndScrubbing_1 : ∃ (s : State) (p : Pend) (rest : List Pend) (i : Nat), (s.netOn = true) ∧ (s.plain = false) ∧ (s.flow.pend = p :: rest) ∧ (s.partCount p.key.part < s.obj (Obj.partFlowQuota p.key.part)) ∧ (s.findKey p.key = none) ∧ ((s.candidates p.key).find? (fun j => !(s.entry j).valid) = some i) :=
  ⟨{ opened with flow := { opened.flow with pend := [pend0] } }, pend0, [], slot0, by decide +kernel⟩

theorem witness_LearningAndScrubbing_2 : ∃ (s : State) (u : StatUpd) (rest : List StatUpd) (i : Nat), (s.flow.statq = u :: rest) ∧ (s.findKey u.key = some i) :=
  ⟨{ ringed with flow := { ringed.flow with statq := [⟨key0, 5, true, true⟩] } }, ⟨key0, 5, true, true⟩, [], slot0, by decide +kernel⟩

theorem witness_LearningAndScrubbing_3 : ∃ (s : State) (ws : List ShadowWord), (s.netOn = true) ∧ (s.obj Obj.shadowMode ≠ 0) ∧ (s.obj Obj.shadowLocation ≠ 0) ∧ (ws.all (fun w => (s.scrubPair w).1 == (s.scrubPair w).2) = true) :=
  ⟨withObjs owned [(Obj.shadowMode, 1), (Obj.shadowLocation, 1)], [⟨false, 5, 0, 0, []⟩], by decide +kernel⟩

theorem witness_LearningAndScrubbing_4 : ∃ (s : State) (ws : List ShadowWord), (s.netOn = true) ∧ (s.obj Obj.shadowMode ≠ 0) ∧ (s.obj Obj.shadowLocation = 0) ∧ (s.shadowOk = true) ∧ (s.innerShadow.all (fun w => (s.scrubPair w).1 == (s.scrubPair w).2) = true) :=
  ⟨withObjs owned [(Obj.shadowMode, 2)], [], by decide +kernel⟩

theorem witness_LearningAndScrubbing_5 : ∃ (s : State) (ws : List ShadowWord), (s.netOn = true) ∧ (s.obj Obj.shadowMode ≠ 0) ∧ (s.obj Obj.shadowLocation = 0) ∧ (s.shadowOk = false) :=
  ⟨withObjs owned [(Obj.shadowMode, 2), (Obj.shadowTrieBase, 0x7000000000)], [], by decide +kernel⟩

theorem witness_LearningAndScrubbing_6 : ∃ (s : State), (s.netOn = true) ∧ (s.obj Obj.shadowMode ≠ 0) :=
  ⟨withObjs owned [(Obj.shadowMode, 2)], by decide +kernel⟩

theorem witness_QueuesKeepWholePackets_1 : ∃ (s : State) (q : Nat) (w : Bytes) (poison : Bool), (s.netOn = true) ∧ (64 ≤ q) ∧ (q < 264) ∧ ((s.queue q).depth < s.qCap q) ∧ (isSpill q = true → (s.queue q).words.length < 16) ∧ ((s.queue q).skip = 0) ∧ (isResult q = true → s.objBit Obj.faultIslesFenced ((q - 128) / 16) = false) ∧ (isCollector q = true → 0 < (s.queue q).unc ∨ (s.queue q).depth + max 1 (byteAt w 1) ≤ s.qCap q) :=
  ⟨owned, 64, [1, 4], false, by decide +kernel⟩

theorem witness_QueuesKeepWholePackets_1a : ∃ (s : State) (q : Nat) (w : Bytes) (poison : Bool), (s.netOn = true) ∧ (64 ≤ q) ∧ (q < 264) ∧ ((s.queue q).depth < s.qCap q) ∧ (isSpill q = true → (s.queue q).words.length < 16) ∧ ((s.queue q).skip = 0) ∧ (isResult q = true → s.objBit Obj.faultIslesFenced ((q - 128) / 16) = false) ∧ (isCollector q = true → 0 < (s.queue q).unc ∨ (s.queue q).depth + max 1 (byteAt w 1) ≤ s.qCap q) :=
  ⟨owned, 191, [1], true, by decide +kernel⟩

theorem witness_QueuesKeepWholePackets_1b : ∃ (s : State) (q : Nat) (w : Bytes) (poison : Bool), (s.netOn = true) ∧ (64 ≤ q) ∧ (q < 264) ∧ ((s.queue q).depth < s.qCap q) ∧ (isSpill q = true → (s.queue q).words.length < 16) ∧ ((s.queue q).skip = 0) ∧ (isResult q = true → s.objBit Obj.faultIslesFenced ((q - 128) / 16) = false) ∧ (isCollector q = true → 0 < (s.queue q).unc ∨ (s.queue q).depth + max 1 (byteAt w 1) ≤ s.qCap q) :=
  ⟨owned, 192, [1, 32], false, by decide +kernel⟩

theorem witness_QueuesKeepWholePackets_1c : ∃ (s : State) (q : Nat) (w : Bytes) (poison : Bool), (s.netOn = true) ∧ (64 ≤ q) ∧ (q < 264) ∧ ((s.queue q).depth < s.qCap q) ∧ (isSpill q = true → (s.queue q).words.length < 16) ∧ ((s.queue q).skip = 0) ∧ (isResult q = true → s.objBit Obj.faultIslesFenced ((q - 128) / 16) = false) ∧ (isCollector q = true → 0 < (s.queue q).unc ∨ (s.queue q).depth + max 1 (byteAt w 1) ≤ s.qCap q) :=
  ⟨owned, 263, [1], false, by decide +kernel⟩

theorem witness_QueuesKeepWholePackets_2 : ∃ (s : State) (q : Nat), (0 < (s.queue q).unc) :=
  ⟨owned.setQueue 64 { words := [⟨[1], false⟩], unc := 1, wr := 1 }, 64, by decide +kernel⟩

theorem witness_QueuesKeepWholePackets_2a : ∃ (s : State) (q : Nat), (0 < (s.queue q).unc) :=
  ⟨owned.setQueue 64 { words := [⟨[1], false⟩], unc := 1, wr := 1 }, 64, by decide +kernel⟩

theorem witness_QueuesKeepWholePackets_3 : ∃ (s : State) (q : Nat), (0 < (s.queue q).unc) :=
  ⟨owned.setQueue 64 { words := [⟨[1], false⟩], unc := 1, wr := 1 }, 64, by decide +kernel⟩

theorem witness_QueuesKeepWholePackets_3a : ∃ (s : State) (q : Nat), (0 < (s.queue q).unc) :=
  ⟨owned.setQueue 64 { words := [⟨[1], false⟩], unc := 1, wr := 1 }, 64, by decide +kernel⟩

theorem witness_QueuesKeepWholePackets_4 : ∃ (s : State) (q k : Nat) (ks : List Nat), (s.netOn = true) ∧ (64 ≤ q) ∧ (q < 192) ∧ ((s.queue q).pkts = k :: ks) ∧ (isWork q = true → s.m.out2 = [] ∧ s.m.waiting = []) :=
  ⟨owned.setQueue 64 { words := [⟨zeros 64, true⟩], wr := 1, cm := 1, pkts := [1] }, 64, 1, [], by decide +kernel⟩

theorem witness_QueuesKeepWholePackets_4a : ∃ (s : State) (q k : Nat) (ks : List Nat), (s.netOn = true) ∧ (64 ≤ q) ∧ (q < 192) ∧ ((s.queue q).pkts = k :: ks) ∧ (isWork q = true → s.m.out2 = [] ∧ s.m.waiting = []) :=
  ⟨owned.setQueue 191 { words := [⟨[1], false⟩], wr := 1, cm := 1, pkts := [1] }, 191, 1, [], by decide +kernel⟩

theorem witness_QueuesKeepWholePackets_5 : ∃ (s : State) (q k : Nat) (ks : List Nat), (s.netOn = true) ∧ (192 ≤ q) ∧ (q < 256) ∧ ((s.queue q).pkts = k :: ks) ∧ (k ≤ (s.queue q).head.length) ∧ (∀ w ∈ (s.queue q).head.take k, w.poison = false) :=
  ⟨owned.setQueue 255 { head := [⟨zeros 64, false⟩], wr := 1, cm := 1, pkts := [1] }, 255, 1, [], by decide +kernel⟩

theorem witness_QueuesKeepWholePackets_6 : ∃ (s : State) (q : Nat) (err : Bursts), ((s.queue q).refill = true) ∧ ((s.queue q).words.length ≤ (s.queue q).unc) ∧ ((s.queue q).head.length ≤ 16) ∧ (err.failed = false) :=
  ⟨owned.setQueue 192 { mid := [⟨[1], false⟩], refill := true, stall := true }, 192, { fixed := 1 }, by decide +kernel⟩

theorem witness_QueuesKeepWholePackets_7 : ∃ (s : State) (i k n : Nat) (kk : Nat) (ks : List Nat), (i < 64) ∧ (s.pcie = true) ∧ (s.obj (Obj.partCollDest (i / 4) (i % 4)) / 2 ^ 13 = 1) ∧ ((s.cRing i).en = true) ∧ (n = 2 ^ (8 + (s.cRing i).size)) ∧ ((s.queue (192 + i)).pkts = kk :: ks) ∧ (k = ((s.queue (192 + i)).head.take kk).length) ∧ (kk ≤ (s.queue (192 + i)).head.length) ∧ (∀ w ∈ (s.queue (192 + i)).head.take kk, w.poison = false) ∧ (((s.cRing i).prod + 2 * n - (s.cRing i).cons) % (2 * n) + k ≤ n) :=
  ⟨(withObjs (owned.setQueue 255 { head := [⟨zeros 64, false⟩], wr := 1, cm := 1, pkts := [1] }) [(Obj.partCollDest 15 3, 0x2000)]).setCRing 63 { en := true }, 63, 1, 256, 1, [], by decide +kernel⟩

theorem witness_QueuesKeepWholePackets_8 : ∃ (s : State) (i port kk : Nat) (ks : List Nat), (i < 64) ∧ (s.netOn = true) ∧ (s.obj (Obj.partCollDest (i / 4) (i % 4)) / 2 ^ 13 = 2 ∧ port = s.obj (Obj.partCollDest (i / 4) (i % 4)) % 32 ∨ s.obj (Obj.partCollDest (i / 4) (i % 4)) / 2 ^ 13 = 3 ∧ port = s.obj (Obj.partCollDest (i / 4) (i % 4)) % 32 + 32) ∧ (s.admits port = .in_) ∧ (s.portState port ≠ 1) ∧ ((s.queue (192 + i)).pkts = kk :: ks) ∧ (kk ≤ (s.queue (192 + i)).head.length) ∧ (∀ w ∈ (s.queue (192 + i)).head.take kk, w.poison = false) :=
  ⟨withObjs (up.setQueue 192 { head := [⟨zeros 64, false⟩], wr := 1, cm := 1, pkts := [1] }) [(Obj.partCollDest 0 0, 0x4000)], 0, 0, 1, [], by decide +kernel⟩

theorem witness_QueuesKeepWholePackets_8a : ∃ (s : State) (i port kk : Nat) (ks : List Nat), (i < 64) ∧ (s.netOn = true) ∧ (s.obj (Obj.partCollDest (i / 4) (i % 4)) / 2 ^ 13 = 2 ∧ port = s.obj (Obj.partCollDest (i / 4) (i % 4)) % 32 ∨ s.obj (Obj.partCollDest (i / 4) (i % 4)) / 2 ^ 13 = 3 ∧ port = s.obj (Obj.partCollDest (i / 4) (i % 4)) % 32 + 32) ∧ (s.admits port = .in_) ∧ (s.portState port ≠ 1) ∧ ((s.queue (192 + i)).pkts = kk :: ks) ∧ (kk ≤ (s.queue (192 + i)).head.length) ∧ (∀ w ∈ (s.queue (192 + i)).head.take kk, w.poison = false) :=
  ⟨withObjs (up.setQueue 192 { head := [⟨zeros 64, false⟩], wr := 1, cm := 1, pkts := [1] }) [(Obj.partCollDest 0 0, 0x6000)], 0, 32, 1, [], by decide +kernel⟩

theorem witness_TierOneWalks_1 : ∃ (s : State) (i : Nat) (u : FetchUpd) (r0 : Rec), (s.t1.fetches.find? (fun f => f.1 == i) = some (i, [u])) ∧ (u.req = none) ∧ (s.stackUp (recStack i) = true) ∧ (s.recOf i = some r0) :=
  ⟨{ owned with t1 := { owned.t1 with recs := [(slot0, some rec0)], fetches := [(slot0, [⟨meta0, none⟩])] } }, slot0, ⟨meta0, none⟩, rec0, by decide +kernel⟩

theorem witness_TierOneWalks_2 : ∃ (s : State) (id tree : Nat) (q : T1Req) (x : TreePos), (s.t1.reqs.find? (fun r => r.id == id) = some q) ∧ (q.trees[tree]? = some x) ∧ (x.fetch = true) ∧ (∀ r ∈ s.t1.reqs, ∀ y ∈ r.trees, y.waits = false) ∧ ((s.treeNode q x.node).leaf = true) :=
  ⟨walking1, 7, 0, walk1, ⟨0, 0, none, true⟩, by decide +kernel⟩

theorem witness_TierOneWalks_3 : ∃ (s : State) (id tree : Nat) (q : T1Req) (x : TreePos), (s.t1.reqs.find? (fun r => r.id == id) = some q) ∧ (q.trees[tree]? = some x) ∧ (x.fetch = true) ∧ ((s.treeNode q x.node).leaf = false) :=
  ⟨walking0, 7, 0, walk1, ⟨0, 0, none, true⟩, by decide +kernel⟩

theorem witness_TierOneWalks_4 : ∃ (s : State) (id i word score : Nat) (q : T1Req), (s.plain = false) ∧ (s.t1.reqs.find? (fun r => r.id == id) = some q) ∧ (s.walkResult q = some (word, score)) ∧ (s.judge q.key 1 q.epoch = .written i) :=
  ⟨{ ringed with t1 := { ringed.t1 with reqs := [walkDone], ens := [ens0] } }, 7, slot0, 0, 0, walkDone, by decide +kernel⟩

theorem witness_SchedulerReadsWork_1 : ∃ (s : State) (n p k : Nat) (ks : List Nat) (err : Bursts), (n < 4) ∧ (s.netOn = true) ∧ (s.isleOn n = true) ∧ (bit s.obs.halted n = false) ∧ (s.res.entering.contains (true, n) = false) ∧ (s.nextWork n = some p) ∧ ((s.queue (64 + 16 * n + p)).pkts = k :: ks) ∧ (∀ w ∈ (s.queue (64 + 16 * n + p)).words.take k, w.poison = false) ∧ (s.m.out2 = []) ∧ (s.m.waiting = []) ∧ (err.failed = false) :=
  ⟨owned.setQueue (64 + 16 * 3 + 15) { words := [⟨zeros 64, false⟩], wr := 1, cm := 1, pkts := [1] }, 3, 15, 1, [], {}, by decide +kernel⟩

theorem witness_SchedulerReadsWork_2 : ∃ (s : State) (n p k : Nat) (ks : List Nat) (w : Bytes), (n < 4) ∧ (s.netOn = true) ∧ (s.isleOn n = true) ∧ (bit s.obs.halted n = false) ∧ (s.res.entering.contains (true, n) = false) ∧ (s.nextWork n = some p) ∧ ((s.queue (64 + 16 * n + p)).pkts = k :: ks) ∧ (∀ w ∈ (s.queue (64 + 16 * n + p)).words.take k, w.poison = false) ∧ (s.m.out2 = []) ∧ (s.m.waiting = []) ∧ (w = (((s.queue (64 + 16 * n + p)).words.take k).map (·.bytes)).flatten) ∧ (s.slotUsed p (byteAt w 2) = false) ∧ (s.slotState p (byteAt w 2) ≠ 6) ∧ (byteAt w 1 < 16) ∧ ((s.queue (128 + 16 * n + byteAt w 1)).unc = 0) ∧ ((s.queue (128 + 16 * n + byteAt w 1)).skip = 0) ∧ ((s.queue (128 + 16 * n + byteAt w 1)).depth < 512) :=
  ⟨owned.setQueue (64 + 16 * 3 + 15) { words := [⟨zeros 64, false⟩], wr := 1, cm := 1, pkts := [1] }, 3, 15, 1, [], zeros 64, by decide +kernel⟩

theorem witness_SchedulerReadsWork_3 : ∃ (s : State) (n p k : Nat) (ks : List Nat) (w : Bytes), (n < 4) ∧ (s.netOn = true) ∧ (s.isleOn n = true) ∧ (bit s.obs.halted n = false) ∧ (s.res.entering.contains (true, n) = false) ∧ (s.nextWork n = some p) ∧ ((s.queue (64 + 16 * n + p)).pkts = k :: ks) ∧ (∀ w ∈ (s.queue (64 + 16 * n + p)).words.take k, w.poison = false) ∧ (s.m.out2 = []) ∧ (s.m.waiting = []) ∧ ((s.sched n).poison = []) ∧ (w = (((s.queue (64 + 16 * n + p)).words.take k).map (·.bytes)).flatten) ∧ (s.slotUsed p (byteAt w 2) = true) :=
  ⟨withObjs ((owned.setSlot 15 0 { armed := true }).setQueue (64 + 16 * 3 + 15) { words := [⟨zeros 64, false⟩], wr := 1, cm := 1, pkts := [1] }) [(Obj.partSlotState 15 0, 4)], 3, 15, 1, [], zeros 64, by decide +kernel⟩

theorem witness_ScalarSlot_1 : ∃ (s : State) (c : Nat) (w : W32) (xd xa xb xc : Nat), (canIssue s c w.toNat = true) ∧ (bits w.toNat 30 28 = 0) ∧ (xd < 32) ∧ (xa < 32) ∧ (xb < 32) ∧ (xc < 32) ∧ ((s.core c).xOk [xa, xb, xc] = true) :=
  ⟨running, 0, 0x80000000, 0, 31, 1, 2, by decide +kernel⟩

theorem witness_ScalarSlot_1a : ∃ (s : State) (c : Nat) (w : W32) (xd xa xb xc : Nat), (canIssue s c w.toNat = true) ∧ (bits w.toNat 30 28 = 0) ∧ (xd < 32) ∧ (xa < 32) ∧ (xb < 32) ∧ (xc < 32) ∧ ((s.core c).xOk [xa, xb, xc] = true) :=
  ⟨running, 0, 0x80000000, 31, 0, 0, 0, by decide +kernel⟩

theorem witness_ScalarSlot_2 : ∃ (s : State) (c : Nat) (w : W32) (xa xb target : Nat), (canIssue s c w.toNat = true) ∧ (isClass1 w.toNat = true) ∧ (xa < 32) ∧ (xb < 32) ∧ ((s.core c).xOk [xa, xb] = true) :=
  ⟨running, 0, 0x90000000, 1, 2, 64, by decide +kernel⟩

theorem witness_ScalarSlot_3 : ∃ (s : State) (c : Nat) (w : W32) (layer oper : Nat), (canIssue s c w.toNat = true) ∧ (isClass1 w.toNat = true) :=
  ⟨running, 0, 0x90000000, 1, 2, by decide +kernel⟩

theorem witness_ScalarSlot_4 : ∃ (s : State) (c : Nat) (w : W32), (canIssue s c w.toNat = true) ∧ (isClass1 w.toNat = true) :=
  ⟨running, 0, 0x90000000, by decide +kernel⟩

theorem witness_ScalarSlot_5 : ∃ (s : State) (c : Nat) (w : W32) (x off : Nat) (bad : Bool), (canIssue s c w.toNat = true) ∧ (isClass1 w.toNat = true) ∧ (x < 32) ∧ (off + 8 ≤ 0x3F0000) ∧ ((s.core c).xOk [x] = true) :=
  ⟨running, 0, 0x90000000, 1, 0, false, by decide +kernel⟩

theorem witness_ScalarSlot_5a : ∃ (s : State) (c : Nat) (w : W32) (x off : Nat) (bad : Bool), (canIssue s c w.toNat = true) ∧ (isClass1 w.toNat = true) ∧ (x < 32) ∧ (off + 8 ≤ 0x3F0000) ∧ ((s.core c).xOk [x] = true) :=
  ⟨running, 0, 0x90000000, 31, 0x3EFFF8, true, by decide +kernel⟩

theorem witness_ScalarSlot_6 : ∃ (s : State) (c : Nat) (w : W32) (x off : Nat) (bad : Bool), (canIssue s c w.toNat = true) ∧ (isClass1 w.toNat = true) ∧ (x < 32) ∧ (off + 8 ≤ 0x3F0000) :=
  ⟨running, 0, 0x90000000, 1, 0, false, by decide +kernel⟩

theorem witness_ScalarSlot_6a : ∃ (s : State) (c : Nat) (w : W32) (x off : Nat) (bad : Bool), (canIssue s c w.toNat = true) ∧ (isClass1 w.toNat = true) ∧ (x < 32) ∧ (off + 8 ≤ 0x3F0000) :=
  ⟨running, 0, 0x90000000, 31, 0x3EFFF8, true, by decide +kernel⟩

theorem witness_MovesAndBarriers_1 : ∃ (s : State) (c : Nat) (w : W32) (toPeer bad : Bool) (peer : XPeer) (off po len : Nat), (canIssue s c w.toNat = true) ∧ (isClass1 w.toNat = true) ∧ (off + len ≤ 0x3F0000) ∧ ((xmovPeer c peer po len).2 = true) :=
  ⟨running, 0, 0x90000000, true, false, .sram, 0, 0xFFFFF0, 16, by decide +kernel⟩

theorem witness_MovesAndBarriers_1a : ∃ (s : State) (c : Nat) (w : W32) (toPeer bad : Bool) (peer : XPeer) (off po len : Nat), (canIssue s c w.toNat = true) ∧ (isClass1 w.toNat = true) ∧ (off + len ≤ 0x3F0000) ∧ ((xmovPeer c peer po len).2 = true) :=
  ⟨running, 0, 0x90000000, false, true, .core 31, 0x3EFFF0, 0, 16, by decide +kernel⟩

theorem witness_MovesAndBarriers_2 : ∃ (s : State) (c : Nat) (w : W32) (b m i : Nat), (canIssue s c w.toNat = true) ∧ (isClass1 w.toNat = true) ∧ (i < 32) ∧ (bit m i = true) ∧ (i ≠ c % 32) ∧ ((s.core (c / 32 * 32 + i)).barrier.all (fun e => e.1 != b) = true) ∧ (∀ j, j < 32 → (s.core (c / 32 * 32 + j)).preempt = false) :=
  ⟨running, 0, 0x90000000, 5, 3, 1, by decide +kernel⟩

theorem witness_MovesAndBarriers_3 : ∃ (s : State) (c : Nat) (w : W32) (b m : Nat), (canIssue s c w.toNat = true) ∧ (isClass1 w.toNat = true) ∧ (bitsOf 32 (m % 2 ^ 32) = [c % 32]) ∧ (∀ j, j < 32 → (s.core (c / 32 * 32 + j)).preempt = false) :=
  ⟨running, 0, 0x90000000, 5, 1, by decide +kernel⟩

theorem witness_MovesAndBarriers_4 : ∃ (s : State) (c : Nat) (w : W32), (canIssue s c w.toNat = true) ∧ (isClass1 w.toNat = true) ∧ ((s.core c).xOk [3] = true) ∧ ((s.core c).port = []) ∧ ((s.sched (c / 32)).waiting.find? (fun e => e.1 == c) = none) :=
  ⟨running, 0, 0x90000000, by decide +kernel⟩

theorem witness_MovesAndBarriers_5 : ∃ (s : State) (c : Nat) (w : W32) (m : CoreCmd) (rest : List CoreCmd), (canIssue s c w.toNat = true) ∧ (isClass1 w.toNat = true) ∧ ((s.core c).xOk [3] = true) ∧ ((s.core c).port = m :: rest) ∧ ((s.sched (c / 32)).poison.contains m.tag = false) :=
  ⟨running.setCore 0 { running.core 0 with port := [⟨1, 2, 3, 4, 5⟩] }, 0, 0x90000000, ⟨1, 2, 3, 4, 5⟩, [], by decide +kernel⟩

theorem witness_VectorSlot_1 : ∃ (s : State) (c : Nat) (w : W32) (vd va vb vc : Nat), (canIssue s c w.toNat = true) ∧ (isClass2 w.toNat = true) ∧ (vd < 32) ∧ (va < 32) ∧ (vb < 32) ∧ (vc < 32) ∧ ([va, vb, vc].all (fun i => !bit (s.core c).vbad i) = true) :=
  ⟨running, 0, 0xA0000000, 31, 0, 1, 2, by decide +kernel⟩

theorem witness_VectorSlot_2 : ∃ (s : State) (c : Nat) (w : W32) (v off : Nat) (bad : Bool), (canIssue s c w.toNat = true) ∧ (isClass2 w.toNat = true) ∧ (v < 32) ∧ (off + 64 ≤ 0x3F0000) :=
  ⟨running, 0, 0xA0000000, 31, 0x3EFFC0, true, by decide +kernel⟩

theorem witness_VectorSlot_2a : ∃ (s : State) (c : Nat) (w : W32) (v off : Nat) (bad : Bool), (canIssue s c w.toNat = true) ∧ (isClass2 w.toNat = true) ∧ (v < 32) ∧ (off + 64 ≤ 0x3F0000) :=
  ⟨running, 0, 0xA0000000, 0, 0, false, by decide +kernel⟩

theorem witness_VectorSlot_3 : ∃ (s : State) (c : Nat) (w : W32) (v off : Nat), (canIssue s c w.toNat = true) ∧ (isClass2 w.toNat = true) ∧ (v < 32) ∧ (off + 64 ≤ 0x3F0000) ∧ (bit (s.core c).vbad v = false) :=
  ⟨running, 0, 0xA0000000, 31, 0x3EFFC0, by decide +kernel⟩

theorem witness_VectorSlot_4 : ∃ (s : State) (c : Nat) (w : W32) (v tile row : Nat), (canIssue s c w.toNat = true) ∧ (isClass2 w.toNat = true) ∧ (v < 32) ∧ (tile < 8) ∧ ((s.core c).dstBusy tile row 1 = false) ∧ ((s.core c).filled tile row 1 = true) ∧ ((s.core c).clean tile row 1 = true) :=
  ⟨tiled, 0, 0xA0000000, 3, 0, 0, by decide +kernel⟩

theorem witness_VectorSlot_5 : ∃ (s : State) (c : Nat) (w : W32) (tile row v : Nat), (canIssue s c w.toNat = true) ∧ (isClass2 w.toNat = true) ∧ (v < 32) ∧ (tile < 8) ∧ ((s.core c).writeWait tile row 1 = false) ∧ ((s.core c).writable tile row 1 = true) ∧ (bit (s.core c).vbad v = false) :=
  ⟨tiled, 0, 0xA0000000, 0, 64, 3, by decide +kernel⟩

theorem witness_VectorSlot_6 : ∃ (s : State) (c : Nat) (w : W32) (ts sr td dr width xb : Nat), (canIssue s c w.toNat = true) ∧ (isClass2 w.toNat = true) ∧ (ts < 8) ∧ (td < 8) ∧ (xb < 32) ∧ ((s.core c).xOk [xb] = true) ∧ (width = 64 ∨ width = 256) ∧ ((s.core c).dstBusy ts sr 1 = false) ∧ ((s.core c).writeWait td dr (width / 16) = false) ∧ ((s.core c).role ts = 5) ∧ ((s.core c).role td = 3) ∧ ((s.core c).filled ts sr 1 = true) ∧ ((s.core c).filled td dr (width / 16) = true) ∧ ((s.core c).clean ts sr 1 = true) ∧ ((s.core c).clean td dr (width / 16) = true) ∧ ((s.core c).row ts sr % 256 = 0) ∧ (bfFinite ((s.core c).row ts sr / 2 ^ 16 % 2 ^ 16) = true) :=
  ⟨tiled, 0, 0xA0000000, 3, 0, 2, 0, 64, 0, by decide +kernel⟩

theorem witness_TilesAreConfiguredAndReleased_1 : ∃ (s : State) (c : Nat) (w : W32), (canIssue s c w.toNat = true) ∧ (isWord w.toNat 1 0x20 = true) ∧ (bits w.toNat 11 0 = 0) ∧ ((s.core c).xOk [bits w.toNat 21 17, bits w.toNat 16 12] = true) ∧ ((s.core c).inFlight = false) ∧ (tcfgCheck (tcfgWords ((s.core c).xr (bits w.toNat 21 17)) ((s.core c).xr (bits w.toNat 16 12))) = none) :=
  ⟨running, 0, 0x98000000, by decide +kernel⟩

theorem witness_TilesAreConfiguredAndReleased_2 : ∃ (s : State) (c : Nat) (w : W32), (canIssue s c w.toNat = true) ∧ (isWord w.toNat 1 0x21 = true) ∧ (bits w.toNat 13 0 = 0) ∧ ((s.core c).passes = []) ∧ ((s.core c).wld.all (fun e => !bit (bits w.toNat 21 14) (bits e.1 17 15)) = true) :=
  ⟨tiled, 0, 0x98404000, by decide +kernel⟩

theorem witness_TilesAreConfiguredAndReleased_3 : ∃ (s : State) (c : Nat) (w : W32) (first count off : Nat), (canIssue s c w.toNat = true) ∧ (isWord w.toNat 1 0x22 = true) ∧ (bit w.toNat 0 = false) ∧ ((s.core c).xOk [bits w.toNat 13 9] = true) ∧ (first = bits w.toNat 21 14) ∧ (count = bits w.toNat 8 1 + 1) ∧ (off = (s.core c).xr (bits w.toNat 13 9) % 2 ^ 22) ∧ (off + 2 * count ≤ 0x3F0000) ∧ (first + count ≤ 256) :=
  ⟨running, 0, 0x98800000, 0, 1, 0, by decide +kernel⟩

theorem witness_TilesAreConfiguredAndReleased_3a : ∃ (s : State) (c : Nat) (w : W32) (first count off : Nat), (canIssue s c w.toNat = true) ∧ (isWord w.toNat 1 0x22 = true) ∧ (bit w.toNat 0 = false) ∧ ((s.core c).xOk [bits w.toNat 13 9] = true) ∧ (first = bits w.toNat 21 14) ∧ (count = bits w.toNat 8 1 + 1) ∧ (off = (s.core c).xr (bits w.toNat 13 9) % 2 ^ 22) ∧ (off + 2 * count ≤ 0x3F0000) ∧ (first + count ≤ 256) :=
  ⟨running, 0, 0x98BFC000, 255, 1, 0, by decide +kernel⟩

theorem witness_TileLoadsAndStores_1 : ∃ (s : State) (c : Nat) (w : W32) (m : TileMove), (canIssue s c w.toNat = true) ∧ (isWord w.toNat 3 0 = true) ∧ (bit w.toNat 0 = false) ∧ (bit w.toNat 4 = false) ∧ (m = tileMove w.toNat ((s.core c).xr (bits w.toNat 18 14))) ∧ ((s.core c).xOk [bits w.toNat 18 14] = true) ∧ ((s.core c).passes = []) ∧ ((s.core c).wld = none) ∧ ((s.core c).writable m.t m.first m.count = true) ∧ (m.off % 64 = 0) ∧ (bits w.toNat 6 5 = 0) ∧ (m.off + 64 * m.count ≤ 0x3F0000) :=
  ⟨tiled, 0, 0xB0000000, tileMove 0xB0000000 0, by decide +kernel⟩

theorem witness_TileLoadsAndStores_2 : ∃ (s : State) (c : Nat) (w : W32) (m : TileMove), (canIssue s c w.toNat = true) ∧ (isWord w.toNat 3 0 = true) ∧ (bit w.toNat 0 = false) ∧ (bit w.toNat 4 = false) ∧ (m = tileMove w.toNat ((s.core c).xr (bits w.toNat 18 14))) ∧ ((s.core c).xOk [bits w.toNat 18 14] = true) ∧ ((s.core c).passes = []) ∧ ((s.core c).wld = none) ∧ ((s.core c).writable m.t m.first m.count = true) ∧ (m.off % 64 = 0) ∧ (bits w.toNat 6 5 = 1) ∧ (m.off + 32 * m.count ≤ 0x3F0000) ∧ ((s.core c).role m.t = 2) ∧ ((s.core c).ty m.t = 2) :=
  ⟨tiled, 0, 0xB0080020, tileMove 0xB0080020 0, by decide +kernel⟩

theorem witness_TileLoadsAndStores_3 : ∃ (s : State) (c : Nat) (w : W32) (m : TileMove), (canIssue s c w.toNat = true) ∧ (isWord w.toNat 3 0 = true) ∧ (bit w.toNat 0 = false) ∧ (bit w.toNat 4 = false) ∧ (m = tileMove w.toNat ((s.core c).xr (bits w.toNat 18 14))) ∧ ((s.core c).xOk [bits w.toNat 18 14] = true) ∧ ((s.core c).passes = []) ∧ ((s.core c).wld = none) ∧ ((s.core c).writable m.t m.first m.count = true) ∧ (m.off % 64 = 0) ∧ (bits w.toNat 6 5 = 3) ∧ (m.off + 32 * m.count ≤ 0x3F0000) ∧ ((s.core c).role m.t = 1 ∨ (s.core c).role m.t = 2) ∧ ((s.core c).ty m.t = 2) :=
  ⟨tiled, 0, 0xB0000060, tileMove 0xB0000060 0, by decide +kernel⟩

theorem witness_TileLoadsAndStores_3a : ∃ (s : State) (c : Nat) (w : W32) (m : TileMove), (canIssue s c w.toNat = true) ∧ (isWord w.toNat 3 0 = true) ∧ (bit w.toNat 0 = false) ∧ (bit w.toNat 4 = false) ∧ (m = tileMove w.toNat ((s.core c).xr (bits w.toNat 18 14))) ∧ ((s.core c).xOk [bits w.toNat 18 14] = true) ∧ ((s.core c).passes = []) ∧ ((s.core c).wld = none) ∧ ((s.core c).writable m.t m.first m.count = true) ∧ (m.off % 64 = 0) ∧ (bits w.toNat 6 5 = 3) ∧ (m.off + 32 * m.count ≤ 0x3F0000) ∧ ((s.core c).role m.t = 1 ∨ (s.core c).role m.t = 2) ∧ ((s.core c).ty m.t = 2) :=
  ⟨tiled, 0, 0xB0080060, tileMove 0xB0080060 0, by decide +kernel⟩

theorem witness_TileLoadsAndStores_4 : ∃ (s : State) (c : Nat) (w : W32) (m : TileMove) (cl : Nat), (canIssue s c w.toNat = true) ∧ (isWord w.toNat 3 0 = true) ∧ (bit w.toNat 0 = false) ∧ (bit w.toNat 4 = false) ∧ (m = tileMove w.toNat ((s.core c).xr (bits w.toNat 18 14))) ∧ ((s.core c).xOk [bits w.toNat 18 14] = true) ∧ ((s.core c).passes = []) ∧ ((s.core c).wld = none) ∧ ((s.core c).writable m.t m.first m.count = true) ∧ (m.off % 64 = 0) ∧ (bits w.toNat 6 5 = 2) ∧ (m.off + 128 * m.count ≤ 0x3F0000) ∧ (bits w.toNat 18 14 ≠ 31) ∧ (cl = (s.core c).xr (bits w.toNat 18 14 + 1)) ∧ (bit (s.core c).xbad (bits w.toNat 18 14 + 1) = false) ∧ ((s.core c).role m.t = 1) ∧ ((s.core c).ty m.t = 0 ∨ (s.core c).ty m.t = 2) ∧ (bfFinite (bits cl 31 16) = true) ∧ (bfFinite (bits cl 15 0) = true) ∧ ((List.range (64 * m.count)).all (fun i => bfFinite (s.memLE (coreStore c + m.off + 2 * i) 2)) = true) :=
  ⟨tiled, 0, 0xB0000040, tileMove 0xB0000040 0, 0, by decide +kernel⟩

theorem witness_TileLoadsAndStores_5 : ∃ (s : State) (c : Nat) (w : W32) (m : TileMove), (canIssue s c w.toNat = true) ∧ (isWord w.toNat 3 1 = true) ∧ (bits w.toNat 6 4 = 0) ∧ (bits w.toNat 3 0 = 0) ∧ (m = tileMove w.toNat ((s.core c).xr (bits w.toNat 18 14))) ∧ ((s.core c).xOk [bits w.toNat 18 14] = true) ∧ ((s.core c).dstBusy m.t m.first m.count = false) ∧ ((s.core c).filled m.t m.first m.count = true) ∧ ((s.core c).clean m.t m.first m.count = true) ∧ (m.off % 64 = 0) ∧ (m.off + 64 * m.count ≤ 0x3F0000) :=
  ⟨tiled, 0, 0xB0400000, tileMove 0xB0400000 0, by decide +kernel⟩

theorem witness_ArraysAreLoaded_1 : ∃ (s : State) (c : Nat) (w : W32), (canIssue s c w.toNat = true) ∧ (isWord w.toNat 4 0 = true) ∧ (bits w.toNat 18 0 = 0) ∧ (bits w.toNat 21 19 ≤ 3) ∧ ((s.core c).inFlight = false) ∧ (modeOk (bits w.toNat 21 19) (s.arrEn c) = true) :=
  ⟨running, 0, 0xC0000000, by decide +kernel⟩

theorem witness_ArraysAreLoaded_1a : ∃ (s : State) (c : Nat) (w : W32), (canIssue s c w.toNat = true) ∧ (isWord w.toNat 4 0 = true) ∧ (bits w.toNat 18 0 = 0) ∧ (bits w.toNat 21 19 ≤ 3) ∧ ((s.core c).inFlight = false) ∧ (modeOk (bits w.toNat 21 19) (s.arrEn c) = true) :=
  ⟨running, 0, 0xC0180000, by decide +kernel⟩

theorem witness_ArraysAreLoaded_2 : ∃ (s : State) (c : Nat) (w : W32) (mask ts first : Nat), (canIssue s c w.toNat = true) ∧ (isWord w.toNat 4 1 = true) ∧ (bits w.toNat 7 0 = 0) ∧ (mask = bits w.toNat 21 18) ∧ (ts = bits w.toNat 17 15) ∧ (first = bits w.toNat 14 8) ∧ ((s.core c).passes = []) ∧ ((s.core c).wld = none) ∧ (wldOk (s.core c).mode (s.arrEn c) mask = true) ∧ ((s.core c).role ts = 2) ∧ ((s.core c).ty ts = 2) ∧ (first + 64 ≤ (s.core c).tileRows ts) ∧ ((s.core c).filled ts first 64 = true) ∧ ((s.core c).clean ts first 64 = true) :=
  ⟨tiled, 0, 0xC0448000, 1, 1, 0, by decide +kernel⟩

theorem witness_ArraysAreLoaded_3 : ∃ (s : State) (c w0 pc : Nat) (rows : List Nat), ((s.core c).wld = some (w0, pc, rows)) ∧ (bit s.obs.halted (c / 32) = false) :=
  ⟨tiled.setCore 0 { tiled.core 0 with wld := some (0xC0448000, 0, List.replicate 64 1) }, 0, 0xC0448000, 0, List.replicate 64 1, by decide +kernel⟩

theorem witness_ArraysStream_1 : ∃ (s : State) (c : Nat) (w : W32) (p : Pass), (canIssue s c w.toNat = true) ∧ (isWord w.toNat 4 2 = true) ∧ (bits w.toNat 2 0 = 0) ∧ (p = ⟨w.toNat, (s.core c).pc, (s.core c).xr (bits w.toNat 7 3), 0, false⟩) ∧ ((s.core c).xOk [bits w.toNat 7 3] = true) ∧ ((s.core c).passes = []) ∧ ((s.core c).wld = none) ∧ (groupOk (s.core c).mode (s.arrEn c) p.mask = true) ∧ (p.mask ≠ 0) ∧ ((s.core c).role p.ts = 1) ∧ ((s.core c).role p.td = 3) ∧ ((s.core c).ty p.ts = 1 → (s.core c).role p.side = 5 ∧ (s.core c).filled p.side p.first p.count = true ∧ p.first + p.count ≤ (s.core c).tileRows p.side) ∧ (p.first + p.count ≤ (s.core c).tileRows p.ts) ∧ (p.dst + (s.core c).perRow p * p.count ≤ (s.core c).tileRows p.td) ∧ ((s.core c).filled p.ts p.first p.count = true) ∧ ((s.core c).clean p.ts p.first p.count = true) ∧ ((if p.acc then (s.core c).filled p.td p.dst ((s.core c).perRow p * p.count) && (s.core c).clean p.td p.dst ((s.core c).perRow p * p.count) else decide (p.dst ≤ (s.core c).fillOf p.td)) = true) ∧ ((s.core c).loaded &&& p.mask = p.mask) :=
  ⟨loaded, 0, 0xC0900200, ⟨0xC0900200, 0, 0, 0, false⟩, by decide +kernel⟩

theorem witness_ArraysStream_2 : ∃ (s : State) (c : Nat) (w : W32) (p : Pass), (canIssue s c w.toNat = true) ∧ (isWord w.toNat 4 3 = true) ∧ (bits w.toNat 2 0 = 0) ∧ (p = ⟨w.toNat, (s.core c).pc, (s.core c).xr (bits w.toNat 7 3), 0, false⟩) ∧ ((s.core c).xOk [bits w.toNat 7 3] = true) ∧ ((s.core c).passes = []) ∧ ((s.core c).wld = none) ∧ (groupOk (s.core c).mode (s.arrEn c) p.mask = true) ∧ ((s.core c).mode ≠ 2) ∧ ((s.core c).role p.ts = 1) ∧ ((s.core c).role p.td = 3) ∧ ((s.core c).ty p.ts = 1 → (s.core c).role p.side = 5 ∧ (s.core c).filled p.side p.first p.count = true ∧ p.first + p.count ≤ (s.core c).tileRows p.side) ∧ (p.first + p.count ≤ (s.core c).tileRows p.ts) ∧ (p.dst + (s.core c).perRow p * p.count ≤ (s.core c).tileRows p.td) ∧ ((s.core c).filled p.ts p.first p.count = true) ∧ ((s.core c).clean p.ts p.first p.count = true) ∧ ((if p.acc then (s.core c).filled p.td p.dst ((s.core c).perRow p * p.count) && (s.core c).clean p.td p.dst ((s.core c).perRow p * p.count) else decide (p.dst ≤ (s.core c).fillOf p.td)) = true) ∧ ((s.core c).loaded &&& p.mask = p.mask) :=
  ⟨loaded, 0, 0xC0D00200, ⟨0xC0D00200, 0, 0, 0, false⟩, by decide +kernel⟩

theorem witness_ArraysStream_3 : ∃ (s : State) (c : Nat) (w : W32) (p : Pass), (canIssue s c w.toNat = true) ∧ (isWord w.toNat 4 4 = true) ∧ (bits w.toNat 6 0 = 0) ∧ (p = ⟨w.toNat, (s.core c).pc, (s.core c).xr (bits w.toNat 11 7), 0, false⟩) ∧ ((s.core c).xOk [bits w.toNat 11 7] = true) ∧ ((s.core c).passes = []) ∧ ((s.core c).wld = none) ∧ (groupOk (s.core c).mode (s.arrEn c) p.mask = true) ∧ ((s.core c).mode ≠ 2) ∧ ((s.core c).role p.ts = 1 ∨ (s.core c).role p.ts = 4 ∧ (s.core c).ty p.ts = 4) ∧ ((s.core c).role p.td = 3) ∧ (p.first + p.count ≤ (s.core c).tileRows p.ts) ∧ (p.dst + (s.core c).perRow p * p.count ≤ (s.core c).tileRows p.td) ∧ ((s.core c).filled p.ts p.first p.count = true) ∧ ((s.core c).clean p.ts p.first p.count = true) ∧ ((if p.acc then (s.core c).filled p.td p.dst ((s.core c).perRow p * p.count) && (s.core c).clean p.td p.dst ((s.core c).perRow p * p.count) else decide (p.dst ≤ (s.core c).fillOf p.td)) = true) ∧ ((s.core c).loaded &&& p.mask = p.mask) :=
  ⟨loaded, 0, 0xC1101000, ⟨0xC1101000, 0, 0, 0, false⟩, by decide +kernel⟩

theorem witness_ArraysStream_4 : ∃ (s : State) (c mask : Nat) (p : Pass), ((s.core c).passes = [p]) ∧ (p.mask = mask) ∧ (p.stop = false) ∧ ((s.core c).run = 1) ∧ ((s.core c).preempt = false) ∧ (bit s.obs.halted (c / 32) = false) ∧ (wOp p.w = 4 ∨ ∀ n, 16 * p.chunks ≤ n → n < min p.count (16 * p.chunks + 16) → ∀ x ∈ takers ((s.core c).mode == 2) (bitsOf 4 mask) n, rowOk (s.rowOut c p (s.core c) [] n x) = true) :=
  ⟨loaded.setCore 0 { loaded.core 0 with passes := [⟨0xC1101000, 0, 0, 0, false⟩] }, 0, 1, ⟨0xC1101000, 0, 0, 0, false⟩, by decide +kernel, by decide +kernel, by decide +kernel, by decide +kernel, by decide +kernel, by decide +kernel, Or.inl (by decide +kernel)⟩

theorem witness_ArraysStream_5 : ∃ (s : State) (c mask x : Nat) (p : Pass) (xs : List Nat), ((s.core c).passes = [p]) ∧ (p.mask = mask) ∧ (p.stop = false) ∧ ((s.core c).run = 1) ∧ (bit s.obs.halted (c / 32) = false) ∧ (wOp p.w ≠ 4) ∧ (16 * p.chunks < p.count) ∧ (takers ((s.core c).mode == 2) (bitsOf 4 mask) (16 * p.chunks) = x :: xs) ∧ (rowOk (s.rowOut c p (s.core c) [] (16 * p.chunks) x) = false) :=
  ⟨((loaded.setMarr 0 { mkArr (List.replicate 64 1) with col := List.replicate 64 2 }).setCore 0 { loaded.core 0 with rows := [((loaded.core 0).base 0, 1)], passes := [⟨0xC0900200, 0, 0, 0, false⟩] }), 0, 1, 0, ⟨0xC0900200, 0, 0, 0, false⟩, [], by decide +kernel⟩

theorem witness_ArraysStream_6 : ∃ (s : State) (c x : Nat) (p : Pass), ((s.core c).passes = [p]) ∧ (p.stop = false) ∧ ((s.core c).run = 1) ∧ ((s.core c).preempt = false) ∧ (bit s.obs.halted (c / 32) = false) ∧ ((s.core c).mode = 0) ∧ (bitsOf 4 p.mask = [x]) ∧ (wOp p.w = 2) ∧ (p.acc = false) ∧ (p.count = 1) ∧ (p.chunks = 0) ∧ (rowOk (s.rowOut c p (s.core c) [] 0 x) = true) :=
  ⟨(loaded.setMarr 0 (mkArr (List.replicate 64 1))).setCore 0 { loaded.core 0 with passes := [⟨0xC0900200, 0, 0, 0, false⟩] }, 0, 0, ⟨0xC0900200, 0, 0, 0, false⟩, by decide +kernel⟩

theorem witness_RequantisingAndStatistics_1 : ∃ (s : State) (c : Nat) (w : W32) (td ts a q first g dst cs : Nat), (canIssue s c w.toNat = true) ∧ (isWord w.toNat 5 0 = true) ∧ (bits w.toNat 1 0 = 0) ∧ ((s.core c).xOk [bits w.toNat 12 8, bits w.toNat 7 3] = true) ∧ (td = bits w.toNat 21 19) ∧ (ts = bits w.toNat 18 16) ∧ (a = (s.core c).xr (bits w.toNat 12 8)) ∧ (q = (s.core c).xr (bits w.toNat 7 3)) ∧ (first = bits a 6 0) ∧ (bits a 14 8 + 1 = 4 * g) ∧ (dst = bits a 22 16) ∧ (cs = bits a 31 24) ∧ (bit a 35 = false) ∧ ((s.core c).passes = []) ∧ ((s.core c).wld = none) ∧ ((s.core c).role ts = 3) ∧ ((s.core c).role td = 4) ∧ ((s.core c).ty td = 5) ∧ (first + 4 * g ≤ (s.core c).tileRows ts) ∧ ((s.core c).writable td dst (4 * g) = true) ∧ ((s.core c).filled ts first (4 * g) = true) ∧ (cs + 64 * g ≤ 256) ∧ ((s.core c).clean ts first (4 * g) = true) ∧ ((List.range (64 * g)).all (fun j => bfFinite ((s.core c).csr (cs + j))) = true) ∧ ((List.range g).all (fun i => bfFinite (tagScale ((s.core c).tag ts (first + 4 * i)))) = true) ∧ ((List.range (64 * g)).all (fun j => fFinite (rqValue (toSigned 32 (elem32 ((s.core c).row ts (first + j / 16)) (j % 16))) none ((s.core c).tag ts (first + j / 64 * 4)) ((s.core c).csr (cs + j)) (bit w.toNat 2))) = true) :=
  ⟨tiled, 0, 0xD0220500, 4, 2, 0x300, 0, 0, 1, 0, 0, by decide +kernel⟩

theorem witness_RequantisingAndStatistics_2 : ∃ (s : State) (c : Nat) (w : W32) (ts xd first count : Nat), (canIssue s c w.toNat = true) ∧ (isWord w.toNat 5 1 = true) ∧ (bits w.toNat 8 0 = 0) ∧ ((s.core c).xOk [bits w.toNat 13 9] = true) ∧ (ts = bits w.toNat 21 19) ∧ (xd = bits w.toNat 18 14) ∧ (first = bits ((s.core c).xr (bits w.toNat 13 9)) 6 0) ∧ (count = bits ((s.core c).xr (bits w.toNat 13 9)) 14 8 + 1) ∧ ((s.core c).dstBusy ts first count = false) ∧ ((s.core c).role ts = 1 ∨ (s.core c).role ts = 3 ∨ (s.core c).role ts = 4) ∧ (first + count ≤ (s.core c).tileRows ts) ∧ ((s.core c).filled ts first count = true) ∧ ((s.core c).clean ts first count = true) :=
  ⟨tiled, 0, 0xD0410000, 0, 4, 0, 1, by decide +kernel⟩

theorem witness_ContextOfACore_1 : ∃ (s : State) (c : Nat), (c < 128) ∧ (s.isleOn (c / 32) = true) ∧ ((s.core c).run = 1) ∧ ((s.core c).wld = none) ∧ ((s.core c).barrier = none) ∧ ((s.core c).passes = []) :=
  ⟨running, 0, by decide +kernel⟩

theorem witness_ContextOfACore_2 : ∃ (s : State) (c : Nat) (x : Nat × Nat × List Nat), (c < 128) ∧ (s.isleOn (c / 32) = true) ∧ ((s.core c).run = 1) ∧ ((s.core c).wld = some x) :=
  ⟨tiled.setCore 0 { tiled.core 0 with wld := some (0, 0, []) }, 0, (0, 0, []), by decide +kernel⟩

theorem witness_ContextOfACore_3 : ∃ (s : State) (c : Nat), (c < 128) ∧ (s.isleOn (c / 32) = true) ∧ ((s.core c).run = 3) ∧ (s.memLE (coreStore c + 0x3F0000) 4 = 0x43585431) :=
  ⟨(running.setCore 0 { running.core 0 with run := 3 }).memWrite (coreStore 0 + 0x3F0000) (le 4 0x43585431), 0, by decide +kernel⟩

theorem witness_ContextOfACore_4 : ∃ (s : State) (r : Req) (n : Nat), (admitted s r 0x02 n = true) ∧ (owns s r n = true) :=
  ⟨owned, own 5, 0, by decide +kernel⟩

theorem witness_SlotsLoadAndUnload_1 : ∃ (s : State) (r : Req) (n : Nat) (part slot v : Nat), (admitted s r 0x02 n = true) ∧ (owns s r n = true) ∧ (part < 16) ∧ (slot < 4) ∧ (v < 64) ∧ (s.slotState part slot = 0 ∨ s.slotState part slot = 3) ∧ ((s.region v).holder = part ∨ (s.region v).holder = 0xF0) ∧ (s.quadsOk part slot (if s.regionUp v then quadsNeeded (s.slotBytes part slot (some v)) ((s.region v).size * mib) else none) = true) :=
  ⟨granted, own 5, 0, 3, 2, 0, by decide +kernel⟩

theorem witness_SlotsLoadAndUnload_1a : ∃ (s : State) (r : Req) (n : Nat) (part slot v : Nat), (admitted s r 0x02 n = true) ∧ (owns s r n = true) ∧ (part < 16) ∧ (slot < 4) ∧ (v < 64) ∧ (s.slotState part slot = 0 ∨ s.slotState part slot = 3) ∧ ((s.region v).holder = part ∨ (s.region v).holder = 0xF0) ∧ (s.quadsOk part slot (if s.regionUp v then quadsNeeded (s.slotBytes part slot (some v)) ((s.region v).size * mib) else none) = true) :=
  ⟨granted, own 5, 0, 15, 0, 1, by decide +kernel⟩

theorem witness_SlotsLoadAndUnload_2 : ∃ (s : State) (part slot v : Nat) (b x : Bytes) (err : Bursts), ((s.slot part slot).load = some v) ∧ (v < 64) ∧ (s.slotState part slot = 1) ∧ (s.netOn = true) ∧ (part < 16) ∧ (slot < 4) ∧ (s.regionUp v = true) ∧ ((bitsOf 32 (s.slot part slot).lquads).head?.all (fun q => !s.objBit Obj.faultIslesFenced (q / 8) && s.isleOn (q / 8)) = true) ∧ (b = s.slotBytes part slot (some v)) ∧ (bundleHeadOk b ((s.region v).size * mib) = true) ∧ (bundleDigestsOk b = true) ∧ (s.isleRecord = some x) ∧ (hasSec b 1 = true) ∧ (pairOutcome x (recTrim (secBytes b 1)) ≠ 2) ∧ (sectionStatus b = 0) ∧ (hasSec b 4 = true → popCount 32 (s.slot part slot).lquads = byteAt (secBytes b 4) 1 ∧ ∃ pl, placingOf b = some pl ∧ s.placeOk (s.slot part slot).lquads pl (graphCmds b) = true ∧ (s.ladder part slot (((bitsOf 32 (s.slot part slot).lquads).head?.map (· / 8)).getD 0) (some (s.region v).base) pl).isSome = true) ∧ (err.failed = false) :=
  ⟨loadingOk, 0, 1, 0, loadingOk.slotBytes 0 1 (some 0), tinyRec, {}, by decide +kernel, by decide +kernel, by decide +kernel, by decide +kernel, by decide +kernel, by decide +kernel, by decide +kernel, by decide +kernel, by decide +kernel, by decide +kernel, by decide +kernel, by decide +kernel, by decide +kernel, by decide +kernel, by decide +kernel, fun h => absurd h (by decide +kernel), by decide +kernel⟩

theorem witness_SlotsLoadAndUnload_3 : ∃ (s : State) (part slot v : Nat) (err : Bursts), ((s.slot part slot).load = some v) ∧ (v < 64) ∧ (s.slotState part slot = 1) ∧ (s.netOn = true) ∧ (part < 16) ∧ (slot < 4) ∧ (s.regionUp v = false) :=
  ⟨loading, 3, 2, 0, {}, by decide +kernel⟩

theorem witness_SlotsLoadAndUnload_4 : ∃ (s : State) (r : Req) (n : Nat) (part slot : Nat), (admitted s r 0x02 n = true) ∧ (owns s r n = true) ∧ (part < 16) ∧ (slot < 4) ∧ (s.slotState part slot = 2 ∨ s.slotState part slot = 3 ∨ s.slotState part slot = 6) :=
  ⟨withObjs granted [(Obj.partSlotState 3 2, 3)], own 5, 0, 3, 2, by decide +kernel⟩

theorem witness_SlotsLoadAndUnload_5 : ∃ (s : State) (part slot i : Nat) (err : Bursts), (part < 16) ∧ (slot < 4) ∧ (s.slotState part slot = 3 ∨ s.slotState part slot = 4 ∨ s.slotState part slot = 5) ∧ ((s.slot part slot).armed = false) ∧ ((s.slot part slot).lost = false) ∧ (err.failed = false) ∧ (s.slotIsle part slot = some i) ∧ (s.isleOn i = true) ∧ ((match (s.slot part slot).region with | some r => s.regionUp r && bundleHeadOk (s.slotBytes part slot (some r)) ((s.region r).size * mib) | none => true) = true) :=
  ⟨withObjs (owned.setSlot 3 2 { quads := 256 }) [(Obj.partSlotState 3 2, 4)], 3, 2, 1, {}, by decide +kernel⟩

theorem witness_SlotsLoadAndUnload_6 : ∃ (s : State) (part slot i : Nat), (part < 16) ∧ (slot < 4) ∧ (s.slotState part slot = 3 ∨ s.slotState part slot = 4 ∨ s.slotState part slot = 5) ∧ ((s.slot part slot).armed = false) ∧ (s.slotIsle part slot = some i) ∧ (s.isleOn i = true) :=
  ⟨withObjs (owned.setSlot 3 2 { quads := 256 }) [(Obj.partSlotState 3 2, 4)], 3, 2, 1, by decide +kernel⟩

theorem witness_SlotsLoadAndUnload_7 : ∃ (s : State) (r : Req) (n : Nat) (g : Nat), (admitted s r 0x02 n = true) ∧ (owns s r n = true) ∧ (g = s.obj Obj.hbmSel) ∧ (s.obj Obj.hbmHolder ≠ 0xFF) ∧ (s.obj Obj.hbmBase % 0x200000 = 0) ∧ (s.obj Obj.hbmSize % 2 = 0) ∧ (s.obj Obj.hbmBase < 0x1800000000) ∧ (s.obj Obj.hbmBase + s.obj Obj.hbmSize * mib ≤ s.obj Obj.hbmBase / 0x600000000 * 0x600000000 + 23 * 2 ^ 30) ∧ ((List.range 64).all (fun i => i == g || (s.region i).holder == 0xFF || !(decide (s.obj Obj.hbmBase < (s.region i).base + (s.region i).size * mib) && decide ((s.region i).base < s.obj Obj.hbmBase + s.obj Obj.hbmSize * mib))) = true) ∧ (s.heldBySlot g = false) ∧ ((s.region g).base ≠ s.obj Obj.hbmBase ∨ (s.region g).size ≠ s.obj Obj.hbmSize ∨ (s.region g).holder ≠ s.obj Obj.hbmHolder) :=
  ⟨withObjs granted [(Obj.hbmSel, 5), (Obj.hbmBase, 0x600000000), (Obj.hbmSize, 2), (Obj.hbmHolder, 7)], own 5, 0, 5, by decide +kernel⟩

theorem witness_SlotsLoadAndUnload_8 : ∃ (s : State) (r : Req) (n : Nat) (g : Nat), (admitted s r 0x02 n = true) ∧ (owns s r n = true) ∧ (g = s.obj Obj.hbmSel) ∧ (s.obj Obj.hbmHolder = 0xFF) ∧ ((s.region g).holder ≠ 0xFF) ∧ (s.heldBySlot g = false) :=
  ⟨withObjs granted [(Obj.hbmSel, 0), (Obj.hbmHolder, 255)], own 5, 0, 0, by decide +kernel⟩

theorem witness_SwapsDrainAndClose_1 : ∃ (s : State) (r : Req) (n : Nat) (part old new : Nat), (admitted s r 0x02 n = true) ∧ (owns s r n = true) ∧ (part < 16) ∧ (old = s.obj (Obj.partT2Active part)) ∧ (new < 4) ∧ (old ≠ new) ∧ (old < 4 ∨ old = 0xFE) ∧ (s.slotState part new = 3) ∧ (s.obj (Obj.partSwapState part) = 0) :=
  ⟨withObjs owned [(Obj.partSlotState 3 2, 3), (Obj.partSlotState 3 0, 4), (Obj.partT2Active 3, 0)], own 5, 0, 3, 0, 2, by decide +kernel⟩

theorem witness_SwapsDrainAndClose_1a : ∃ (s : State) (r : Req) (n : Nat) (part old new : Nat), (admitted s r 0x02 n = true) ∧ (owns s r n = true) ∧ (part < 16) ∧ (old = s.obj (Obj.partT2Active part)) ∧ (new < 4) ∧ (old ≠ new) ∧ (old < 4 ∨ old = 0xFE) ∧ (s.slotState part new = 3) ∧ (s.obj (Obj.partSwapState part) = 0) :=
  ⟨withObjs owned [(Obj.partSlotState 3 2, 3)], own 5, 0, 3, 0xFE, 2, by decide +kernel⟩

theorem witness_SwapsDrainAndClose_2 : ∃ (s : State) (r : Req) (n : Nat) (part v : Nat), (admitted s r 0x02 n = true) ∧ (owns s r n = true) ∧ (part < 16) ∧ (v < 4 ∨ v = 0xFF) ∧ (s.obj (Obj.partSwapState part) = 0) :=
  ⟨owned, own 5, 0, 3, 2, by decide +kernel⟩

theorem witness_SwapsDrainAndClose_2a : ∃ (s : State) (r : Req) (n : Nat) (part v : Nat), (admitted s r 0x02 n = true) ∧ (owns s r n = true) ∧ (part < 16) ∧ (v < 4 ∨ v = 0xFF) ∧ (s.obj (Obj.partSwapState part) = 0) :=
  ⟨owned, own 5, 0, 0, 255, by decide +kernel⟩

theorem witness_SwapsDrainAndClose_3 : ∃ (s : State) (part slot : Nat), (part < 16) ∧ (slot < 4) ∧ ((s.partSw part).drain = some slot) ∧ ((s.partSw part).gap = none) ∧ (s.outOf part slot = 0) ∧ (s.slotState part slot = 5) :=
  ⟨(withObjs owned [(Obj.partSlotState 3 2, 5), (Obj.partSwapState 3, 1)]).setPartSw 3 { drain := some 2 }, 3, 2, by decide +kernel⟩

theorem witness_SwapsDrainAndClose_4 : ∃ (s : State) (part slot g : Nat), (part < 16) ∧ (slot < 4) ∧ (g < 4) ∧ (g ≠ slot) ∧ ((s.partSw part).drain = some slot) ∧ ((s.partSw part).gap = some g) ∧ (s.outOf part slot = 0) ∧ (s.slotState part slot = 5) ∧ (s.slotState part g = 2) :=
  ⟨(withObjs owned [(Obj.partSlotState 3 2, 5), (Obj.partSlotState 3 1, 2), (Obj.partSwapState 3, 2)]).setPartSw 3 { drain := some 2, gap := some 1 }, 3, 2, 1, by decide +kernel⟩

theorem witness_SwapsDrainAndClose_5 : ∃ (s : State) (part slot g : Nat), (part < 16) ∧ (slot < 4) ∧ (g < 4) ∧ (g ≠ slot) ∧ ((s.partSw part).drain = some slot) ∧ ((s.partSw part).gap = some g) ∧ (s.outOf part slot = 0) ∧ (s.slotState part slot = 5) ∧ (s.slotState part g ≠ 2) :=
  ⟨(withObjs owned [(Obj.partSlotState 3 2, 5), (Obj.partSwapState 3, 2)]).setPartSw 3 { drain := some 2, gap := some 1 }, 3, 2, 1, by decide +kernel⟩

theorem witness_SwapsDrainAndClose_6 : ∃ (s : State) (part slot : Nat) (err : Bursts), (part < 16) ∧ (slot < 4) ∧ ((s.partSw part).drain = none) ∧ ((s.partSw part).gap = some slot) ∧ (s.slotState part slot = 2) ∧ ((s.slot part slot).lost = false) ∧ (err.failed = false) ∧ (s.isleOn ((s.slotIsle part slot).getD 0) = true) ∧ (s.objBit Obj.faultIslesFenced ((s.slotIsle part slot).getD 0) = false) ∧ ((s.slot part slot).region.all (fun r => s.regionUp r) = true) :=
  ⟨(withObjs (owned.setSlot 3 2 { quads := 256 }) [(Obj.partSlotState 3 2, 2), (Obj.partSwapState 3, 2), (Obj.partT2Active 3, 2)]).setPartSw 3 { gap := some 2 }, 3, 2, {}, by decide +kernel⟩

theorem witness_SwapsDrainAndClose_7 : ∃ (s : State) (part slot : Nat), (part < 16) ∧ (slot < 4) ∧ ((s.partSw part).drain = none) ∧ ((s.partSw part).gap = some slot) ∧ (s.slotState part slot = 2) ∧ (s.isleOn ((s.slotIsle part slot).getD 0) = true) ∧ (s.obj (Obj.partT2Active part) = slot) :=
  ⟨(withObjs (owned.setSlot 3 2 { quads := 256 }) [(Obj.partSlotState 3 2, 2), (Obj.partSwapState 3, 2), (Obj.partT2Active 3, 2)]).setPartSw 3 { gap := some 2 }, 3, 2, by decide +kernel⟩

theorem witness_TierTwoResults_1 : ∃ (s : State) (n p k : Nat) (ks : List Nat) (w : Bytes) (r : T2Req) (i : Nat), (n < 4) ∧ (p < 16) ∧ (s.netOn = true) ∧ ((s.queue (128 + 16 * n + p)).pkts = k :: ks) ∧ (((s.queue (128 + 16 * n + p)).words.take k).all (fun e => !e.poison) = true) ∧ (w = (((s.queue (128 + 16 * n + p)).words.take k).map (·.bytes)).headD []) ∧ (recOrigin w = 0xFF) ∧ (s.plain = false) ∧ (byteAt w 3 = 0) ∧ (s.t2req (leAt w 8 6) = some r) ∧ (s.clk.ticks ≤ r.deadline) ∧ ((s.remapOf r.part r.slot).kind = 0) ∧ (r.fence = (s.slot r.part r.slot).fence) ∧ (s.judge r.key 2 (leAt w 4 4) = .written i) :=
  ⟨answeredT2, 3, 15, 1, [], resultBytes, req2, slot0, by decide +kernel⟩

theorem witness_TierTwoResults_2 : ∃ (s : State) (n p k : Nat) (ks : List Nat) (w : Bytes), (n < 4) ∧ (p < 16) ∧ (s.netOn = true) ∧ ((s.queue (128 + 16 * n + p)).pkts = k :: ks) ∧ (((s.queue (128 + 16 * n + p)).words.take k).all (fun e => !e.poison) = true) ∧ (w = (((s.queue (128 + 16 * n + p)).words.take k).map (·.bytes)).headD []) ∧ (recOrigin w = 0xFF) ∧ (s.t2req (leAt w 8 6) = none) :=
  ⟨{ answeredT2 with m := { answeredT2.m with out2 := [] } }, 3, 15, 1, [], resultBytes, by decide +kernel⟩

theorem witness_TierTwoResults_3 : ∃ (s : State) (seq : Nat) (r : T2Req), (s.t2req seq = some r) :=
  ⟨answeredT2, 9, req2, by decide +kernel⟩

theorem witness_CoresFailAndAreReset_1 : ∃ (s : State) (c : Nat) (f : Nat × Nat × Nat), ((s.core c).fault = some f) ∧ (f.1 ≠ 0x0F) ∧ (s.slotOfCore c = none) ∧ ((s.core c).cur = none) ∧ (s.isleOn (c / 32) = true) ∧ ((s.sched (c / 32)).waiting.find? (fun e => e.1 == c) = none) :=
  ⟨owned.setCore 5 { run := 2, fault := some (0x0E, 0, 9), x := [(3, 7)] }, 5, (0x0E, 0, 9), by decide +kernel⟩

theorem witness_CoresFailAndAreReset_2 : ∃ (s : State) (c : Nat) (f : Nat × Nat × Nat), ((s.core c).fault = some f) ∧ (s.isleOn (c / 32) = true) ∧ ((s.sched (c / 32)).poison = []) :=
  ⟨owned.setCore 5 { run := 2, fault := some (0x0F, 0, 9) }, 5, (0x0F, 0, 9), by decide +kernel⟩

theorem witness_CoresFailAndAreReset_3 : ∃ (s : State) (c : Nat), ((s.core c).run = 1) ∧ (s.isleOn (c / 32) = true) ∧ (bit s.obs.halted (c / 32) = false) ∧ ((s.sched (c / 32)).poison = []) :=
  ⟨owned.setCore 5 { run := 1, cur := some ⟨1, 2, 3, 4, 5⟩ }, 5, by decide +kernel⟩

theorem witness_CoresFailAndAreReset_4 : ∃ (s : State), (s.on = true) ∧ (s.pwr.coreClock = true) :=
  ⟨owned, by decide +kernel⟩

theorem witness_CoresFailAndAreReset_5 : ∃ (s : State) (r : Req) (n : Nat) (part : Nat), (admitted s r 0x02 n = true) ∧ (owns s r n = true) ∧ (part < 16) ∧ (s.obj (Obj.partRecoveryState part) = 3) :=
  ⟨withObjs owned [(Obj.partRecoveryState 3, 3)], own 5, 0, 3, by decide +kernel⟩

theorem witness_CoresFailAndAreReset_6 : ∃ (s : State) (part : Nat), (part < 16) ∧ (s.obj (Obj.partRecoveryState part) = 2) :=
  ⟨withObjs owned [(Obj.partRecoveryState 3, 2)], 3, by decide +kernel⟩

theorem witness_IslesAreFencedAndRestored_1 : ∃ (s : State) (n : Nat), (s.isleOn n = true) ∧ (s.isleBusy n = true) ∧ (bit s.obs.halted n = false) ∧ (s.objBit Obj.faultIslesFenced n = false) :=
  ⟨owned.setCore 37 { run := 1, cur := some ⟨1, 2, 3, 4, 5⟩ }, 1, by decide +kernel⟩

theorem witness_IslesAreFencedAndRestored_2 : ∃ (s : State) (n resends : Nat) (lane : Bool), (s.netOn = true) ∧ (s.objBit Obj.machineSoundsUp n = true) ∧ (s.objBit Obj.faultIslesFenced n = false) ∧ (lane = true ∨ 8 ≤ resends) :=
  ⟨owned, 2, 8, false, by decide +kernel⟩

theorem witness_IslesAreFencedAndRestored_2a : ∃ (s : State) (n resends : Nat) (lane : Bool), (s.netOn = true) ∧ (s.objBit Obj.machineSoundsUp n = true) ∧ (s.objBit Obj.faultIslesFenced n = false) ∧ (lane = true ∨ 8 ≤ resends) :=
  ⟨owned, 3, 0, true, by decide +kernel⟩

theorem witness_IslesAreFencedAndRestored_3 : ∃ (s : State) (n resends : Nat), (s.netOn = true) ∧ (s.objBit Obj.machineSoundsUp n = true) ∧ (resends < 8) :=
  ⟨owned, 3, 7, by decide +kernel⟩

theorem witness_IslesAreFencedAndRestored_4 : ∃ (s : State) (r : Req) (n : Nat) (v : Nat), (admitted s r 0x02 n = true) ∧ (owns s r n = true) ∧ (1 ≤ v) ∧ (v < 16) ∧ (v &&& s.obj Obj.faultIslesFenced = v) :=
  ⟨withObjs owned [(Obj.faultIslesFenced, 6)], own 5, 0, 4, by decide +kernel⟩

theorem witness_IslesAreFencedAndRestored_5 : ∃ (s : State) (n d : Nat), (mget (fun _ => 0) s.fault.fencedAt n = d + 1) ∧ (s.obj Obj.faultIsleAutoRestore ≠ 0) ∧ (mget (fun _ => 0) s.fault.restoring n = 0) ∧ (s.objBit Obj.faultIslesFenced n = true) ∧ (n < 4) :=
  ⟨{ withObjs owned [(Obj.faultIslesFenced, 4), (Obj.faultIsleAutoRestore, 1)] with fault := { owned.fault with fencedAt := [(2, 8)] } }, 2, 7, by decide +kernel⟩

theorem witness_IslesAreFencedAndRestored_6 : ∃ (s : State) (n d : Nat), (mget (fun _ => 0) s.fault.restoring n = d + 1) :=
  ⟨{ withObjs owned [(Obj.faultIslesFenced, 4)] with fault := { owned.fault with restoring := [(2, 8)] } }, 2, 7, by decide +kernel⟩

theorem witness_IslesAreFencedAndRestored_7 : ∃ (s : State) (n d : Nat), (n < 4) ∧ (mget (fun _ => 0) s.fault.restoring n = d + 1) ∧ (s.netOn = true) ∧ (s.domain 1 = true) :=
  ⟨{ withObjs owned [(Obj.faultIslesFenced, 4), (Obj.machineIslesUp, 11), (Obj.powerDomains, 0x2F)] with fault := { owned.fault with restoring := [(2, 8)] } }, 2, 7, by decide +kernel⟩

theorem witness_BundleRings_1 : ∃ (s : State) (fn producer : Nat), (fn ≤ 16) ∧ (s.linkOn = true) :=
  ⟨owned, 16, 3, by decide +kernel⟩

theorem witness_BundleRings_2 : ∃ (s u : State) (fn producer : Nat) (fetched : List (Bytes × Bytes)), (exec (.bundleRingDoorbell fn ⟨producer, []⟩) s = .next u) ∧ (fn ≤ 16) :=
  ⟨bundled, _, 0, 5, [], rfl, by decide +kernel⟩

theorem witness_BundleRings_4 : ∃ (s : State) (fn : Nat) (b buf : Bytes), (byteAt b 0 ≠ 1) ∧ (byteAt b 0 ≠ 2) ∧ (fn ≤ 16) ∧ (s.pcie = true) ∧ ((s.bRing fn).en = true) ∧ ((s.bRing fn).sp ≠ (s.bRing fn).sc) ∧ ((s.bRing fn).room = true) :=
  ⟨bundled, 0, [3] ++ zeros 127, [], by decide +kernel⟩

theorem witness_BundleRings_5 : ∃ (s : State) (d : BDesc), (d.fn ≤ 16) ∧ (s.pcie = true) ∧ ((s.bRing d.fn).en = true) ∧ ((s.bRing d.fn).sp ≠ (s.bRing d.fn).sc) ∧ ((s.bRing d.fn).room = true) ∧ (d.region < 64) ∧ (1 ≤ d.len) ∧ (d.len ≤ 16777216) ∧ (if d.fn = 0 then (s.region d.region).holder ≠ 0xFF else (s.region d.region).holder = d.fn - 1) ∧ (d.epoch % 65536 = (s.region d.region).epoch % 65536) ∧ (d.off + d.len ≤ (s.region d.region).size * mib) ∧ (s.domain 1 = true) ∧ (s.heldBySlot d.region = false) ∧ (s.addrOk ((s.region d.region).base + d.off) d.len true = true) :=
  ⟨bundled, { fn := 0, epoch := 1, region := 0, off := 64, len := 4, data := [1, 2, 3] }, by decide +kernel⟩

theorem witness_BundleRings_5a : ∃ (s : State) (d : BDesc), (d.fn ≤ 16) ∧ (s.pcie = true) ∧ ((s.bRing d.fn).en = true) ∧ ((s.bRing d.fn).sp ≠ (s.bRing d.fn).sc) ∧ ((s.bRing d.fn).room = true) ∧ (d.region < 64) ∧ (1 ≤ d.len) ∧ (d.len ≤ 16777216) ∧ (if d.fn = 0 then (s.region d.region).holder ≠ 0xFF else (s.region d.region).holder = d.fn - 1) ∧ (d.epoch % 65536 = (s.region d.region).epoch % 65536) ∧ (d.off + d.len ≤ (s.region d.region).size * mib) ∧ (s.domain 1 = true) ∧ (s.heldBySlot d.region = false) ∧ (s.addrOk ((s.region d.region).base + d.off) d.len true = true) :=
  ⟨bundled.setBRing 4 (bundled.bRing 0), { fn := 4, epoch := 1, region := 0, off := 0x1FFFFF, len := 1, data := [9] }, by decide +kernel⟩

theorem witness_BundleRings_6 : ∃ (s : State) (d : BDesc), (d.fn ≤ 16) ∧ (s.pcie = true) ∧ ((s.bRing d.fn).en = true) ∧ ((s.bRing d.fn).sp ≠ (s.bRing d.fn).sc) ∧ ((s.bRing d.fn).room = true) ∧ (d.region < 64) ∧ (1 ≤ d.len) ∧ (d.len ≤ 16777216) ∧ (if d.fn = 0 then (s.region d.region).holder ≠ 0xFF else (s.region d.region).holder = d.fn - 1) ∧ (d.epoch % 65536 = (s.region d.region).epoch % 65536) ∧ (d.off + d.len ≤ (s.region d.region).size * mib) ∧ (s.domain 1 = true) ∧ (d.err.failed = false) ∧ (s.addrOk ((s.region d.region).base + d.off) d.len false = true) :=
  ⟨bundled, { fn := 0, epoch := 1, region := 0, off := 64, len := 4, host := 77 }, by decide +kernel⟩

theorem witness_StraitsChangeState_1 : ∃ (s : State) (r : Req) (n : Nat) (v i : Nat), (admitted s r 0x02 n = true) ∧ (owns s r n = true) ∧ (v < 256) ∧ (i < 8) :=
  ⟨owned, own 5, 0, 129, 7, by decide +kernel⟩

theorem witness_StraitsChangeState_1a : ∃ (s : State) (r : Req) (n : Nat) (v i : Nat), (admitted s r 0x02 n = true) ∧ (owns s r n = true) ∧ (v < 256) ∧ (i < 8) :=
  ⟨linked, own 5, 0, 1, 2, by decide +kernel⟩

theorem witness_StraitsChangeState_2 : ∃ (s : State) (i : Nat), (s.straitIn i 1 = true) :=
  ⟨withObjs owned [(Obj.straitState 7, 1)], 7, by decide +kernel⟩

theorem witness_StraitsChangeState_3 : ∃ (s : State) (i w : Nat), (s.straitIn i 1 = true) ∧ ((s.strait i).deadline = some w) :=
  ⟨(withObjs owned [(Obj.straitState 7, 1)]).setStrait 7 { deadline := some 9 }, 7, 9, by decide +kernel⟩

theorem witness_StraitsChangeState_4 : ∃ (s : State) (i peer a b c : Nat), (s.straitIn i 2 = true) ∧ (peer < 64) ∧ ((s.strait i).out = []) ∧ (s.member peer = true ∨ s.inPool = false) :=
  ⟨withObjs owned [(Obj.straitState 7, 2)], 7, 5, 64, 512, 256, by decide +kernel⟩

theorem witness_StraitsChangeState_5 : ∃ (s : State) (i w : Nat), (s.straitIn i 2 = true) ∧ ((s.strait i).initGot = false) ∧ ((s.strait i).deadline = some w) :=
  ⟨(withObjs owned [(Obj.straitState 7, 2)]).setStrait 7 { deadline := some 9 }, 7, 9, by decide +kernel⟩

theorem witness_StraitsChangeState_6 : ∃ (s : State) (i : Nat), (s.straitIn i 3 = true) :=
  ⟨linked, 2, by decide +kernel⟩

theorem witness_StraitsChangeState_7 : ∃ (s : State) (i w : Nat), (s.straitIn i 4 = true) ∧ ((s.strait i).deadline = some w) :=
  ⟨(withObjs owned [(Obj.straitState 7, 4)]).setStrait 7 { deadline := some 9 }, 7, 9, by decide +kernel⟩

theorem witness_FlitsAreAcknowledgedAndReplayed_1 : ∃ (s : State) (i : Nat) (f : Bytes), (s.straitIn i 3 = true) ∧ (f.length = 256) ∧ (crc32c (f.take 252) = beAt f 252 4) ∧ (byteAt f 0 / 16 = 1) ∧ (bits (byteAt f 0) 3 2 ≠ 3) ∧ (bit (byteAt f 0) 0 = false) ∧ (bit (byteAt f 0) 1 = true) ∧ (byteAt f 3 / 16 = 0) ∧ (beAt f 10 2 ≤ 236) ∧ (typeKnown (bits (byteAt f 0) 3 2) (byteAt f 12) = true) ∧ (beAt f 4 2 = (s.strait i).rx) ∧ ((s.strait i).out = []) :=
  ⟨linked, 2, goodFlit, by decide +kernel⟩

theorem witness_FlitsAreAcknowledgedAndReplayed_2 : ∃ (s : State) (i : Nat) (f : Bytes), (s.straitIn i 3 = true) ∧ (crc32c ((padTo 256 f).take 252) ≠ beAt (padTo 256 f) 252 4) :=
  ⟨linked, 2, [0x12, 1, 2], by decide +kernel⟩

theorem witness_FlitsAreAcknowledgedAndReplayed_3 : ∃ (s : State) (i seq : Nat) (fs : List (Nat × Bytes)), (s.straitIn i 3 = true) ∧ (fs = (s.strait i).replay.dropWhile (fun f => f.1 != seq % 65536)) ∧ (fs ≠ []) ∧ ((s.strait i).resends < 16) :=
  ⟨linked, 2, 8, [(8, [2])], by decide +kernel⟩

theorem witness_FlitsAreAcknowledgedAndReplayed_4 : ∃ (s : State) (i seq : Nat), (s.straitIn i 3 = true) ∧ ((s.strait i).replay.any (fun f => f.1 == seq % 65536) = true) ∧ ((s.strait i).resends = 16) :=
  ⟨linked.setStrait 2 { linked.strait 2 with resends := 16 }, 2, 8, by decide +kernel⟩

theorem witness_FlitsAreAcknowledgedAndReplayed_5 : ∃ (s : State) (i : Nat) (f : Nat × Bytes) (rest : List (Nat × Bytes)), (s.straitIn i 3 = true) ∧ ((s.strait i).replay = f :: rest) ∧ ((s.strait i).resends < 16) :=
  ⟨linked, 2, (7, [1]), [(8, [2])], by decide +kernel⟩

theorem witness_FlitsAreAcknowledgedAndReplayed_6 : ∃ (s : State) (i : Nat), (s.straitIn i 3 = true) :=
  ⟨linked, 2, by decide +kernel⟩

theorem witness_PoolMembersComeAndGo_1 : ∃ (s : State) (i origin seq : Nat) (entries : List (Nat × Nat)), (s.straitUp i = true) ∧ (s.inPool = true) ∧ (entries.zipIdx.all (fun e => e.1.1 == 0xFF || e.2 == origin || e.2 == s.self) = true) :=
  ⟨linked, 2, 5, 66000, [], by decide +kernel⟩

theorem witness_PoolMembersComeAndGo_2 : ∃ (s : State), (s.inPool = true) :=
  ⟨linked, by decide +kernel⟩

theorem witness_PoolMembersComeAndGo_3 : ∃ (s : State) (src poolId device serial compat : Nat) (record : Bytes), (s.inPool = true) ∧ ((s.admitOutcome poolId device serial record).1 ≠ 3) :=
  ⟨{ withObjs linked [(Obj.compatAllowProvisionalPool, 1)] with boot := { linked.boot with harbour := zeros 16 ++ tinyRec } }, 9, 3, 9, 77, 0, [1, 1, 0, 0, 1, 0, 0, 0, 0, 0, 0, 0, 0, 0, 0, 0], by decide +kernel⟩

theorem witness_PoolMembersComeAndGo_3a : ∃ (s : State) (src poolId device serial compat : Nat) (record : Bytes), (s.inPool = true) ∧ ((s.admitOutcome poolId device serial record).1 ≠ 3) :=
  ⟨linked, 9, 4, 9, 77, 0, [], by decide +kernel⟩

theorem witness_PoolMembersComeAndGo_4 : ∃ (s : State) (src : Nat), (s.inPool = true) ∧ (src < 64) ∧ ((s.peer src).mine = some 0) :=
  ⟨linked.setPeer 9 { mine := some 0 }, 9, by decide +kernel⟩

theorem witness_PoolMembersComeAndGo_5 : ∃ (s : State) (src outcome : Nat), (s.inPool = true) ∧ (outcome ≠ 0) :=
  ⟨linked, 9, 2, by decide +kernel⟩

theorem witness_PoolMembersComeAndGo_6 : ∃ (s : State) (d : Nat), (s.member d = true) :=
  ⟨linked, 5, by decide +kernel⟩

theorem witness_PoolMembersComeAndGo_7 : ∃ (s : State) (src i : Nat) (b : Bytes), (s.member src = true) ∧ (s.isMgmt src = false) ∧ (s.mgmt = false) ∧ ((regOfWire b).holder = src) ∧ ((regOfWire b).kind = 2) ∧ (s.pool.reg.all (fun x => !(x.2.kind == 2 && x.2.holder == src && x.2.part == (regOfWire b).part && x.2.slot == (regOfWire b).slot)) = true) ∧ (s.freeReg = some i) :=
  ⟨linked, 5, 0, [2, 5, 3, 1] ++ zeros 60, by decide +kernel⟩

theorem witness_PoolMembersComeAndGo_8 : ∃ (s : State) (src : Nat) (bs : List Bytes), (s.isMgmt src = true ∨ s.mgmt = true) :=
  ⟨withObjs linked [(Obj.compatState, 2)], 5, [], by decide +kernel⟩

theorem witness_PoolMembersComeAndGo_9 : ∃ (s : State) (src q k : Nat) (g : Bool), (s.member src = true) ∧ (q < 64) ∧ (s.m.out2 = []) ∧ (s.m.waiting = []) :=
  ⟨linked, 5, 63, 8, true, by decide +kernel⟩

theorem witness_ReplicasAreLockedAndFetched_1 : ∃ (s : State) (src e : Nat), (s.inPool = true) ∧ (s.member src = true) ∧ (s.isMgmt src = false) ∧ (s.mgmt = false) ∧ ((s.reg e).kind = 1) ∧ ((s.reg e).holder = s.self) ∧ (s.pool.locks.all (fun l => l.region != (s.reg e).region || l.locker == src) = true) :=
  ⟨linked, 5, 255, by decide +kernel⟩

theorem witness_ReplicasAreLockedAndFetched_2 : ∃ (s : State) (src e epoch : Nat) (f : Fetch), (s.pool.fetch = some f) ∧ (f.holder = src) ∧ (f.entry = e) ∧ (f.epoch = none) :=
  ⟨fetching none, 5, 1, 3, fetch0 none, by decide +kernel⟩

theorem witness_ReplicasAreLockedAndFetched_2a : ∃ (s : State) (src e epoch : Nat) (f : Fetch), (s.pool.fetch = some f) ∧ (f.holder = src) ∧ (f.entry = e) ∧ (f.epoch = none) :=
  ⟨fetching none, 5, 1, 3, fetch0 none, by decide +kernel⟩

theorem witness_ReplicasAreLockedAndFetched_3 : ∃ (s : State) (src e epoch : Nat) (f : Fetch), (s.pool.fetch = some f) ∧ (f.holder = src) ∧ (f.entry = e) ∧ (f.epoch = none) :=
  ⟨fetching none, 5, 1, 3, fetch0 none, by decide +kernel⟩

theorem witness_ReplicasAreLockedAndFetched_3a : ∃ (s : State) (src e epoch : Nat) (f : Fetch), (s.pool.fetch = some f) ∧ (f.holder = src) ∧ (f.entry = e) ∧ (f.epoch = none) :=
  ⟨fetching none, 5, 1, 3, fetch0 none, by decide +kernel⟩

theorem witness_ReplicasAreLockedAndFetched_4 : ∃ (s : State) (g : Nat) (l : RLock), (s.pool.locks.find? (fun l => l.region == g) = some l) :=
  ⟨{ linked with pool := { linked.pool with locks := [⟨0, 5, 3, 80⟩] } }, 0, ⟨0, 5, 3, 80⟩, by decide +kernel⟩

theorem witness_ReplicasAreLockedAndFetched_5 : ∃ (s : State) (src e epoch off len : Nat) (l : RLock), (s.pool.locks.find? (fun l => l.region == (s.reg e).region && l.locker == src) = some l) ∧ ((s.reg e).kind = 1) ∧ ((s.reg e).holder = s.self) ∧ (l.epoch = epoch) ∧ (s.regionUp (s.reg e).region = true) :=
  ⟨{ linked with pool := { linked.pool with locks := [⟨0, 5, 3, 80⟩] } }, 5, 255, 3, 0, 100, ⟨0, 5, 3, 80⟩, by decide +kernel⟩

theorem witness_ReplicasAreLockedAndFetched_6 : ∃ (s : State) (src epoch off : Nat) (d : Bytes) (f : Fetch), (s.pool.fetch = some f) ∧ (f.holder = src) ∧ (f.epoch = some epoch) ∧ (f.got = off) ∧ (d ≠ []) ∧ (off + d.length ≤ f.len) ∧ (s.regionUp f.region = true) :=
  ⟨fetching (some 3), 5, 3, 0, [1, 2, 3], fetch0 (some 3), by decide +kernel⟩

theorem witness_ReplicasAreLockedAndFetched_7 : ∃ (s : State) (i src e epoch off : Nat) (d : Bytes), (i < 64) ∧ (s.slotLockOf i = some (src, e, some epoch)) ∧ (off = (mget (fun _ => ([] : Bytes)) s.pool.stream i).length) ∧ (d ≠ []) ∧ (off + d.length ≤ (s.reg e).len) :=
  ⟨linked.setSlotLock 63 (some (5, 1, some 3)), 63, 5, 1, 3, 0, [1, 2, 3], by decide +kernel⟩

theorem witness_ReplicasAreLockedAndFetched_8 : ∃ (s : State) (r : Req) (n : Nat) (g i : Nat), (admitted s r 0x02 n = true) ∧ (owns s r n = true) ∧ (g < 64) ∧ ((s.region g).holder ≠ 0xFF) ∧ (s.mgmt = false) ∧ (s.regionUp g = true) ∧ (bundleHeadOk (s.slotBytes 0 0 (some g)) ((s.region g).size * mib) = true) ∧ (bundleDigestsOk (s.slotBytes 0 0 (some g)) = true) ∧ (s.ownEntries.any (fun e => e.2.kind == 1 && e.2.region == g) = false) ∧ (s.freeReg = some i) :=
  ⟨loadingOk, own 5, 0, 0, 0, by decide +kernel⟩

theorem witness_ReplicasAreLockedAndFetched_9 : ∃ (s : State) (r : Req) (n : Nat) (g : Nat), (admitted s r 0x02 n = true) ∧ (owns s r n = true) ∧ (g < 64) :=
  ⟨{ linked with pool := { linked.pool with locks := [⟨0, 5, 3, 80⟩] } }, own 5, 0, 0, by decide +kernel⟩

theorem witness_ReplicasAreLockedAndFetched_10 : ∃ (s : State) (r : Req) (n : Nat) (e g : Nat), (admitted s r 0x02 n = true) ∧ (owns s r n = true) ∧ (e = s.obj Obj.poolFetchEntry) ∧ (g = s.obj Obj.poolFetchRegion) ∧ ((s.reg e).kind = 1) ∧ ((s.region g).holder ≠ 0xFF) ∧ ((s.reg e).len ≤ (s.region g).size * mib) ∧ (s.mgmt = false) ∧ (s.isMgmt (s.reg e).holder = false) ∧ (s.pool.fetch = none) ∧ (s.heldBySlot g = false) :=
  ⟨withObjs linked [(Obj.poolFetchEntry, 1), (Obj.poolFetchRegion, 1)], own 5, 0, 1, 1, by decide +kernel⟩

theorem witness_ReplicasAreLockedAndFetched_11 : ∃ (s : State) (f : Fetch) (b : Bytes), (s.pool.fetch = some f) ∧ (f.len ≤ f.got) ∧ (b = s.memRead (s.region f.region).base f.len) ∧ (s.regionUp f.region = true) ∧ (bundleHeadOk b f.len = true) ∧ (bundleDigestsOk b = true) ∧ (bundleDigest b = f.digest) :=
  ⟨{ loadingOk with pool := { loadingOk.pool with fetch := some fetchDone } }, fetchDone, tinyBundle, by decide +kernel⟩

theorem witness_RemoteWorkAndResults_1 : ∃ (s : State) (src p n i : Nat) (k : Bytes), (s.inPool = true) ∧ (s.member src = true) ∧ (s.isMgmt src = false) ∧ (s.mgmt = false) ∧ (p = byteAt k 0) ∧ (n = byteAt k 1) ∧ (p < 16) ∧ (n < 4) ∧ (s.objBit Obj.poolServeMask p = true) ∧ (s.slotUsed p n = true) ∧ ((s.slot p n).digest ≠ []) ∧ (slice k 8 24 = (s.slot p n).digest.take 24) ∧ (s.slotIsle p n = some i) ∧ ((s.queue (64 + 16 * i + p)).depth + 4 ≤ s.qCap (64 + 16 * i + p)) ∧ ((s.queue (64 + 16 * i + p)).unc = 0) ∧ ((s.queue (64 + 16 * i + p)).skip = 0) ∧ (s.m.out2 = []) ∧ (s.m.waiting = []) ∧ (i < 4) ∧ (s.netOn = true) :=
  ⟨withObjs (linked.setSlot 3 1 { digest := zeros 48, quads := 0x1000000 }) [(Obj.poolServeMask, 8), (Obj.partSlotState 3 1, 3)], 5, 3, 1, 3, [3, 1] ++ zeros 286, by decide +kernel⟩

theorem witness_RemoteWorkAndResults_2 : ∃ (s : State) (src i : Nat) (k w : Bytes) (r : T2Req), (s.inPool = true) ∧ (s.member src = true) ∧ (w = flipFields resultFields (slice k 32 64)) ∧ (s.plain = false) ∧ (byteAt w 3 = 0) ∧ (s.t2req (leAt w 8 6) = some r) ∧ (s.clk.ticks ≤ r.deadline) ∧ ((s.remapOf r.part r.slot).kind = 2) ∧ (s.judge r.key 2 (leAt w 4 4) = .written i) :=
  ⟨({ withObjs answeredT2 [(Obj.poolId, 3), (Obj.poolDevice, 4), (Obj.poolMembers, 32)] with m := { answeredT2.m with out2 := [req2] } } : State).setRemap 0 0 { kind := 2, unit := 5 }, 5, slot0, zeros 32 ++ flipFields resultFields resultBytes, resultBytes, req2, by decide +kernel⟩

theorem witness_CartridgesAreAuthenticatedAndServed_1 : ∃ (s : State) (e : Nat), (s.on = true) ∧ (e < 8) ∧ ((s.cart e).phase = 0) :=
  ⟨owned, 7, by decide +kernel⟩

theorem witness_CartridgesAreAuthenticatedAndServed_2 : ∃ (s : State) (e : Nat), (s.on = true) ∧ (e < 8) ∧ ((s.cart e).phase ≠ 0) :=
  ⟨lighted, 3, by decide +kernel⟩

theorem witness_CartridgesAreAuthenticatedAndServed_3 : ∃ (s : State) (e w : Nat) (g : CartRegs), (e < 8) ∧ ((s.cart e).phase = 1) ∧ ((s.cart e).deadline = some w) ∧ (s.clk.ticks ≤ w) :=
  ⟨owned.setCart 7 { phase := 1, deadline := some 90 }, 7, 90, regs0, by decide +kernel⟩

theorem witness_CartridgesAreAuthenticatedAndServed_4 : ∃ (s : State) (e w : Nat), (e < 8) ∧ ((s.cart e).phase = 1) ∧ ((s.cart e).deadline = some w) :=
  ⟨owned.setCart 7 { phase := 1, deadline := some 90 }, 7, 90, by decide +kernel⟩

theorem witness_CartridgesAreAuthenticatedAndServed_5 : ∃ (s : State) (e w : Nat) (a : Bytes), (e < 8) ∧ ((s.cart e).phase = 2) ∧ ((s.cart e).deadline = some w) ∧ (s.clk.ticks ≤ w) ∧ (s.obj (Obj.cartAuth e) = 0) :=
  ⟨owned.setCart 7 { phase := 2, deadline := some 90, nonce := zeros 32, digest := zeros 48 }, 7, 90, zeros 64, by decide +kernel⟩

theorem witness_CartridgesAreAuthenticatedAndServed_6 : ∃ (s : State) (e w : Nat), (e < 8) ∧ ((s.cart e).phase = 2) ∧ ((s.cart e).deadline = some w) :=
  ⟨owned.setCart 7 { phase := 2, deadline := some 90 }, 7, 90, by decide +kernel⟩

theorem witness_CartridgesAreAuthenticatedAndServed_7 : ∃ (s : State) (e w : Nat), (e < 8) ∧ ((s.cart e).phase = 4) ∧ ((s.cart e).deadline = some w) :=
  ⟨owned.setCart 7 { phase := 4, deadline := some 90 }, 7, 90, by decide +kernel⟩

theorem witness_CartridgesAreAuthenticatedAndServed_8 : ∃ (s : State) (r : Req) (n : Nat) (e : Nat), (admitted s r 0x02 n = true) ∧ (owns s r n = true) ∧ (e < 8) ∧ ((s.cart e).phase ≠ 0) ∧ (s.obj (Obj.cartLifeStage e) ≠ 3) :=
  ⟨lighted, own 5, 0, 3, by decide +kernel⟩

theorem witness_CartridgesAreAuthenticatedAndServed_9 : ∃ (s : State) (r : Req) (n : Nat) (e v : Nat), (admitted s r 0x02 n = true) ∧ (owns s r n = true) ∧ (e < 8) ∧ ((s.cart e).phase ≠ 0) ∧ (s.obj (Obj.cartLifeStage e) ≠ 3) ∧ (takes (0x4110 + e) 11 v = true) :=
  ⟨lighted, own 5, 0, 3, 100, by decide +kernel⟩

theorem witness_CartridgesAreAuthenticatedAndServed_10 : ∃ (s : State) (r : Req) (n : Nat) (v : Nat), (admitted s r 0x02 n = true) ∧ (owns s r n = true) ∧ (v ≤ 1) :=
  ⟨lighted, own 5, 0, 0, by decide +kernel⟩

theorem witness_CartridgesAreAuthenticatedAndServed_10a : ∃ (s : State) (r : Req) (n : Nat) (v : Nat), (admitted s r 0x02 n = true) ∧ (owns s r n = true) ∧ (v ≤ 1) :=
  ⟨owned, own 5, 0, 1, by decide +kernel⟩

theorem witness_LightAndLife_1 : ∃ (s : State) (e : Nat) (m : OptSample), (s.netOn = true) ∧ (e < 8) ∧ (s.lit e = false) :=
  ⟨owned, 7, sample0, by decide +kernel⟩

theorem witness_LightAndLife_2 : ∃ (s : State) (e : Nat) (m : OptSample), (s.netOn = true) ∧ (e < 8) ∧ (s.lit e = true) ∧ (bit m.status 2 = true ∨ bit m.status 3 = true ∨ 120 * m.nominal < 100 * m.drive) :=
  ⟨lighted, 3, { sample0 with status := 4 }, by decide +kernel⟩

theorem witness_LightAndLife_3 : ∃ (s : State) (e w k : Nat) (m : OptSample), (e < 8) ∧ ((s.cart e).loss = some (w, k)) ∧ (k < 3) ∧ (s.mayLight e = true) ∧ (toSigned 16 (s.obj Obj.optCwLowAlarm) ≤ m.cw) ∧ (bit m.status 2 = false) ∧ (bit m.status 3 = false) ∧ (100 * m.drive ≤ 120 * m.nominal) :=
  ⟨darkened, 3, 9, 2, sample0, by decide +kernel⟩

theorem witness_LightAndLife_4 : ∃ (s : State) (e w k : Nat) (m : OptSample), (e < 8) ∧ ((s.cart e).loss = some (w, k)) ∧ (k < 3) ∧ (s.mayLight e = true) ∧ (bit m.status 3 = true) :=
  ⟨darkened, 3, 9, 2, { sample0 with status := 8 }, by decide +kernel⟩

theorem witness_LightAndLife_5 : ∃ (s : State) (e : Nat), (e < 8) ∧ (s.lit e = true) ∧ ((s.cart e).usable = false) :=
  ⟨lighted.setCart 3 { lighted.cart 3 with usable := false }, 3, by decide +kernel⟩

theorem witness_LightAndLife_6 : ∃ (s : State) (e : Nat) (temp : Int) (drive nominal ft fi : Nat), (e < 8) ∧ (s.on = true) ∧ ((s.cart e).phase ≠ 0) ∧ ((s.cart e).known = true) ∧ (s.lit e = true) ∧ (lifeT temp = some ft) ∧ (lifeI drive nominal = some fi) :=
  ⟨lighted, 3, 35 * 256, 100, 100, 50, 100, by decide +kernel⟩

theorem witness_LightAndLife_6a : ∃ (s : State) (e : Nat) (temp : Int) (drive nominal ft fi : Nat), (e < 8) ∧ (s.on = true) ∧ ((s.cart e).phase ≠ 0) ∧ ((s.cart e).known = true) ∧ (s.lit e = true) ∧ (lifeT temp = some ft) ∧ (lifeI drive nominal = some fi) :=
  ⟨lighted, 3, 80 * 256 + 0, 120, 100, 400, 156, by decide +kernel⟩

theorem witness_LightAndLife_7 : ∃ (s : State) (e : Nat) (temp : Int) (drive nominal : Nat), (e < 8) ∧ (s.on = true) ∧ ((s.cart e).phase ≠ 0) ∧ ((s.cart e).known = true) ∧ (s.lit e = false) :=
  ⟨darkened, 3, 35 * 256, 100, 100, by decide +kernel⟩

theorem witness_LightAndLife_8 : ∃ (s : State) (e : Nat), (e < 8) ∧ (s.on = true) ∧ ((s.cart e).phase ≠ 0) ∧ ((s.cart e).known = true) ∧ ((s.cart e).recDue = true) :=
  ⟨lighted.setCart 3 { lighted.cart 3 with recDue := true, copy := 1 }, 3, by decide +kernel⟩

theorem witness_LightAndLife_8a : ∃ (s : State) (e : Nat), (e < 8) ∧ (s.on = true) ∧ ((s.cart e).phase ≠ 0) ∧ ((s.cart e).known = true) ∧ ((s.cart e).recDue = true) :=
  ⟨lighted.setCart 3 { lighted.cart 3 with recDue := true, copy := 1 }, 3, by decide +kernel⟩

theorem witness_LightAndLife_9 : ∃ (s : State) (e : Nat), (e < 8) ∧ (s.on = true) ∧ ((s.cart e).phase ≠ 0) ∧ ((s.cart e).known = true) ∧ ((s.cart e).recDue = true) :=
  ⟨lighted.setCart 3 { lighted.cart 3 with recDue := true, copy := 1 }, 3, by decide +kernel⟩

theorem witness_LightAndLife_9a : ∃ (s : State) (e : Nat), (e < 8) ∧ (s.on = true) ∧ ((s.cart e).phase ≠ 0) ∧ ((s.cart e).known = true) ∧ ((s.cart e).recDue = true) :=
  ⟨lighted.setCart 3 { lighted.cart 3 with recDue := true, copy := 1 }, 3, by decide +kernel⟩

theorem witness_HeatIsWatched_1 : ∃ (s : State) (n : Nat) (v : Int), (s.on = true) ∧ (n < 88) ∧ (v < 115 * 256) :=
  ⟨owned, 87, 114 * 256, by decide +kernel⟩

theorem witness_HeatIsWatched_2 : ∃ (s : State) (n : Nat) (v : Int), (s.on = true) ∧ (n < 88) ∧ (115 * 256 ≤ v) ∧ (v ≤ 150 * 256) ∧ (s.sensorBad n = false) ∧ (v ≠ (s.sensor n).val) ∧ (s.obj Obj.thermTripped = 0) :=
  ⟨owned, 0, 115 * 256, by decide +kernel⟩

theorem witness_HeatIsWatched_3 : ∃ (s : State), (s.running = true) :=
  ⟨owned, by decide +kernel⟩

theorem witness_HeatIsWatched_4 : ∃ (s : State) (p : Nat) (g : Rot), (p < 16) ∧ (s.rotOf p = some g) ∧ (g.on = true) ∧ (s.objBit Obj.thermRotateMask p = true) ∧ (max s.clk.ticks g.next < g.hot + msT (s.obj Obj.thermRotationPeriod)) :=
  ⟨rotating, 3, ⟨0, 1, 1, true, 70, 5⟩, by decide +kernel⟩

theorem witness_HeatIsWatched_5 : ∃ (s : State) (p : Nat) (g : Rot), (p < 16) ∧ (s.rotOf p = some g) ∧ (g.on = true) ∧ (g.hot + msT (s.obj Obj.thermRotationPeriod) ≤ max s.clk.ticks g.next ∨ s.objBit Obj.thermRotateMask p = false) :=
  ⟨{ rotating with clk := { rotating.clk with ticks := 10 ^ 9 } }, 3, ⟨0, 1, 1, true, 70, 5⟩, by decide +kernel⟩

theorem witness_HeatIsWatched_5a : ∃ (s : State) (p : Nat) (g : Rot), (p < 16) ∧ (s.rotOf p = some g) ∧ (g.on = true) ∧ (g.hot + msT (s.obj Obj.thermRotationPeriod) ≤ max s.clk.ticks g.next ∨ s.objBit Obj.thermRotateMask p = false) :=
  ⟨withObjs rotating [(Obj.thermRotateMask, 0)], 3, ⟨0, 1, 1, true, 70, 5⟩, by decide +kernel⟩

theorem witness_HeatIsWatched_6 : ∃ (s : State) (u : Nat) (v : Int), (s.on = true) ∧ (u < 9) ∧ (s.hotSpot u = some v) :=
  ⟨owned.setSensor 64 { val := 60 * 256, read := true }, 0, 60 * 256, by decide +kernel⟩

theorem witness_HeatIsWatched_6a : ∃ (s : State) (u : Nat) (v : Int), (s.on = true) ∧ (u < 9) ∧ (s.hotSpot u = some v) :=
  ⟨owned.setSensor 91 { val := 98 * 256, read := true }, 8, 98 * 256, by decide +kernel⟩

theorem witness_CountersDumpsAndTrace_1 : ∃ (s : State) (fn : Nat), (s.on = true) ∧ (fn < 17) ∧ ((s.latchOf fn).next = none) :=
  ⟨owned, 0, by decide +kernel⟩

theorem witness_CountersDumpsAndTrace_1a : ∃ (s : State) (fn : Nat), (s.on = true) ∧ (fn < 17) ∧ ((s.latchOf fn).next = none) :=
  ⟨owned, 16, by decide +kernel⟩

theorem witness_CountersDumpsAndTrace_2 : ∃ (s : State) (fn : Nat) (x : Nat × Bytes), (s.on = true) ∧ (fn < 17) ∧ ((s.latchOf fn).next = some x) :=
  ⟨owned.setLatch 3 { next := some (9, [1]) }, 3, (9, [1]), by decide +kernel⟩

theorem witness_CountersDumpsAndTrace_3 : ∃ (s : State) (fn : Nat) (x : Nat × Bytes), ((s.latchOf fn).next = some x) ∧ ((s.latchOf fn).again = false) :=
  ⟨owned.setLatch 3 { next := some (9, [1]) }, 3, (9, [1]), by decide +kernel⟩

theorem witness_CountersDumpsAndTrace_4 : ∃ (s h : State) (u : HangUnit) (m : Nat), (s.on = true) ∧ (0 < s.pendingItems u) ∧ ((s.watchOf u).fired = false) ∧ (h = { (s.elapseTo (s.hangAt u)) with obs := { s.obs with watch := s.obs.watch.filter (fun x => x.1 != u) ++ [(u, { s.watchOf u with fired := true })] } }) ∧ (s.obj Obj.obsDumpHeld ≠ 1) ∧ (m = (if s.obj Obj.obsHangHalt = 1 then haltMask h.waits else 0)) :=
  ⟨withObjs (owned.setCore 37 { run := 1 }) [(Obj.obsHangHalt, 1)], _, ⟨4, 37⟩, _, by decide +kernel, by decide +kernel, by decide +kernel, rfl, by decide +kernel, rfl⟩

theorem witness_CountersDumpsAndTrace_5 : ∃ (s h : State) (u : HangUnit), (s.on = true) ∧ (0 < s.pendingItems u) ∧ ((s.watchOf u).fired = false) ∧ (h = { (s.elapseTo (s.hangAt u)) with obs := { s.obs with watch := s.obs.watch.filter (fun x => x.1 != u) ++ [(u, { s.watchOf u with fired := true })] } }) ∧ (s.obj Obj.obsDumpHeld = 1) :=
  ⟨withObjs (owned.setCore 37 { run := 1 }) [(Obj.obsDumpHeld, 1)], _, ⟨4, 37⟩, by decide +kernel, by decide +kernel, by decide +kernel, rfl, by decide +kernel⟩

theorem witness_CountersDumpsAndTrace_6 : ∃ (s : State) (u : HangUnit), (s.pendingItems u = 0 ∨ (s.watchOf u).fired = true) :=
  ⟨owned, ⟨4, 37⟩, by decide +kernel⟩

theorem witness_CountersDumpsAndTrace_7 : ∃ (s : State) (r : Req) (n : Nat), (admitted s r 0x02 n = true) ∧ (owns s r n = true) :=
  ⟨withObjs owned [(Obj.obsDumpHeld, 1)], own 5, 0, by decide +kernel⟩

theorem witness_CountersDumpsAndTrace_7a : ∃ (s : State) (r : Req) (n : Nat), (admitted s r 0x02 n = true) ∧ (owns s r n = true) :=
  ⟨{ owned with obs := { owned.obs with halted := 2 } }, own 5, 0, by decide +kernel⟩

theorem witness_CountersDumpsAndTrace_8 : ∃ (s : State) (r : Req) (n : Nat), (admitted s r 0x02 n = true) ∧ (owns s r n = true) :=
  ⟨withObjs owned [(Obj.obsDumpHeld, 1)], own 5, 0, by decide +kernel⟩

theorem witness_CountersDumpsAndTrace_8a : ∃ (s : State) (r : Req) (n : Nat), (admitted s r 0x02 n = true) ∧ (owns s r n = true) :=
  ⟨{ owned with obs := { owned.obs with halted := 2 } }, own 5, 0, by decide +kernel⟩

theorem witness_CountersDumpsAndTrace_9 : ∃ (s : State) (n : Nat), ((s.src n).buf ≠ []) ∧ ((s.src n).buf.length ≤ 62) ∧ (s.extRoom = 0) ∧ (s.obs.ring.length + 1 < 16384) ∧ (n < 8) :=
  ⟨tracing, 7, by decide +kernel⟩

theorem witness_CountersDumpsAndTrace_10 : ∃ (s : State) (n : Nat), (s.tracing n = true) ∧ (s.traceRead = false) ∧ (s.obj Obj.traceState ≠ 2) ∧ ((s.src n).lost = 0) ∧ ((s.src n).buf ≠ []) ∧ ((s.src n).buf.length + 5 < 62) ∧ ((s.src n).count + 5 < 4096) :=
  ⟨tracing, 7, by decide +kernel⟩

theorem witness_CountersDumpsAndTrace_11 : ∃ (s : State) (n : Nat), (s.tracing n = true) ∧ (s.traceRead = true) :=
  ⟨{ tracing with cu := { tracing.cu with handles := [{ rdHandle with idx := 0x1620, sub := 7 }] } }, 7, by decide +kernel⟩

theorem witness_CountersDumpsAndTrace_12 : ∃ (s : State) (k : Nat) (b : Byte), (s.dev.productionFused = 1) :=
  ⟨{ owned with dev := { owned.dev with productionFused := 1 } }, 5, 0x41, by decide +kernel⟩

theorem witness_CountersDumpsAndTrace_13 : ∃ (s : State) (b : Byte), (s.dev.productionFused ≠ 1) :=
  ⟨{ owned with dev := { owned.dev with productionFused := 0 } }, 0x41, by decide +kernel⟩

theorem witness_BundlesIssueWhole_1 : ∃ (s : State) (i : Instr) (c w slot : Nat), (wordOf i = some (c, w, slot, true)) ∧ (canJoin s c w slot = true) ∧ (bit w 31 = false) :=
  ⟨running, .wait 0 0x10000000, 0, 0x10000000, 0, by decide +kernel⟩

theorem witness_BundlesIssueWhole_1a : ∃ (s : State) (i : Instr) (c w slot : Nat), (wordOf i = some (c, w, slot, true)) ∧ (canJoin s c w slot = true) ∧ (bit w 31 = false) :=
  ⟨running, .vectorOp 0 0x20000000 31 1 2 3, 0, 0x20000000, 1, by decide +kernel⟩

theorem witness_BundlesIssueWhole_1b : ∃ (s : State) (i : Instr) (c w slot : Nat), (wordOf i = some (c, w, slot, true)) ∧ (canJoin s c w slot = true) ∧ (bit w 31 = false) :=
  ⟨running, .aew 0 0x41101000, 0, 0x41101000, 2, by decide +kernel⟩

theorem witness_BundlesIssueWhole_2 : ∃ (s : State) (i : Instr) (c w slot : Nat) (ws : List (Nat × Nat × Instr)), (wordOf i = some (c, w, slot, true)) ∧ (canJoin s c w slot = true) ∧ (bit w 31 = true) ∧ (ws = (s.core c).bundle ++ [(slot, w, i)]) ∧ ((s.runBundle ws).2 = ([], none)) :=
  ⟨running.setCore 0 { running.core 0 with bundle := [(1, 0x20000000, .vst 0 0x20000000 1 0)] }, .wait 0 0x90000000, 0, 0x90000000, 0, _, by decide +kernel, by decide +kernel, by decide +kernel, rfl, by decide +kernel⟩

theorem witness_BundlesIssueWhole_3 : ∃ (s : State) (i : Instr) (c w slot : Nat) (ws : List (Nat × Nat × Instr)), (wordOf i = some (c, w, slot, true)) ∧ (canJoin s c w slot = true) ∧ (bit w 31 = true) ∧ (ws = (s.core c).bundle ++ [(slot, w, i)]) ∧ ((s.runBundle ws).2.2.isSome = true) :=
  ⟨loaded.setCore 0 { loaded.core 0 with passes := [⟨0xC0900200, 0, 0x1000, 0, false⟩], bundle := [(1, 0x20000000, .vst 0 0x20000000 1 0)] }, .trel 0 0x98404000, 0, 0x98404000, 0, _, by decide +kernel, by decide +kernel, by decide +kernel, rfl, by decide +kernel⟩

theorem witness_BundlesIssueWhole_4 : ∃ (s : State) (i : Instr) (c w slot : Nat) (ws : List (Nat × Nat × Instr)) (f : CFault × Nat), (wordOf i = some (c, w, slot, true)) ∧ (canJoin s c w slot = true) ∧ (bit w 31 = true) ∧ (ws = (s.core c).bundle ++ [(slot, w, i)]) ∧ ((s.runBundle ws).2.2 = none) ∧ (lowestFault (s.runBundle ws).2.1 = some f) :=
  ⟨running.setCore 0 { running.core 0 with bundle := [(1, 0x20000000, .vst 0 0x20000000 1 0x3F0000)] }, .csld 0 0x98BFC002, 0, 0x98BFC002, 0, _, ({ code := 9, off := 0x3F0000 }, 0x20000000), by decide +kernel, by decide +kernel, by decide +kernel, rfl, by decide +kernel⟩

theorem witness_BundlesIssueWhole_5 : ∃ (s : State) (i : Instr) (c w slot : Nat), (wordOf i = some (c, w, slot, true)) ∧ (s.coreReady c = true) ∧ (reservedWord w = false) ∧ ((s.core c).bundle.any (fun x => x.1 == slot) = true) :=
  ⟨running.setCore 0 { running.core 0 with bundle := [(0, 0x10000000, .wait 0 0x10000000)] }, .wait 0 0x90000000, 0, 0x90000000, 0, by decide +kernel⟩

theorem witness_StepRunsTheFrontCommand_2 : ∃ (s : State), (s.pending = []) ∧ (s.on = true) :=
  ⟨owned, by decide +kernel⟩

theorem witness_StepRunsTheFrontCommand_3 : ∃ (s : State), (s.pending = []) ∧ (s.on = false) :=
  ⟨State.reset, by decide +kernel⟩

theorem witness_ResetIsOff_2 : ∃ (c : Instr), ((match c with | .porstNRelease _ => false | .perstNAssert => false | .perstNRelease => false | _ => true) = true) :=
  ⟨.rxSignalDetect 3, by decide +kernel⟩

theorem witness_OnlyTheUndefinedReleaseStops_1 : ∃ (s : State) (c : Instr), (c ≠ .porstNRelease false) :=
  ⟨owned, .perstNAssert, by decide +kernel⟩

theorem witness_OnlyTheUndefinedReleaseStops_2 : ∃ (s : State), (s.on = false) :=
  ⟨State.reset, by decide +kernel⟩

theorem witness_OnlyTheUndefinedReleaseStops_3 : ∃ (s : State), (s.on = true) :=
  ⟨owned, by decide +kernel⟩

theorem witness_RequestsBeyondTheLimit_2 : ∃ (s : State) (r : Req) (b : Body) (n : Nat) (a : Agent), (s.served r.ep = true) ∧ (quiet s = true) ∧ (s.agentAt r.ep = some n) ∧ (s.agent n = some a) ∧ (a.kept.any (fun k => k.1 == r.seq && k.2.1 == b.op) = false) ∧ ((b.op == 0x20 && a.claims.contains r.seq) = false) ∧ (Endpoint.limit r.ep ≤ s.outstanding a) :=
  ⟨withObjs (owned.setAgent 2 (some { agentOf .cfgWindow with claims := [1, 2, 3, 4] })) [(Obj.ownerAgent, 0xFF)], { own 9 with ep := .cfgWindow }, .heartbeat, 2, { agentOf .cfgWindow with claims := [1, 2, 3, 4] }, by decide +kernel⟩

theorem witness_RequestsBeyondTheLimit_3 : ∃ (s : State) (r : Req) (b : Body) (n : Nat) (a : Agent) (k : Nat × Nat × Msg), (s.served r.ep = true) ∧ (quiet s = true) ∧ (s.agentAt r.ep = some n) ∧ (s.agent n = some a) ∧ (a.kept.find? (fun k => k.1 == r.seq && k.2.1 == b.op) = some k) :=
  ⟨owned.setAgent 0 (some { agentOf .pf with kept := [(9, 0x22, { flags := 0x18, op := 0x22, agent := 0, scope := 0xFF, seq := 9, epoch := 7, abort := 0, payload := [] })] }), own 9, .heartbeat, 0, { agentOf .pf with kept := [(9, 0x22, { flags := 0x18, op := 0x22, agent := 0, scope := 0xFF, seq := 9, epoch := 7, abort := 0, payload := [] })] }, (9, 0x22, { flags := 0x18, op := 0x22, agent := 0, scope := 0xFF, seq := 9, epoch := 7, abort := 0, payload := [] }), by decide +kernel⟩

theorem witness_ResultsLeavePinnedEntries_1 : ∃ (s : State) (id i : Nat) (q : T1Req), (s.plain = false) ∧ (s.t1.reqs.find? (fun r => r.id == id) = some q) ∧ ((s.walkResult q).isSome = true) ∧ (s.findKey q.key = some i) ∧ (s.locked (s.entry i) = false) ∧ ((s.entry i).pinned = true) :=
  ⟨pinnedT1, 7, slot0, walkDone, by decide +kernel⟩

theorem witness_ResultsLeavePinnedEntries_2 : ∃ (s : State) (id i : Nat) (q : T1Req), (s.plain = false) ∧ (s.t1.reqs.find? (fun r => r.id == id) = some q) ∧ ((s.walkResult q).isSome = true) ∧ (s.findKey q.key = some i) ∧ (s.locked (s.entry i) = true) :=
  ⟨pinnedT1.setEntry slot0 { pinnedT1.entry slot0 with lock := true, owner := 2 }, 7, slot0, walkDone, by decide +kernel⟩

theorem witness_ResultsLeavePinnedEntries_3 : ∃ (s : State) (n p k : Nat) (ks : List Nat) (w : Bytes) (r : T2Req) (i : Nat), (n < 4) ∧ (p < 16) ∧ (s.netOn = true) ∧ (s.plain = false) ∧ ((s.queue (128 + 16 * n + p)).pkts = k :: ks) ∧ (((s.queue (128 + 16 * n + p)).words.take k).all (fun e => !e.poison) = true) ∧ (w = (((s.queue (128 + 16 * n + p)).words.take k).map (·.bytes)).headD []) ∧ (recOrigin w = 0xFF) ∧ (byteAt w 3 = 0) ∧ (s.t2req (leAt w 8 6) = some r) ∧ (s.clk.ticks ≤ r.deadline) ∧ ((s.remapOf r.part r.slot).kind = 0) ∧ (r.fence = (s.slot r.part r.slot).fence) ∧ (s.findKey r.key = some i) ∧ (s.locked (s.entry i) = false) ∧ ((s.entry i).pinned = true) :=
  ⟨answeredT2.setEntry slot0 { answeredT2.entry slot0 with pinned := true }, 3, 15, 1, [], resultBytes, req2, slot0, by decide +kernel⟩

theorem witness_ResultsLeavePinnedEntries_4 : ∃ (s : State) (n p k : Nat) (ks : List Nat) (w : Bytes) (r : T2Req) (i : Nat), (n < 4) ∧ (p < 16) ∧ (s.netOn = true) ∧ (s.plain = false) ∧ ((s.queue (128 + 16 * n + p)).pkts = k :: ks) ∧ (((s.queue (128 + 16 * n + p)).words.take k).all (fun e => !e.poison) = true) ∧ (w = (((s.queue (128 + 16 * n + p)).words.take k).map (·.bytes)).headD []) ∧ (recOrigin w = 0xFF) ∧ (byteAt w 3 = 0) ∧ (s.t2req (leAt w 8 6) = some r) ∧ (s.clk.ticks ≤ r.deadline) ∧ ((s.remapOf r.part r.slot).kind = 0) ∧ (r.fence = (s.slot r.part r.slot).fence) ∧ (s.findKey r.key = some i) ∧ (s.locked (s.entry i) = true) :=
  ⟨answeredT2.setEntry slot0 { answeredT2.entry slot0 with pinned := true, lock := true, owner := 2 }, 3, 15, 1, [], resultBytes, req2, slot0, by decide +kernel⟩

end Sys2Proof.Tests
end

section
/-! Every step keeps memory and flash in canonical form and the device's fixed facts (O59). `Keeps s t` says it of two states; each operation
of the model has one lemma, `Keeps.<operation>`: what holds up to a state holds up to the state that the operation makes of it. A proof
therefore reads as the operation's own definition does: `h.setEv.ctr` for `(t.setEv …).ctr …`. The lemmas stand in the order of the model's
definitions. -/
namespace Sys2Proof.Machine

/-- From `s` to `t` the facts of manufacture are the same, and memory and flash keep their canonical form. -/
structure Keeps (s t : State) : Prop where
  dev : t.dev = s.dev
  inv : Claims.Inv s → Claims.Inv t

variable {s t u : State}

/-! ### Updates of the record, conditions and loops -/

theorem Keeps.refl (s : State) : Keeps s s := ⟨rfl, id⟩
/-- An update that leaves `dev`, `flash` and `mem` as they are. -/
theorem Keeps.upd {pending out free objs boot meas clk cu pwr res x queues flow t1 m st pool isle carts heat fault obs dbg} (h : Keeps s t) :
    Keeps s ⟨pending, out, free, t.dev, objs, t.flash, t.mem, boot, meas, clk, cu, pwr, res, x, queues, flow, t1, m, st, pool, isle, carts,
      heat, fault, obs, dbg⟩ := ⟨h.dev, h.inv⟩
/-- An update that loses all of memory (R129) and leaves `dev` and `flash` as they are. -/
theorem Keeps.lost {pending out free objs boot meas clk cu pwr res x queues flow t1 m st pool isle carts heat fault obs dbg} (h : Keeps s t) :
    Keeps s ⟨pending, out, free, t.dev, objs, t.flash, [], boot, meas, clk, cu, pwr, res, x, queues, flow, t1, m, st, pool, isle, carts,
      heat, fault, obs, dbg⟩ := ⟨h.dev, fun i => ⟨rfl, (h.inv i).2⟩⟩
theorem Keeps.ite {c : Prop} [Decidable c] (h : Keeps s t) (g : Keeps s u) : Keeps s (if c then t else u) := by
  split
  · exact h
  · exact g
theorem Keeps.fst {α : Type} {a : α} (h : Keeps s t) : Keeps s (t, a).1 := h
theorem Keeps.iteFst {c : Prop} [Decidable c] {α : Type} {x y : State × α} (h : Keeps s x.1) (g : Keeps s y.1) :
    Keeps s (if c then x else y).1 := by
  split
  · exact h
  · exact g
theorem Keeps.iteSnd {c : Prop} [Decidable c] {α : Type} {x y : α × State} (h : Keeps s x.2) (g : Keeps s y.2) :
    Keeps s (if c then x else y).2 := by
  split
  · exact h
  · exact g
/-- `Keeps` of the state that an answer of a state and more carries. Said of the whole answer, so that the proof of a case of its definition
need not look through the projection. -/
def FstKeeps (s : State) {α : Type} (r : State × α) : Prop := Keeps s r.1
theorem FstKeeps.mk {α : Type} {a : α} (h : Keeps s t) : FstKeeps s (t, a) := h
theorem FstKeeps.ite {c : Prop} [Decidable c] {α : Type} {x y : State × α} (h : FstKeeps s x) (g : FstKeeps s y) :
    FstKeeps s (if c then x else y) := Keeps.iteFst h g
theorem Keeps.each {α : Type} {xs : List α} {f : State → α → State} (h : Keeps s t)
    (hf : ∀ {u x}, Keeps s u → Keeps s (f u x)) : Keeps s (t.each xs f) := each_keeps (Keeps s) xs f (fun _ _ _ hu => hf hu) t h
theorem Keeps.foldl {α : Type} {xs : List α} {f : State → α → State} (h : Keeps s t)
    (hf : ∀ {u x}, Keeps s u → Keeps s (f u x)) : Keeps s (xs.foldl f t) := h.each hf
theorem Keeps.foldlFst {α β : Type} {xs : List α} {f : State × β → α → State × β} {a : State × β} (h : Keeps s a.1)
    (hf : ∀ {b x}, Keeps s b.1 → Keeps s (f b x).1) : Keeps s (xs.foldl f a).1 := by
  induction xs generalizing a with
  | nil => exact h
  | cons x xs ih => exact ih (hf h)
theorem Keeps.foldlSnd {α β : Type} {xs : List α} {f : β × State → α → β × State} {a : β × State} (h : Keeps s a.2)
    (hf : ∀ {b x}, Keeps s b.2 → Keeps s (f b x).2) : Keeps s (xs.foldl f a).2 := by
  induction xs generalizing a with
  | nil => exact h
  | cons x xs ih => exact ih (hf h)
theorem Keeps.when {c : Bool} {f : State → State} (h : Keeps s t) (hf : ∀ {u}, Keeps s u → Keeps s (f u)) : Keeps s (t.when c f) :=
  .ite (hf h) h

/-! ### Results of instructions and of commands -/

/-- The state that an instruction leaves, if it leaves one. -/
def ResKeeps (s : State) : IRes → Prop
  | .ok t => Keeps s t
  | .fault _ => True
  | .wait _ => True

theorem ResKeeps.ok (h : Keeps s t) : ResKeeps s (.ok t) := h
theorem ResKeeps.fault {f : CFault} : ResKeeps s (.fault f) := trivial
theorem ResKeeps.wait {b : Bool} : ResKeeps s (.wait b) := trivial
theorem ResKeeps.ite {c : Prop} [Decidable c] {x y : IRes} (h : ResKeeps s x) (g : ResKeeps s y) : ResKeeps s (if c then x else y) := by
  split
  · exact h
  · exact g
theorem ResKeeps.need {b : Bool} {f : CFault} {k : IRes} (h : ResKeeps s k) : ResKeeps s (need b f k) := .ite h .fault
theorem ResKeeps.waitIf {b : Bool} {k : IRes} (h : ResKeeps s k) : ResKeeps s (waitIf b k) := .ite .wait h
theorem ResKeeps.waitBusy {b : Bool} {k : IRes} (h : ResKeeps s k) : ResKeeps s (waitBusy b k) := .ite .wait h
theorem ResKeeps.useX {k : Core} {is : List Nat} {r : IRes} (h : ResKeeps s r) : ResKeeps s (k.useX is r) := .need h
theorem ResKeeps.useV {k : Core} {is : List Nat} {r : IRes} (h : ResKeeps s r) : ResKeeps s (k.useV is r) := .need h

/-- The next state that a command answers, if it answers one. -/
def OutKeeps (s : State) : Outcome → Prop
  | .next t => Keeps s t
  | .fault _ => True
  | .refused _ => True

theorem OutKeeps.next (h : Keeps s t) : OutKeeps s (.next t) := h
theorem OutKeeps.fault {f : Fault} : OutKeeps s (.fault f) := trivial
theorem OutKeeps.ite {c : Prop} [Decidable c] {x y : Outcome} (h : OutKeeps s x) (g : OutKeeps s y) : OutKeeps s (if c then x else y) := by
  split
  · exact h
  · exact g

/-- What the write of an object does keeps. -/
def WriteKeeps (f : State → Nat → State × Nat) : Prop := ∀ {s t v}, Keeps s t → Keeps s (f t v).1

/-! ### Objects, counters, free values and the clock -/

theorem Keeps.setObj (h : Keeps s t) {k v} : Keeps s (t.setObj k v) := h.upd
theorem Keeps.addCtr (h : Keeps s t) {k n} : Keeps s (t.addCtr k n) := h.setObj
theorem Keeps.ctr (h : Keeps s t) {k} : Keeps s (t.ctr k) := h.addCtr
theorem Keeps.setObjBit (h : Keeps s t) {k i b} : Keeps s (t.setObjBit k i b) := h.setObj
theorem Keeps.fresh (h : Keeps s t) : Keeps s t.fresh.2 := h.upd
theorem Keeps.emit (h : Keeps s t) {o} : Keeps s (t.emit o) := h.upd
theorem Keeps.elapse (h : Keeps s t) {n} : Keeps s (t.elapse n) := h.upd
theorem Keeps.elapseTo (h : Keeps s t) {t'} : Keeps s (t.elapseTo t') := .ite h.elapse h

/-! ### The strait link's sending side -/

theorem Keeps.setStrait (h : Keeps s t) {i v} : Keeps s (t.setStrait i v) := h.upd
theorem Keeps.setPeer (h : Keeps s t) {d v} : Keeps s (t.setPeer d v) := h.upd
theorem Keeps.sendFlits (h : Keeps s t) {i p fuel k} : Keeps s (t.sendFlits i p fuel k) := by
  induction fuel generalizing t k with
  | zero => exact h
  | succ fuel ih => exact .ite h (ih h.setStrait.emit)
theorem Keeps.pumpStrait (h : Keeps s t) {i fuel} : Keeps s (t.pumpStrait i fuel) := by
  induction fuel generalizing t with
  | zero => exact h
  | succ fuel ih =>
    unfold State.pumpStrait
    dsimp only
    split
    · exact h
    · exact .ite (ih h.setStrait.sendFlits) h
theorem Keeps.linkFlit (h : Keeps s t) {i kind dst ack data} : Keeps s (t.linkFlit i kind dst ack data) := h.setStrait.emit
theorem Keeps.forward (h : Keeps s t) {p} : Keeps s (t.forward p) := by
  unfold State.forward
  split
  · exact h
  · exact h.setStrait.pumpStrait
theorem Keeps.sendPacket (h : Keeps s t) {ch ty dst data} : Keeps s (t.sendPacket ch ty dst data) := h.forward
theorem Keeps.sendCuhild (h : Keeps s t) {d msg} : Keeps s (t.sendCuhild d msg) := h.sendPacket

/-! ### Transports, agents and notifications, fault records, memory and flash -/

theorem Keeps.lanesUp (h : Keeps s t) {lo n} : Keeps s (t.lanesUp lo n) := h.upd
theorem Keeps.setBox (h : Keeps s t) {n b} : Keeps s (t.setBox n b) := h.upd
theorem Keeps.putRsp (h : Keeps s t) {n bs} : Keeps s (t.putRsp n bs) := h.setBox.when (·.emit)
theorem Keeps.putNtf (h : Keeps s t) {n bs} : Keeps s (t.putNtf n bs) := h.setBox.when (·.emit)
theorem Keeps.send (h : Keeps s t) {node prio note ep m'} : Keeps s (t.send node prio note ep m') := by
  unfold State.send
  dsimp only
  split
  · exact h.upd
  · exact .ite h.putNtf (.ite h.setBox h.putRsp)
  · exact .ite h.putNtf (.ite h.setBox h.putRsp)
  · exact h.each (·.emit)
  · exact h.emit
  · exact h.sendCuhild
theorem Keeps.setAgent (h : Keeps s t) {n a} : Keeps s (t.setAgent n a) := h.upd
theorem Keeps.updAgent (h : Keeps s t) {n f} : Keeps s (t.updAgent n f) := h.setAgent
theorem Keeps.pump (h : Keeps s t) {fuel n} : Keeps s (t.pump fuel n) := by
  induction fuel generalizing t with
  | zero => exact h
  | succ fuel ih =>
    unfold State.pump
    split
    · exact h
    · split
      · exact h
      · exact .ite (ih h.setAgent.send) h
theorem Keeps.note (h : Keeps s t) {n m'} : Keeps s (t.note n m') := by
  unfold State.note
  split
  · exact h
  · exact h.setAgent.when (·.ctr) |>.pump
theorem Keeps.event (h : Keeps s t) {key} : Keeps s (t.event key) := h.foldl fun h => .ite h.note h
theorem Keeps.setEv (h : Keeps s t) {k v} : Keeps s (t.setEv k v) := .ite h (.ite h.setObj.event h.setObj)
theorem Keeps.setEvBit (h : Keeps s t) {k i b} : Keeps s (t.setEvBit k i b) := h.setEv
theorem Keeps.faultRecAt (h : Keeps s t) {time cls action ukind unit part slot code detail epoch} :
    Keeps s (t.faultRecAt time cls action ukind unit part slot code detail epoch) := by
  unfold State.faultRecAt
  exact h.upd.setObj.event
theorem Keeps.faultRec (h : Keeps s t) {cls action ukind unit part slot code detail epoch} :
    Keeps s (t.faultRec cls action ukind unit part slot code detail epoch) :=
  h.faultRecAt
theorem Keeps.addLight (h : Keeps s t) {off n} : Keeps s (t.addLight off n) := h.upd
theorem Keeps.partLight (h : Keeps s t) {p i} : Keeps s (t.partLight p i) := h.addLight
theorem Keeps.stackCount (h : Keeps s t) {e} : Keeps s (t.stackCount e) := h.addCtr.addCtr.addCtr
theorem Keeps.stackErrs (h : Keeps s t) {n part addr e} : Keeps s (t.stackErrs n part addr e) := h.stackCount.when (·.faultRec)
theorem Keeps.moved (h : Keeps s t) {k n} : Keeps s (t.moved k n) := h.upd
theorem Keeps.movedStack (h : Keeps s t) {k n} : Keeps s (t.movedStack k n) := h.moved.moved
theorem Keeps.memWrite (h : Keeps s t) {a bs} : Keeps s (t.memWrite a bs) :=
  ⟨h.dev, fun i => ⟨memWrite_wf t a bs (h.inv i).1, (h.inv i).2⟩⟩
theorem Keeps.memLose (h : Keeps s t) {a n} : Keeps s (t.memLose a n) :=
  ⟨h.dev, fun i => ⟨memLose_wf t a n (h.inv i).1, (h.inv i).2⟩⟩
theorem Keeps.flashWrite (h : Keeps s t) {a bs} : Keeps s (t.flashWrite a bs) :=
  ⟨h.dev, fun i => ⟨(h.inv i).1, flashWrite_wf t a bs (h.inv i).2⟩⟩
theorem Keeps.flashErase (h : Keeps s t) {a n} : Keeps s (t.flashErase a n) :=
  ⟨h.dev, fun i => ⟨(h.inv i).1, flashErase_wf t a n (h.inv i).2⟩⟩

/-! ### Measurement -/

theorem Keeps.extend (h : Keeps s t) {i subject d} : Keeps s (t.extend i subject d) := .ite h.upd.setObj.upd h.upd.setObj.setEv
theorem Keeps.compatUpdate (h : Keeps s t) : Keeps s t.compatUpdate := h.setEv.setObj.setObj
theorem Keeps.setPair (h : Keeps s t) {n out a b} : Keeps s (t.setPair n out a b) := h.upd.compatUpdate
theorem Keeps.dropPair (h : Keeps s t) {n} : Keeps s (t.dropPair n) := h.upd.compatUpdate
theorem Keeps.measurePair (h : Keeps s t) {x' y} : Keeps s (t.measurePair x' y).1 := h.extend
theorem Keeps.decidePair (h : Keeps s t) {n x' y local_} : Keeps s (t.decidePair n x' y local_).1 := h.measurePair.setPair

/-! ### The trace -/

theorem Keeps.setSrc (h : Keeps s t) {n v} : Keeps s (t.setSrc n v) := h.upd
theorem Keeps.putFrame (h : Keeps s t) {f} : Keeps s (t.putFrame f) := .ite h.setEv (.ite h.upd.addCtr.setEv h.upd.addCtr)
theorem Keeps.closeFrame (h : Keeps s t) {n} : Keeps s (t.closeFrame n) := .ite h h.setSrc.putFrame
theorem Keeps.traceBytes (h : Keeps s t) {n fuel bs} : Keeps s (t.traceBytes n fuel bs) := by
  induction fuel generalizing t bs with
  | zero => exact h
  | succ fuel ih =>
    unfold State.traceBytes
    extract_lets v room now t1 t2
    have h2 : Keeps s t2 := .ite h.setSrc.closeFrame h.setSrc
    exact .ite h2 (ih h2)
theorem Keeps.tracePut (h : Keeps s t) {n sync bs} : Keeps s (t.tracePut n sync bs) :=
  (Keeps.ite (Keeps.ite h.closeFrame h).setSrc (.ite h.closeFrame h)).traceBytes
theorem Keeps.putSync (h : Keeps s t) {n reason} : Keeps s (t.putSync n reason) := h.fresh.tracePut.setSrc
theorem Keeps.tracePacket (h : Keeps s t) {n bs} : Keeps s (t.tracePacket n bs) := by
  refine .ite h ?_
  refine .ite h.setSrc.ctr ?_
  exact .ite (Keeps.ite h h.setSrc.tracePut.putSync).tracePut.putSync (Keeps.ite h h.setSrc.tracePut.putSync).tracePut
theorem Keeps.traceSync (h : Keeps s t) {n reason} : Keeps s (t.traceSync n reason) := .ite h.putSync h
theorem Keeps.traceResume (h : Keeps s t) : Keeps s t.traceResume := .ite h (h.each fun h => .ite h (Keeps.ite h h.setSrc.tracePut).putSync)
theorem Keeps.traceEnableWrite (h : Keeps s t) {v} : Keeps s (t.traceEnableWrite v).1 :=
  (Keeps.ite (h.each fun h => .ite h.closeFrame h).setObj.upd.setObj (h.each fun h => .ite h.closeFrame h).setObj).setEv.each (·.traceSync)
theorem Keeps.traceExtWrite (h : Keeps s t) {k v} : Keeps s (t.traceExtWrite k v).1 := .iteFst h h.setObj

/-! ### Handles and ownership -/

theorem Keeps.killHandles (h : Keeps s t) {p code} : Keeps s (t.killHandles p code) := h.upd
theorem Keeps.endDeleg (h : Keeps s t) {p} : Keeps s (t.endDeleg p) := h.setEv.killHandles
theorem Keeps.endDelegs (h : Keeps s t) : Keeps s t.endDelegs := h.each (·.endDeleg)
theorem Keeps.changeOwner (h : Keeps s t) {n prio} : Keeps s (t.changeOwner n prio) := h.endDelegs.killHandles.setObj.setObj.upd.setEv
theorem Keeps.leaseExpiry (h : Keeps s t) : Keeps s t.leaseExpiry := h.changeOwner.ctr.faultRec
theorem Keeps.deregister (h : Keeps s t) {n} : Keeps s (t.deregister n) :=
  (Keeps.ite (h.each fun h => .ite h.endDeleg h).changeOwner (h.each fun h => .ite h.endDeleg h)).upd.when (·.traceResume) |>.setAgent
theorem Keeps.deregisterIf (h : Keeps s t) {p} : Keeps s (t.deregisterIf p) := by
  refine h.each fun h => ?_
  split
  · exact .ite h.deregister h
  · exact h

/-! ### Queues -/

theorem Keeps.setQueue (h : Keeps s t) {q v} : Keeps s (t.setQueue q v) := h.upd
theorem Keeps.setEq (h : Keeps s t) {q v} : Keeps s (t.setEq q v) := h.upd
theorem Keeps.watermark (h : Keeps s t) {q was now} : Keeps s (t.watermark q was now) := h.when (·.emit)
theorem Keeps.markWork (h : Keeps s t) {q} : Keeps s (t.markWork q) := .ite h.setQueue.setObjBit.watermark h
theorem Keeps.putSettled (h : Keeps s t) {q u'} : Keeps s (t.putSettled q u') := by
  unfold State.putSettled
  exact h.setQueue.when (·.movedStack)
theorem Keeps.collDrop (h : Keeps s t) {q} : Keeps s (t.collDrop q) := h.setQueue.ctr.partLight
theorem Keeps.pushWord (h : Keeps s t) {q epoch w poison} : Keeps s (t.pushWord q epoch w poison) :=
  .ite h.ctr (.ite h.setQueue (.ite h.collDrop.setQueue (.ite h h.setQueue)))
theorem Keeps.push (h : Keeps s t) {q epoch w poison} : Keeps s (t.push q epoch w poison) := h.pushWord.markWork
theorem Keeps.commit (h : Keeps s t) {q} : Keeps s (t.commit q) := .ite h.setQueue (h.putSettled.when (·.emit))
theorem Keeps.rewind (h : Keeps s t) {q} : Keeps s (t.rewind q) := .ite h.setQueue h.setQueue.ctr.markWork
theorem Keeps.fenceProducer (h : Keeps s t) {q} : Keeps s (t.fenceProducer q) := h.setQueue.rewind
theorem Keeps.dropFront (h : Keeps s t) {q} : Keeps s (t.dropFront q) := by
  unfold State.dropFront
  dsimp only
  split
  · exact h
  · exact h.putSettled.markWork
theorem Keeps.stallPop (h : Keeps s t) {q} : Keeps s (t.stallPop q) := .ite h.setQueue.ctr h
theorem Keeps.pop (h : Keeps s t) {q bad fixed} : Keeps s (t.pop q bad fixed).2 := by
  unfold State.pop
  extract_lets +onlyGivenNames v
  clear_value v
  split
  · exact h.stallPop
  · extract_lets +onlyGivenNames counted
    have hcounted : Keeps s counted := h.when (·.addCtr)
    refine .iteSnd ?_ ?_
    · exact hcounted.addCtr.when (·.fresh.faultRec) |>.dropFront.when (·.setQueue)
    · exact .iteSnd hcounted.dropFront.setQueue hcounted.dropFront.addCtr
theorem Keeps.refillLand (h : Keeps s t) {q err} : Keeps s (t.refillLand q err) := .ite h.putSettled.movedStack.stackErrs h
theorem Keeps.tailRoom (h : Keeps s t) {q n} : Keeps s (t.tailRoom q n) := .ite h.putSettled.movedStack h
theorem Keeps.pushPacket (h : Keeps s t) {q ws} : Keeps s (t.pushPacket q ws) := (h.tailRoom.each (·.pushWord)).commit.markWork
theorem Keeps.collect (h : Keeps s t) {p c kind body} : Keeps s (t.collect p c kind body) := .ite h.collDrop h.pushPacket
theorem Keeps.loseMiddles (h : Keeps s t) {n} : Keeps s (t.loseMiddles n) :=
  h.each fun h => .ite (.ite h (h.when (·.setStrait)).putSettled.addCtr) h
theorem Keeps.markEq (h : Keeps s t) {q} : Keeps s (t.markEq q) := .ite h.setEq.watermark h.setEq.watermark.setEvBit
theorem Keeps.eqPut (h : Keeps s t) {q f} : Keeps s (t.eqPut q f) := h.setEq.markEq
theorem Keeps.eqPop (h : Keeps s t) {q} : Keeps s (t.eqPop q) := by
  unfold State.eqPop
  dsimp only
  split
  · exact h
  · exact h.setEq.markEq
theorem Keeps.eqClear (h : Keeps s t) {q} : Keeps s (t.eqClear q) := h.setEq.markEq

/-! ### Ports and meters -/

theorem Keeps.setPort (h : Keeps s t) {q p} : Keeps s (t.setPort q p) := h.upd
theorem Keeps.recheck (h : Keeps s t) : Keeps s t.recheck := .ite h.setEv h
theorem Keeps.setPortState (h : Keeps s t) {q v} : Keeps s (t.setPortState q v) := .ite h.setEv.setObjBit h.setEv.setObjBit
theorem Keeps.flush (h : Keeps s t) {q} : Keeps s (t.flush q) := .ite h h.eqClear.addCtr
theorem Keeps.beginTrain (h : Keeps s t) {q} : Keeps s (t.beginTrain q) := h.setPort
theorem Keeps.bumpEpoch (h : Keeps s t) {q} : Keeps s (t.bumpEpoch q) := h.setObj
theorem Keeps.cutOff (h : Keeps s t) {q cut} : Keeps s (t.cutOff q cut) := by
  unfold State.cutOff
  split
  · exact h
  · exact .ite h.eqPop.ctr h
theorem Keeps.portDown (h : Keeps s t) {q join cut} : Keeps s (t.portDown q join cut) := by
  refine .ite h.setPort ?_
  exact ((h.cutOff.bumpEpoch.setObj.when (·.setObj)).setPort.when (·.flush)).setPortState.deregisterIf.recheck
theorem Keeps.follow (h : Keeps s t) {k} : Keeps s (t.follow k) := .ite h.fresh.portDown.setPort h
theorem Keeps.linkLoss (h : Keeps s t) {q cut} : Keeps s (t.linkLoss q cut) := .ite h.portDown.follow h.portDown
theorem Keeps.linkDrop (h : Keeps s t) {q} : Keeps s (t.linkDrop q) := h.fresh.linkLoss
theorem Keeps.linkUp (h : Keeps s t) {q} : Keeps s (t.linkUp q) :=
  .ite (.ite h.setEq.setPort.setPortState.recheck.setPort.beginTrain h.setEq.setPort.setPortState.recheck) h
theorem Keeps.holdExpire (h : Keeps s t) {q} : Keeps s (t.holdExpire q) := .ite h.setPort.flush.setPortState h.setPort.flush
theorem Keeps.dampEnd (h : Keeps s t) {q} : Keeps s (t.dampEnd q) := h.setPort.beginTrain.setPortState
theorem Keeps.disablePort (h : Keeps s t) {q} : Keeps s (t.disablePort q) := by
  unfold State.disablePort
  extract_lets +onlyGivenNames s1 s2 port s3 s4 s5 checked
  have hchecked : Keeps s checked := (h.when (·.bumpEpoch)).flush.setPort.setPortState.deregisterIf.recheck
  exact .ite h (.ite hchecked.follow hchecked)
theorem Keeps.enablePort (h : Keeps s t) {q} : Keeps s (t.enablePort q) := .ite h.beginTrain.setPortState h
theorem Keeps.syncPort (h : Keeps s t) {q} : Keeps s (t.syncPort q) :=
  .ite h.disablePort.setPortState (.ite (h.when (·.setPortState)).enablePort (h.when (·.setPortState)).disablePort)
theorem Keeps.markMismatch (h : Keeps s t) {g} : Keeps s (t.markMismatch g) := h.setEvBit
theorem Keeps.syncPorts (h : Keeps s t) : Keeps s t.syncPorts := h.each (·.markMismatch) |>.each (·.syncPort)
theorem Keeps.modeWrite (h : Keeps s t) {line g v} : Keeps s (t.modeWrite line g v) := by
  unfold State.modeWrite
  extract_lets +onlyGivenNames base qs disabled written marked synced
  have hwritten : Keeps s written := (h.when fun h => h.each (·.disablePort)).setObj
  have hsynced : Keeps s synced := hwritten.markMismatch.each (·.syncPort)
  exact .ite (.ite (hsynced.each fun h => .ite h.linkDrop h) hsynced) hwritten
theorem Keeps.trainTimeout (h : Keeps s t) {q} : Keeps s (t.trainTimeout q) := by
  unfold State.trainTimeout
  split
  · exact h
  · exact h.elapseTo.setPort.setObj
theorem Keeps.enqueue (h : Keeps s t) {q bytes c} : Keeps s (t.enqueue q bytes c) := .ite h.ctr h.eqPut
theorem Keeps.egress (h : Keeps s t) {q bytes c} : Keeps s (t.egress q bytes c) := by
  unfold State.egress
  split
  · exact h.enqueue
  · exact h.ctr
  · exact h.ctr
  · exact h
theorem Keeps.egressCopy (h : Keeps s t) {full q bytes c} : Keeps s (t.egressCopy full q bytes c) := by
  unfold State.egressCopy
  split
  · exact h.enqueue
  · exact h.ctr
  · exact h.ctr
  · exact h
theorem Keeps.transmit (h : Keeps s t) {q bad fixed late} : Keeps s (t.transmit q bad fixed late) := by
  unfold State.transmit
  split
  · exact h
  · extract_lets +onlyGivenNames popped len fixed marked
    have hpop : Keeps s popped := h.eqPop
    have hmarked : Keeps s marked := hpop.addCtr.when (·.addCtr.ctr.faultRec)
    refine .ite h ?_
    refine .ite hpop.ctr ?_
    refine .ite hmarked.ctr.emit.addLight.addLight ?_
    exact .ite hmarked hmarked.emit.addLight.addLight

/-! ### The flow table -/

theorem Keeps.setEntry (h : Keeps s t) {i e} : Keeps s (t.setEntry i e) := h.upd
theorem Keeps.setRec (h : Keeps s t) {i r} : Keeps s (t.setRec i r) := h.upd
theorem Keeps.placeRec (h : Keeps s t) {i r} : Keeps s (t.placeRec i r) := .ite h.setRec.ctr h.setRec
theorem Keeps.clearSlot (h : Keeps s t) {i} : Keeps s (t.clearSlot i) := h.setEntry.setRec.upd
theorem Keeps.setTag (h : Keeps s t) {t' v} : Keeps s (t.setTag t' v) := h.upd
theorem Keeps.eccSlot (h : Keeps s t) {i} : Keeps s (t.eccSlot i) := h.clearSlot.ctr.faultRec
theorem Keeps.moveSlot (h : Keeps s t) {dst src} : Keeps s (t.moveSlot dst src) := h.setEntry.setEntry.setRec.placeRec.upd.ctr
theorem Keeps.moveChain (h : Keeps s t) {js} : Keeps s (t.moveChain js).1 := by
  induction js generalizing t with
  | nil => exact h
  | cons j js ih =>
    cases js with
    | nil => exact h
    | cons i rest => exact ih h.moveSlot
theorem Keeps.seek (h : Keeps s t) {k} : Keeps s (t.seek k).1 := by
  refine .iteFst h ?_
  split
  · exact h
  · split
    · exact h
    · dsimp only
      split
      · exact h
      · exact h.moveChain
theorem Keeps.learn (h : Keeps s t) : Keeps s t.learn.1 := by
  unfold State.learn
  split
  · exact h
  · next p rest _ =>
    extract_lets +onlyGivenNames flow t1
    have h1 : Keeps s t1 := h.upd
    have hs : Keeps s (t1.seek p.key).1 := h1.seek
    generalize t1.seek p.key = r at hs ⊢
    obtain ⟨t2, r⟩ := r
    cases r with
    | quota => exact .ctr hs
    | present i => exact hs
    | kicks => exact .ctr hs
    | free i => exact hs.upd.setEntry.placeRec.ctr
theorem Keeps.markFlooded (h : Keeps s t) {k} : Keeps s (t.markFlooded k) := .ite h h.upd
theorem Keeps.applyStat (h : Keeps s t) : Keeps s t.applyStat := by
  unfold State.applyStat
  split
  · exact h
  · dsimp only
    split
    · exact h.upd
    · exact h.upd.setEntry
theorem Keeps.setTrie (h : Keeps s t) {target i v} : Keeps s (t.setTrie target i v) := .ite h h.upd
theorem Keeps.trieLookup (h : Keeps s t) {family a} : Keeps s (t.trieLookup family a).1 := by
  refine .iteFst h ?_
  dsimp only
  split
  · exact .iteFst h h.ctr
  · exact h.ctr

/-! ### Tier 1 -/

theorem Keeps.setSlot (h : Keeps s t) {p n v} : Keeps s (t.setSlot p n v) := h.upd
theorem Keeps.applyVerdict (h : Keeps s t) {i tier verdict score epoch time} : Keeps s (t.applyVerdict i tier verdict score epoch time) :=
  (Keeps.ite h.collect.ctr.partLight h).setEntry
theorem Keeps.tierResult (h : Keeps s t) {k tier verdict score epoch time} : Keeps s (t.tierResult k tier verdict score epoch time).1 := by
  refine .iteFst h ?_
  split
  · exact h.applyVerdict
  · exact h.ctr
  · exact h.ctr
  · exact h.ctr
  · exact h.ctr
theorem Keeps.pinEns (h : Keeps s t) {b d} : Keeps s (t.pinEns b d) := h.upd
theorem Keeps.pruneEns (h : Keeps s t) : Keeps s t.pruneEns := h.upd
theorem Keeps.setT1 (h : Keeps s t) {q} : Keeps s (t.setT1 q) := h.upd
theorem Keeps.dropT1 (h : Keeps s t) {id} : Keeps s (t.dropT1 id) := h.upd.pruneEns
theorem Keeps.abandonT1 (h : Keeps s t) {id} : Keeps s (t.abandonT1 id) := h.dropT1.ctr
theorem Keeps.takeTree (h : Keeps s t) {id i} : Keeps s (t.takeTree id i) := by
  unfold State.takeTree
  split
  · exact h
  · split
    · exact h
    · exact .ite h (.ite h.setT1 (.ite h.setT1.ctr h.abandonT1))
theorem Keeps.feed (h : Keeps s t) : Keeps s t.feed := h.each fun h => h.each (·.takeTree)
theorem Keeps.startWalk (h : Keeps s t) {k r bad} : Keeps s (t.startWalk k r bad) := by
  unfold State.startWalk
  split
  · exact h
  · exact .ite h.ctr (.ite h.addCtr.ctr.fresh.ctr.ctr.faultRec h.addCtr.ctr.upd.feed)
theorem Keeps.abandonStack (h : Keeps s t) {n} : Keeps s (t.abandonStack n) := h.each (·.abandonT1)
theorem Keeps.nodeFetched (h : Keeps s t) {id tree check} : Keeps s (t.nodeFetched id tree check) := by
  unfold State.nodeFetched
  split
  · exact h
  · split
    · exact h
    · refine .ite h ?_
      refine .ite h.movedStack.abandonT1.ctr.faultRec.feed ?_
      exact .ite (h.movedStack.when (·.ctr)).setT1.feed (h.movedStack.when (·.ctr)).setT1.ctr
theorem Keeps.recordUpdate (h : Keeps s t) {slot m' req} : Keeps s (t.recordUpdate slot m' req).1 := by
  refine .iteFst h.ctr ?_
  dsimp only
  split
  · exact h.upd
  · split
    · exact h.setRec.ctr
    · exact .iteFst h.setRec (.iteFst h.ctr h.upd.ctr)

/-! ### Straits -/

theorem Keeps.bulkPut (h : Keeps s t) {i fuel} : Keeps s (t.bulkPut i fuel) := by
  induction fuel generalizing t with
  | zero => exact h
  | succ fuel ih =>
    unfold State.bulkPut
    dsimp only
    split
    · exact h
    · exact .ite h (ih h.pushPacket.setStrait)
theorem Keeps.sendBulk (h : Keeps s t) {ty dst data} : Keeps s (t.sendBulk ty dst data) := by
  unfold State.sendBulk
  split
  · exact h
  · exact h.setStrait.bulkPut
theorem Keeps.bulkPop (h : Keeps s t) {i bad fixed} : Keeps s (t.bulkPop i bad fixed) := by
  unfold State.bulkPop
  extract_lets +onlyGivenNames v q waiting
  split
  · exact h
  · refine .ite ?_ h
    extract_lets +onlyGivenNames popped r bulk t1
    have h1 : Keeps s t1 := .ite h.pop.setStrait.bulkPut h.pop
    split
    · exact h1.sendFlits
    · exact h1
theorem Keeps.setStraitState (h : Keeps s t) {i v} : Keeps s (t.setStraitState i v) := h.setEv.setEvBit
theorem Keeps.straitTrain (h : Keeps s t) {i} : Keeps s (t.straitTrain i) := h.setStrait.setStraitState
theorem Keeps.straitAgents (h : Keeps s t) {i} : Keeps s (t.straitAgents i) := by
  unfold State.straitAgents
  exact h.deregisterIf
theorem Keeps.reroute (h : Keeps s t) {out} : Keeps s (t.reroute out) := h.each (·.forward)
theorem Keeps.straitDown (h : Keeps s t) {i} : Keeps s (t.straitDown i) :=
  h.straitAgents.fenceProducer.setStrait.upd.setObj.setStraitState.reroute.faultRec
theorem Keeps.resend (h : Keeps s t) {i seq} : Keeps s (t.resend i seq) :=
  .ite h (.ite h.straitDown (h.each (·.emit)).setStrait.addCtr.setObj)
theorem Keeps.acked (h : Keeps s t) {i ack credit} : Keeps s (t.acked i ack credit) := h.setStrait.pumpStrait
theorem Keeps.flitBad (h : Keeps s t) {i} : Keeps s (t.flitBad i) := h.ctr.setObj
theorem Keeps.flitNak (h : Keeps s t) {i} : Keeps s (t.flitNak i) := .ite h.flitBad h.flitBad.setStrait.linkFlit
theorem Keeps.straitInit (h : Keeps s t) {i} : Keeps s (t.straitInit i) := h.setStrait.setStraitState.linkFlit
theorem Keeps.straitUpNow (h : Keeps s t) {i peer credits} : Keeps s (t.straitUpNow i peer credits) :=
  h.setStrait.setObj.setStraitState.lanesUp.pumpStrait
theorem Keeps.straitDisable (h : Keeps s t) {i} : Keeps s (t.straitDisable i) := .ite h h.straitAgents.setStrait.setStraitState.reroute

/-! ### The registry -/

theorem Keeps.setReg (h : Keeps s t) {e v} : Keeps s (t.setReg e v) := h.upd
theorem Keeps.sendReg (h : Keeps s t) {d es} : Keeps s (t.sendReg d es) := .ite h (h.each (·.sendPacket))
theorem Keeps.announce (h : Keeps s t) {es} : Keeps s (t.announce es) := .ite h (h.each (·.sendReg))
theorem Keeps.addOwn (h : Keeps s t) {e} : Keeps s (t.addOwn e) := by
  unfold State.addOwn
  split
  · exact h.setReg.announce
  · exact h
theorem Keeps.dropReg (h : Keeps s t) {i} : Keeps s (t.dropReg i) := .ite h.setReg.announce h.setReg
theorem Keeps.setRot (h : Keeps s t) {p r} : Keeps s (t.setRot p r) := h.upd
theorem Keeps.endRotation (h : Keeps s t) {p} : Keeps s (t.endRotation p) := by
  unfold State.endRotation
  split
  · exact h
  · exact h.setRot.when (·.ctr) |>.setEvBit
theorem Keeps.relist (h : Keeps s t) {p n} : Keeps s (t.relist p n) := by
  unfold State.relist
  dsimp only
  split
  · exact .ite (h.each (·.dropReg)) (h.each (·.dropReg)).addOwn
  · exact h.each (·.dropReg)
theorem Keeps.setSlotState (h : Keeps s t) {p n v} : Keeps s (t.setSlotState p n v) := h.setEv.relist.when (·.endRotation)
theorem Keeps.setRegion (h : Keeps s t) {r v} : Keeps s (t.setRegion r v) := h.upd
theorem Keeps.opFault (h : Keeps s t) {p n} : Keeps s (t.opFault p n) := .ite h.setSlot h.setSlot.setSlot.setObj.setSlotState

/-! ### Isles and cores -/

theorem Keeps.setCore (h : Keeps s t) {c k} : Keeps s (t.setCore c k) := h.upd
theorem Keeps.setMarr (h : Keeps s t) {i a} : Keeps s (t.setMarr i a) := h.upd
theorem Keeps.setSched (h : Keeps s t) {n v} : Keeps s (t.setSched n v) := h.upd
theorem Keeps.statQ (h : Keeps s t) {c q} : Keeps s (t.statQ c q) := (h.upd.when (·.ctr)).addCtr.addCtr.when (·.ctr) |>.when (·.ctr)
theorem Keeps.opCount (h : Keeps s t) {c f} : Keeps s (t.opCount c f) := h.when (·.ctr) |>.upd
theorem Keeps.advance (h : Keeps s t) {c n} : Keeps s (t.advance c n) := h.setCore.opCount.addLight
theorem Keeps.coreFault (h : Keeps s t) {c f w pc} : Keeps s (t.coreFault c f w pc) := by
  unfold State.coreFault
  extract_lets +onlyGivenNames k n k' k'' s1 r isle s2 s3 s4 a s5 isle' s6
  have h4 : Keeps s s4 := h.setCore.upd.ctr.addCtr.when (·.ctr)
  have h6 : Keeps s s6 := .ite h4.ctr.upd h4
  refine .event (.ite ?_ h6)
  split
  · exact h6.opFault
  · exact h6
theorem Keeps.storeEcc (h : Keeps s t) {c addr} : Keeps s (t.storeEcc c addr) := h.ctr.faultRec
theorem Keeps.freeTag (h : Keeps s t) : Keeps s t.freeTag.2 := h.fresh
theorem Keeps.wakeQuad (h : Keeps s t) {q} : Keeps s (t.wakeQuad q) := .ite h.upd h.upd
theorem Keeps.startCmd (h : Keeps s t) {c m'} : Keeps s (t.startCmd c m') := .ite h.wakeQuad.setCore.setSched.coreFault h.wakeQuad.setCore
theorem Keeps.handCmd (h : Keeps s t) {c m'} : Keeps s (t.handCmd c m') := .ite h.startCmd h.setCore
theorem Keeps.giveCmd (h : Keeps s t) {c m'} : Keeps s (t.giveCmd c m') := .ite h.handCmd h.setSched
theorem Keeps.refill (h : Keeps s t) {fuel c} : Keeps s (t.refill fuel c) := by
  induction fuel generalizing t with
  | zero => exact h
  | succ fuel ih =>
    unfold State.refill
    dsimp only
    split
    · exact h
    · exact .ite (ih h.setSched.handCmd) h
theorem Keeps.refillPort (h : Keeps s t) {c} : Keeps s (t.refillPort c) := h.refill
theorem Keeps.endCmd (h : Keeps s t) {c} : Keeps s (t.endCmd c) := by
  unfold State.endCmd
  dsimp only
  split
  · exact h.setSched.setCore.startCmd.refillPort
  · exact h.setSched.setCore.refillPort
theorem Keeps.loseIsle (h : Keeps s t) {n} : Keeps s (t.loseIsle n) := h.upd.memLose.memLose

/-! ### Array instructions -/

theorem Keeps.acfgWord (h : Keeps s t) {core w} : ResKeeps s (acfgWord core w t) := .waitBusy (.need (.ok h.setCore))
theorem Keeps.wldWord (h : Keeps s t) {core w} : ResKeeps s (wldWord core w t) :=
  .waitBusy (.waitIf (.need (.need (.need (.need (.need (.ok h.setCore)))))))
theorem Keeps.trySave (h : Keeps s t) {c} : Keeps s (t.trySave c) := .ite h.memWrite.ctr.addCtr.setCore h
theorem Keeps.upsetCells (h : Keeps s t) {core us} : Keeps s (t.upsetCells core us) := h.each (·.setMarr)
theorem Keeps.execWldComplete (h : Keeps s t) {core upsets} : OutKeeps s (execWldComplete core upsets t) := by
  refine .next ?_
  split
  · exact h
  · extract_lets +onlyGivenNames mask s1 loaded
    have hloaded : Keeps s loaded := (h.each (·.setMarr)).upsetCells
    refine .ite h ?_
    split
    · exact hloaded.setCore.coreFault
    · exact hloaded.setCore.ctr.opCount.trySave
theorem Keeps.stream (h : Keeps s t) {core w k} : ResKeeps s (t.stream core w k) :=
  .useX (.waitBusy (.waitIf (.need (.need (.need (.need (.need (.need (.need (.need (.need (.ok h.setCore))))))))))))
theorem Keeps.astrWord (h : Keeps s t) {core w} : ResKeeps s (astrWord core w t) := h.stream
theorem Keeps.astrTWord (h : Keeps s t) {core w} : ResKeeps s (astrTWord core w t) := h.stream
theorem Keeps.aewWord (h : Keeps s t) {core w} : ResKeeps s (aewWord core w t) := h.stream
theorem Keeps.execAstrChunkCommit (h : Keeps s t) {core mask upsets} : OutKeeps s (execAstrChunkCommit core mask upsets t) := by
  refine .next ?_
  split
  · exact h
  · refine .ite h ?_
    dsimp only
    split
    · exact h.upsetCells.coreFault
    · exact h.upsetCells.setCore.addCtr.addCtr.addCtr.opCount.trySave
theorem Keeps.rqWord (h : Keeps s t) {core w} : ResKeeps s (rqWord core w t) := by
  refine .useX ?_
  extract_lets +onlyGivenNames c q first count dst cs ct corr g toA ty bell rows
  refine .waitIf (.need (.need (.need (.need (.need (.need (.need (.need ?_))))))))
  extract_lets +onlyGivenNames js
  refine .need ?_
  extract_lets +onlyGivenNames ys
  refine .need (.ite ?_ ?_)
  · extract_lets qs k' ks
    have hks : Keeps s ks.2 := .iteSnd (.foldlSnd h (·.freeTag)) h
    exact .ok hks.setCore.statQ
  · extract_lets vals per ks
    have hks : Keeps s ks.2 := .foldlSnd h (·.freeTag)
    exact .ok hks.setCore
theorem Keeps.rstatWord (h : Keeps s t) {core w} : ResKeeps s (rstatWord core w t) :=
  .useX (.waitIf (.need (.need (.need (.need (.ok h.setCore))))))

/-! ### Tile instructions -/

theorem Keeps.tcfgWord (h : Keeps s t) {core w} : ResKeeps s (tcfgWord core w t) := by
  refine .useX (.waitBusy ?_)
  dsimp only
  split
  · exact .fault
  · exact .ok h.setCore
theorem Keeps.trelWord (h : Keeps s t) {core w} : ResKeeps s (trelWord core w t) := .waitIf (.ok h.setCore)
theorem Keeps.csldWord (h : Keeps s t) {core w} : ResKeeps s (csldWord core w t) := .useX (.need (.need (.ok h.setCore)))
theorem Keeps.loadRows (h : Keeps s t) {core w width conv ok ecc k} : ResKeeps s (t.loadRows core w width conv ok ecc k) :=
  .useX (.waitIf (.need (.need (.need (.ok (h.each (·.storeEcc)).setCore)))))
theorem Keeps.tldWord (h : Keeps s t) {core w eccRows} : ResKeeps s (tldWord core w eccRows t) := h.loadRows
theorem Keeps.tldCvExpandWord (h : Keeps s t) {core w eccRows} : ResKeeps s (tldCvExpandWord core w eccRows t) := h.loadRows
theorem Keeps.tldCvWidenWord (h : Keeps s t) {core w eccRows} : ResKeeps s (tldCvWidenWord core w eccRows t) := h.loadRows
theorem Keeps.putSides (h : Keeps s t) {k q t' first} : Keeps s (t.putSides k q t' first).2 := .foldlSnd h (·.freeTag)
theorem Keeps.tldCvQuantiseWord (h : Keeps s t) {core w eccRows} :
    ResKeeps s (tldCvQuantiseWord core w eccRows t) :=
  .useX (.waitIf (.need (.need (.need (.need (.need (.need (.ok
    (Keeps.iteSnd (h.each (·.storeEcc)).putSides (h.each (·.storeEcc))).setCore.statQ))))))))
theorem Keeps.tstWord (h : Keeps s t) {core w} : ResKeeps s (tstWord core w t) :=
  .useX (.waitIf (.need (.need (.need (.need (.ok h.memWrite))))))

/-! ### Regions, requests and slots -/

theorem Keeps.hbmApply (h : Keeps s t) : Keeps s t.hbmApply.1 :=
  .iteFst (.iteFst h (.iteFst h h.setRegion)) (.iteFst h (.iteFst h (.iteFst h (.iteFst h h.setRegion))))
theorem Keeps.freeReq (h : Keeps s t) {seq} : Keeps s (t.freeReq seq) := h.upd
theorem Keeps.setReq (h : Keeps s t) {seq r} : Keeps s (t.setReq seq r) := h.upd
theorem Keeps.clearT2 (h : Keeps s t) {k} : Keeps s (t.clearT2 k) := by
  unfold State.clearT2
  split
  · exact h
  · exact .ite h h.setEntry
theorem Keeps.withdraw (h : Keeps s t) {r} : Keeps s (t.withdraw r) := h.freeReq.clearT2.ctr.when (·.ctr)
theorem Keeps.rewindRecord (h : Keeps s t) {seq} : Keeps s (t.rewindRecord seq) := by
  unfold State.rewindRecord
  split
  · exact h
  · exact h.freeReq.clearT2.ctr
theorem Keeps.withdrawAll (h : Keeps s t) {f} : Keeps s (t.withdrawAll f) := h.each (·.withdraw)
theorem Keeps.setRemap (h : Keeps s t) {p n v} : Keeps s (t.setRemap p n v) := .ite h h.upd.event
theorem Keeps.setCredit (h : Keeps s t) {d w v} : Keeps s (t.setCredit d w v) := h.upd
theorem Keeps.postWork (h : Keeps s t) {r} : Keeps s (t.postWork r) := by
  refine .ite h ?_
  refine .ite ?_ ?_
  · split
    · exact h
    · exact h.setCredit.setReq.sendPacket.ctr
  · exact .ite h.setReq.pushPacket h
theorem Keeps.flushWork (h : Keeps s t) : Keeps s t.flushWork := (h.each (·.postWork)).upd.each fun h => .ite h.pushPacket h.upd
theorem Keeps.sendWork (h : Keeps s t) {r vec} : Keeps s (t.sendWork r vec) := h.setReq.postWork
theorem Keeps.formVector (h : Keeps s t) {seq} : Keeps s (t.formVector seq) := by
  unfold State.formVector
  split
  · exact h
  · split
    · exact h.withdraw
    · split
      · exact h.withdraw
      · exact h.addCtr.sendWork
theorem Keeps.t2Make (h : Keeps s t) {i n again time} : Keeps s (t.t2Make i n again time).1 := by
  unfold State.t2Make
  dsimp only
  split
  · exact h.ctr
  · exact h.setEntry.upd.ctr.partLight.when (·.ctr)
theorem Keeps.addReissue (h : Keeps s t) {r} : Keeps s (t.addReissue r) := by
  refine .formVector (.ctr ?_)
  split
  · exact .ite h.upd h.upd.setEntry
  · exact h.upd
theorem Keeps.reissue (h : Keeps s t) {r} : Keeps s (t.reissue r).1 := .iteFst h.withdraw.addReissue h.withdraw
theorem Keeps.armBlock (h : Keeps s t) {quads pos weights m'} : Keeps s (t.armBlock quads pos weights m') := by
  unfold State.armBlock
  split
  · exact h
  · exact .ite (h.each (·.setMarr)).setCore (.ite h.setCore.memWrite (.ite h.setCore.memWrite h.setCore))
theorem Keeps.armEscape (h : Keeps s t) {quads weights e} : Keeps s (t.armEscape quads weights e) := by
  unfold State.armEscape
  split
  · exact h
  · exact h.memWrite
theorem Keeps.armSlot (h : Keeps s t) {p n} : Keeps s (t.armSlot p n) := by
  unfold State.armSlot
  dsimp only
  split
  · exact h.setSlot
  · refine .setSlot ?_
    refine .each ?_ (·.wakeQuad)
    refine .each ?_ (·.armBlock)
    refine .each ?_ (·.armEscape)
    refine .each ?_ (·.memWrite)
    refine .each ?_ (·.setCore.memWrite)
    split
    · exact h.movedStack
    · exact h
theorem Keeps.disarm (h : Keeps s t) {p n} : Keeps s (t.disarm p n) := .ite (h.each (·.setCore)).setSlot h
theorem Keeps.sendLock (h : Keeps s t) {holder entry epoch status} : Keeps s (t.sendLock holder entry epoch status) := h.sendPacket
theorem Keeps.sendSegReq (h : Keeps s t) {holder entry epoch off len} : Keeps s (t.sendSegReq holder entry epoch off len) := h.sendPacket
theorem Keeps.setSlotLock (h : Keeps s t) {i v} : Keeps s (t.setSlotLock i v) := h.upd
theorem Keeps.releaseLock (h : Keeps s t) {p n} : Keeps s (t.releaseLock p n) := by
  refine .upd ?_
  refine .setSlotLock ?_
  split
  · exact h.sendLock
  · exact h
theorem Keeps.setPartSw (h : Keeps s t) {p v} : Keeps s (t.setPartSw p v) := h.upd
theorem Keeps.emptySlot (h : Keeps s t) {p n} : Keeps s (t.emptySlot p n) := by
  unfold State.emptySlot
  extract_lets +onlyGivenNames s1 s2 u keep v s3 s4 s5 s6 empty
  have hempty : Keeps s empty := (h.withdrawAll.disarm.setSlot.pruneEns.dropPair.releaseLock.setRemap.setObj.when (·.setEv)).setSlotState
  exact .ite hempty.setPartSw.setEv hempty
theorem Keeps.dropKept (h : Keeps s t) {p n} : Keeps s (t.dropKept p n) := .ite h.setSlot.pruneEns h
theorem Keeps.loseSections (h : Keeps s t) : Keeps s t.loseSections := h.upd.pruneEns
theorem Keeps.slotLoadWrite (h : Keeps s t) {p n v} : Keeps s (t.slotLoadWrite p n v).1 := by
  unfold State.slotLoadWrite
  extract_lets +onlyGivenNames peer e g q old set locked
  have hlocked : Keeps s locked := h.setObj.setSlot.when (·.setSlotLock.sendLock)
  refine .iteFst h ?_
  refine .iteFst h ?_
  refine .iteFst h ?_
  refine .iteFst h ?_
  refine .iteFst h (.setSlotState ?_)
  split
  · exact .ite hlocked hlocked.upd
  · exact hlocked
theorem Keeps.loadFail (h : Keeps s t) {p n st} : Keeps s (t.loadFail p n st) :=
  .ite h.setObj.setEv.setSlot.setSlotState h.setObj.setEv.setSlot.emptySlot
theorem Keeps.loadAccept (h : Keeps s t) {p n b pl pair} : Keeps s (t.loadAccept p n b pl pair) := by
  unfold State.loadAccept
  extract_lets +onlyGivenNames u peer base es dig t2 reg pr e1 e2 v s1 s2 s3 s4 s5 set
  have hset : Keeps s set := (h.disarm.setSlot.when (·.pinEns)).pruneEns.setPair.setObj.setObj.setEv
  exact .ite hset.setSlotState hset.armSlot.setSlotState
theorem Keeps.loadComplete (h : Keeps s t) {p n err} : Keeps s (t.loadComplete p n err) := by
  unfold State.loadComplete
  extract_lets +onlyGivenNames u
  clear_value u
  split
  · exact h
  · extract_lets +onlyGivenNames peer isle b room res read extended y x r measured
    have hread : Keeps s read := .ite h h.movedStack.stackErrs
    have hmeasured : Keeps s measured := .iteFst hread.extend.measurePair hread.extend
    clear_value read measured
    refine .ite h ?_
    refine .ite h.ctr.loadFail ?_
    refine .ite h.loadFail ?_
    refine .ite h.upd ?_
    refine .ite h ?_
    refine .ite hread.loadFail ?_
    refine .ite hread.loadFail ?_
    refine .ite hmeasured.loadFail ?_
    refine .ite hmeasured.loadFail ?_
    refine .ite hmeasured.loadFail ?_
    refine .ite hmeasured.loadFail ?_
    refine .ite hmeasured.loadAccept ?_
    refine .ite hmeasured.loadFail ?_
    split
    · exact hmeasured.loadFail
    · exact hmeasured.loadAccept
theorem Keeps.slotUnloadWrite (h : Keeps s t) {p n v} : Keeps s (t.slotUnloadWrite p n v).1 := .iteFst h (.iteFst h h.emptySlot)
theorem Keeps.swap (h : Keeps s t) {p t2 t1 gap} : Keeps s (t.swap p t2 t1 gap).1 := by
  unfold State.swap
  extract_lets +onlyGivenNames ok old new changes s1 o1 n1 s2 s3 s4 drains s5
  have h3 : Keeps s s3 := h.setEv.setObj.when (·.dropKept)
  have h5 : Keeps s s5 := .ite h3.setEv.setSlotState h3.setEv
  refine .iteFst h ?_
  refine .iteFst h ?_
  refine .iteFst h ?_
  exact .iteFst h3 (h5.when (·.setSlotState)).setPartSw.setEv
theorem Keeps.swapWrite (h : Keeps s t) {p v} : Keeps s (t.swapWrite p v).1 := h.swap
theorem Keeps.t1SlotWrite (h : Keeps s t) {p v} : Keeps s (t.t1SlotWrite p v).1 := h.swap
theorem Keeps.slotErrs (h : Keeps s t) {p n err} : Keeps s (t.slotErrs p n err) := by
  unfold State.slotErrs
  split
  · exact h.stackErrs
  · exact h
theorem Keeps.drainDone (h : Keeps s t) {p} : Keeps s (t.drainDone p) := by
  unfold State.drainDone
  extract_lets +onlyGivenNames w
  split
  · exact h
  · refine .ite h ?_
    extract_lets +onlyGivenNames t1
    have h1 : Keeps s t1 := h.setPartSw
    split
    · exact (Keeps.ite h1.setSlotState h1).setEv
    · extract_lets +onlyGivenNames t2
      have h2 : Keeps s t2 := .ite h1.emptySlot h1
      exact .ite h2.setSlot h2.setPartSw.setEv
theorem Keeps.gapArmed (h : Keeps s t) {p ok err} : Keeps s (t.gapArmed p ok err) := by
  unfold State.gapArmed
  dsimp only
  split
  · exact h
  · refine .ite h ?_
    exact .ite h.upd (.ite h.slotErrs.setPartSw.setEv.armSlot.setSlotState h.slotErrs.setPartSw.setEv.setEv.setObj.emptySlot)
theorem Keeps.rearm (h : Keeps s t) {p n ok err} : Keeps s (t.rearm p n ok err) := by
  refine .ite h ?_
  split
  · exact h
  · exact .ite h (.ite h.slotErrs.armSlot h.slotErrs.setEv.emptySlot)
theorem Keeps.t2Write (h : Keeps s t) {r out epoch} : Keeps s (t.t2Write r out epoch) :=
  h.tierResult.when (·.partLight.partLight) |>.freeReq

/-! ### Frames crossing the device -/

theorem Keeps.setMeter (h : Keeps s t) {i m'} : Keeps s (t.setMeter i m') := h.upd
theorem Keeps.measure (h : Keeps s t) {i n} : Keeps s (t.measure i n).1 := .iteFst h.setMeter (.iteFst h.setMeter h.setMeter)
theorem Keeps.meterApplyWrite (h : Keeps s t) {v} : Keeps s (t.meterApplyWrite v).1 := .iteFst h (.iteFst h h.setMeter)
theorem Keeps.tagFrame (h : Keeps s t) {port part v p b} : Keeps s (t.tagFrame port part v p b).1 := .iteFst (.iteFst h (.iteFst h.ctr h)) h
theorem Keeps.leave (h : Keeps s t) {port part f p v} : Keeps s (t.leave port part f p v).1 := by
  show FstKeeps s _
  unfold State.leave
  extract_lets +onlyGivenNames bad act prm out w tagged named
  have hw : Keeps s w := h.partLight
  have htag {u b} (hu : Keeps s u) : Keeps s (tagged u b).1 := hu.tagFrame
  clear_value act w tagged
  split
  · exact .mk (htag hw).egress
  · exact .mk (htag hw).egress
  · exact .mk (.ite (htag hw).egress.egressCopy (htag hw).egress.ctr)
  · exact .ite (.mk hw.measure) (.mk (htag hw.measure).egress)
  · exact .ite (.mk (htag hw).egress) (.mk hw.ctr)
  · exact .mk hw
theorem Keeps.leaveDefault (h : Keeps s t) {port k f p hit} : Keeps s (t.leaveDefault port k f p hit).1 := h.partLight.leave
theorem Keeps.flood (h : Keeps s t) {port k f p hit} : Keeps s (t.flood port k f p hit) := h.leaveDefault.ctr.partLight.each (·.egressCopy)
theorem Keeps.setHolds (h : Keeps s t) {n hs} : Keeps s (t.setHolds n hs) := h.upd
theorem Keeps.countHeld (h : Keeps s t) {k} : Keeps s (t.countHeld k) := by
  unfold State.countHeld
  split
  · exact .ite h h.setEntry
  · exact h.upd
theorem Keeps.release (h : Keeps s t) {hs} {go : State → HeldKey → Bool → FrameIn → State}
    (hgo : ∀ {u k hit f}, Keeps s u → Keeps s (go u k hit f)) : Keeps s (t.release hs go) := h.each fun h => h.each hgo
theorem Keeps.takeHeld (h : Keeps s t) {sel} : Keeps s (t.takeHeld sel).1 := .foldlFst h fun h => .iteFst h.setHolds h
theorem Keeps.releaseResult (h : Keeps s t) {k word score epoch} : Keeps s (t.releaseResult k word score epoch) := by
  unfold State.releaseResult
  exact h.takeHeld.release (·.countHeld.leave)
theorem Keeps.crossPlain (h : Keeps s t) {part f} : Keeps s (t.crossPlain part f) := h.partLight.egress
theorem Keeps.holdLimit (h : Keeps s t) {n} : Keeps s (t.holdLimit n) := by
  unfold State.holdLimit
  split
  · exact h
  · exact h.elapseTo.setHolds.release fun h => .ite h.ctr.crossPlain h.ctr.countHeld.leaveDefault
theorem Keeps.releaseFail (h : Keeps s t) {k} : Keeps s (t.releaseFail k) := by
  unfold State.releaseFail
  exact h.takeHeld.release (·.flood)
theorem Keeps.hold (h : Keeps s t) {k dir hit f} (e : t.hold k dir hit f = some u) : Keeps s u := by
  unfold State.hold at e
  dsimp only at e
  split at e
  · cases e
  · split at e
    · cases e
      exact h.setHolds
    · cases e
      exact h.setHolds
theorem Keeps.holdIf (h : Keeps s t) {c : Bool} {k dir hit f} (e : (if c then t.hold k dir hit f else none) = some u) : Keeps s u := by
  split at e
  · exact h.hold e
  · cases e
theorem Keeps.hitWork (h : Keeps s t) {i m' held} : Keeps s (t.hitWork i m' held) := by
  unfold State.hitWork
  extract_lets +onlyGivenNames e queued q flow w r u'
  have hr : Keeps s r.1 := by
    unfold r
    split
    · exact h.upd.t2Make
    · exact h.upd
  have hu : Keeps s u'.1 := hr.recordUpdate
  refine .ite h ?_
  split
  · exact hu
  · exact .ite hu hu.formVector
theorem Keeps.hitFrame (h : Keeps s t) {i dir f p m'} : Keeps s (t.hitFrame i dir f p m') := by
  unfold State.hitFrame
  extract_lets +onlyGivenNames e part t1 listed held
  have h1 : Keeps s t1 := h.addLight.partLight
  cases hr : held with
  | some t2 => exact (h1.holdIf hr).hitWork
  | none => exact .ite (h1.hitWork.when (·.ctr)).partLight.leave (h1.hitWork.when (·.ctr)).leave
theorem Keeps.classes (h : Keeps s t) {k} : Keeps s (t.classes k).1 := .iteFst h h.trieLookup.trieLookup
theorem Keeps.pendMiss (h : Keeps s t) {k m' now bad} : Keeps s (t.pendMiss k m' now bad).1 :=
  .iteFst h.upd (.iteFst h.classes.startWalk.ctr.markFlooded h.classes.startWalk.upd)
theorem Keeps.missFrame (h : Keeps s t) {k dir f p m'} : Keeps s (t.missFrame k dir f p m') := by
  unfold State.missFrame
  extract_lets +onlyGivenNames part t1
  have h1 : Keeps s t1 := h.addLight.partLight
  refine .ite h1.pendMiss.flood ?_
  extract_lets +onlyGivenNames wants held
  cases hr : held with
  | some t2 => exact .ite (h1.holdIf hr).pendMiss.releaseFail (h1.holdIf hr).pendMiss
  | none => exact .ite (h1.when (·.ctr)).pendMiss.flood (h1.when (·.ctr)).pendMiss.leaveDefault
theorem Keeps.pipe (h : Keeps s t) {f} : Keeps s (t.pipe f) := by
  unfold State.pipe
  extract_lets +onlyGivenNames len p part s1 s2
  have h2 : Keeps s s2 := h.addLight.partLight.addLight
  clear_value s2 p
  refine .ite h2.crossPlain ?_
  split
  · extract_lets +onlyGivenNames s3 kd s4 s5 bad checked m
    have hchecked : Keeps s checked := (h2.when (·.ctr)).when (·.addLight) |>.addCtr.each (·.eccSlot)
    clear_value checked
    split
    · exact hchecked.hitFrame
    · exact hchecked.missFrame
  · exact h2.leave
  · exact h2.ctr.leave
theorem Keeps.portIn (h : Keeps s t) {f} : Keeps s (t.portIn f).1 :=
  .iteFst h.addLight.addLight.addCtr.addCtr.ctr h.addLight.addLight.addCtr.addCtr
theorem Keeps.execLearnInsert (h : Keeps s t) : OutKeeps s (execLearnInsert t) := by
  refine .next ?_
  refine .ite ?_ ?_
  · split
    · exact h.learn.markFlooded.releaseFail
    · exact h.learn
  · exact h
theorem Keeps.execTier1Result (h : Keeps s t) {req} : OutKeeps s (execTier1Result req t) := by
  refine .next ?_
  split
  · exact h
  · split
    · exact h
    · exact .ite h.dropT1.tierResult.partLight.releaseResult h.dropT1.tierResult
theorem Keeps.execRecordFetchComplete (h : Keeps s t) {slot check} : OutKeeps s (execRecordFetchComplete slot check t) := by
  refine .next ?_
  split
  · exact h
  · refine .ite ?_ ?_
    · exact h.upd.movedStack.setRec.ctr.faultRec.each (·.recordUpdate) |>.each (·.rewindRecord)
    · exact h.upd.movedStack.setRec.when (·.ctr) |>.each (·.recordUpdate) |>.each (·.formVector)
theorem Keeps.execHoldDeadline (h : Keeps s t) {port} : OutKeeps s (execHoldDeadline port t) := by
  refine .next ?_
  split
  · exact h.elapseTo.holdExpire
  · exact h
theorem Keeps.execDampEnd (h : Keeps s t) {port} : OutKeeps s (execDampEnd port t) := by
  refine .next ?_
  split
  · exact h.elapseTo.dampEnd
  · exact h

/-! ### Descriptors of the flow rings -/

theorem Keeps.setRing (h : Keeps s t) {k v} : Keeps s (t.setRing k v) := h.upd
theorem Keeps.setBRing (h : Keeps s t) {fn v} : Keeps s (t.setBRing fn v) := h.upd
theorem Keeps.setCRing (h : Keeps s t) {k v} : Keeps s (t.setCRing k v) := h.upd
theorem Keeps.renew (h : Keeps s t) {t'} : Keeps s (t.renew t') := .ite h.setTag h
theorem Keeps.renewRing (h : Keeps s t) {k} : Keeps s (t.renewRing k) := .ite h.renew h
theorem Keeps.endLease (h : Keeps s t) {t'} : Keeps s (t.endLease t') := by
  unfold State.endLease
  dsimp only
  split
  · exact h
  · exact h.setTag.setRing
theorem Keeps.sweepDone (h : Keeps s t) {t'} : Keeps s (t.sweepDone t') := .ite h (h.each (·.setEntry)).setTag.addCtr
theorem Keeps.ringEnable (h : Keeps s t) {k irq} : Keeps s (t.ringEnable k irq) := by
  unfold State.ringEnable
  dsimp only
  split
  · exact h.setRing
  · exact h.setTag.setRing
theorem Keeps.ringDisable (h : Keeps s t) {k irq} : Keeps s (t.ringDisable k irq) := .ite h.setRing (Keeps.ite h.endLease h).setRing
theorem Keeps.complete (h : Keeps s t) {fn r c vec} : Keeps s (t.complete fn r c vec).1 := h.emit.when (·.emit)
theorem Keeps.descriptor (h : Keeps s t) {op d} {f : State → Nat → State × DRes} (hf : ∀ {u g}, Keeps s u → Keeps s (f u g).1) :
    Keeps s (t.descriptor op d f) := by
  unfold State.descriptor
  extract_lets +onlyGivenNames k r
  refine .ite h ?_
  extract_lets +onlyGivenNames t1 g e t2 t3 c
  have he : Keeps s e.1 := .iteFst h.emit.ctr (hf h.emit)
  have h2 : Keeps s t2 := he.when (·.ctr)
  have h3 : Keeps s t3 := .ite h2 h2.emit
  exact h3.complete.setRing.renewRing
theorem Keeps.readEcc (h : Keeps s t) {d slots} : Keeps s (t.readEcc d slots) := h.addCtr.each (·.eccSlot)
theorem Keeps.keyOp (h : Keeps s t) {d tag} {f : State → Nat → FEntry → State × DRes}
    (hf : ∀ {u i e}, Keeps s u → Keeps s (f u i e).1) : Keeps s (t.keyOp d tag f).1 := by
  refine .iteFst h ?_
  extract_lets t1
  have h1 : Keeps s t1 := h.readEcc
  split
  · exact h1
  · exact .iteFst h1 (hf h1)
theorem Keeps.opReadKey (h : Keeps s t) {d} : Keeps s (t.opReadKey d).1 := by
  refine .iteFst h ?_
  dsimp only
  split
  · exact h.readEcc
  · exact h.readEcc
theorem Keeps.opReadSlots (h : Keeps s t) {d n one} : Keeps s (t.opReadSlots d n one).1 := .iteFst h (.iteFst h (.iteFst h h.readEcc))
theorem Keeps.opInsert (h : Keeps s t) {d tag} : Keeps s (t.opInsert d tag).1 := by
  unfold State.opInsert
  extract_lets +onlyGivenNames pin
  refine .iteFst h (.iteFst h ?_)
  extract_lets +onlyGivenNames t1 quota empty put free full
  have h1 : Keeps s t1 := h.readEcc
  have hs : Keeps s (t1.seek d.key).1 := h1.seek
  have hput {u i} (h : Keeps s u) : Keeps s (put u i).1 := h.setEntry.setRec
  refine .iteFst h1.ctr ?_
  split
  · exact h1
  · refine .iteFst h1 ?_
    clear_value pin free
    split
    · exact hput h1
    · generalize t1.seek d.key = r at hs ⊢
      obtain ⟨t2, r⟩ := r
      cases r with
      | quota => exact .ctr hs
      | present i => exact hs
      | kicks => exact .ctr hs
      | free i => exact .iteFst hs (hput hs)
theorem Keeps.opUpdate (h : Keeps s t) {d tag} : Keeps s (t.opUpdate d tag).1 := h.keyOp fun h => h.applyVerdict.setEntry
theorem Keeps.opDelete (h : Keeps s t) {d tag age} : Keeps s (t.opDelete d tag age).1 :=
  h.keyOp fun h => .iteFst h (.iteFst h (.iteFst h h.clearSlot))
theorem Keeps.opLock (h : Keeps s t) {d tag set} : Keeps s (t.opLock d tag set).1 := h.keyOp (·.setEntry)
theorem Keeps.opTrie (h : Keeps s t) {d write} : Keeps s (t.opTrie d write).1 :=
  .iteFst h (.iteFst h (.iteFst h (.iteFst (.iteFst h (h.emit.each (·.setTrie))) h)))
theorem Keeps.flowOp (h : Keeps s t) {op d t'} : Keeps s (t.flowOp op d t').1 := by
  unfold State.flowOp
  split
  · exact h.opReadKey
  · exact h.opReadSlots
  · exact h.opReadSlots
  · exact h.opInsert
  · exact h.opUpdate
  · exact h.opDelete
  · exact h.opDelete
  · exact h.opLock
  · exact h.opLock
  · exact h.opTrie
  · exact h.opTrie
  · exact h
theorem Keeps.serveDesc (h : Keeps s t) {fn ring b buf} : Keeps s (t.serveDesc fn ring b buf) := h.descriptor (·.flowOp)
theorem Keeps.scrubLog (h : Keeps s t) {kind word rep addr tab sh} : Keeps s (t.scrubLog kind word rep addr tab sh) := by
  unfold State.scrubLog
  exact h.upd.event
theorem Keeps.scrubConfirm (h : Keeps s t) {w tab} : Keeps s (t.scrubConfirm w tab) :=
  .ite (h.ctr.when (·.setTrie.ctr)).scrubLog (.ite h.ctr.scrubLog (h.ctr.when (·.setEntry.ctr)).scrubLog)
theorem Keeps.scrub (h : Keeps s t) {words} : Keeps s (t.scrub words) := by
  refine .ite h ?_
  split
  · exact h.ctr
  · exact .ite h.ctr.ctr (h.when (·.movedStack.movedStack) |>.each (·.scrubConfirm) |>.upd).setObj
theorem Keeps.collRing (h : Keeps s t) {q bad fixed} : Keeps s (t.collRing q bad fixed) := by
  refine .ite h ?_
  split
  · exact h.stallPop
  · refine .ite h ?_
    dsimp only
    split
    · exact h.pop
    · exact (h.pop.each (·.emit)).setCRing.when (·.emit)
theorem Keeps.collFrame (h : Keeps s t) {q bad fixed} : Keeps s (t.collFrame q bad fixed) := by
  refine .ite h ?_
  split
  · exact h.stallPop
  · refine .ite h.dropFront.collDrop ?_
    split
    · dsimp only
      split
      · exact h.pop
      · exact h.pop.egress.ctr
    · exact h
theorem Keeps.bundleOp (h : Keeps s t) {op d write} : Keeps s (t.bundleOp op d write) := by
  unfold State.bundleOp
  extract_lets +onlyGivenNames r st g s1 s2 fetched
  have hfetched : Keeps s fetched := (h.emit.when (·.ctr)).when (·.ctr)
  refine .ite h (.setBRing (.complete ?_))
  exact .ite hfetched (.ite hfetched.emit.memWrite.movedStack hfetched.emit.movedStack.stackErrs)
theorem Keeps.serveBundle (h : Keeps s t) {fn b buf} : Keeps s (t.serveBundle fn b buf) := h.bundleOp

/-! ### Recovery -/

theorem Keeps.markRecovering (h : Keeps s t) : Keeps s t.markRecovering := h.setEv
theorem Keeps.partFault (h : Keeps s t) {p} : Keeps s (t.partFault p) := h.setObj
theorem Keeps.setRecovery (h : Keeps s t) {p v} : Keeps s (t.setRecovery p v) := h.setEv.markRecovering
theorem Keeps.showRemap (h : Keeps s t) {p} : Keeps s (t.showRemap p) := .ite h h.setRecovery
theorem Keeps.remap (h : Keeps s t) {p n} : Keeps s (t.remap p n) :=
  (h.each (·.withdraw)).setSlot.setRemap.when (·.ctr) |>.each (fun h => .ite h.addReissue h) |>.showRemap
theorem Keeps.retryRemap (h : Keeps s t) : Keeps s t.retryRemap := h.each fun h => .ite h.remap h
theorem Keeps.endRemap (h : Keeps s t) {p n} : Keeps s (t.endRemap p n) := .ite h h.setRemap.showRemap
theorem Keeps.restart (h : Keeps s t) {p} : Keeps s (t.restart p) :=
  (h.withdrawAll.each fun h => .ite h.setSlot.disarm h.setSlot).drainDone.ctr.setPartSw.setRecovery
theorem Keeps.restartArmed (h : Keeps s t) {p} : Keeps s (t.restartArmed p) := by
  refine .ite h ?_
  refine .setRecovery ?_
  refine h.each fun h => ?_
  refine .ite h ?_
  split
  · exact h
  · exact .ite h.setRemap (.ite h.upd h.rearm)
theorem Keeps.slotFault (h : Keeps s t) {p n req oper time cls ukind unit code detail} :
    Keeps s (t.slotFault p n req oper time cls ukind unit code detail) := by
  have hpart : Keeps s (t.partFault p) := h.partFault
  unfold State.slotFault
  extract_lets +onlyGivenNames rec_ part withdrawn recorded
  have hwithdrawn : Keeps s withdrawn := by
    unfold withdrawn
    split
    · exact hpart.withdraw
    · exact hpart
  have hrecorded : Keeps s recorded := hwithdrawn.when (·.faultRecAt)
  refine .ite ?_ ?_
  · exact .ite hrecorded.faultRecAt (.ite hrecorded hrecorded.faultRecAt)
  · refine .ite hpart.restart.faultRecAt ?_
    split
    · exact hpart.faultRecAt
    · exact .ite hpart.withdraw.faultRecAt hpart.reissue.faultRecAt
theorem Keeps.isleUp (h : Keeps s t) {n} : Keeps s (t.isleUp n) := h.setEvBit.setEvBit.extend.upd.setSched.traceSync
theorem Keeps.isleDown (h : Keeps s t) {n} : Keeps s (t.isleDown n) := h.loseIsle.setEvBit.setEvBit.upd.each fun h => .ite h.setSlot h
theorem Keeps.sendResult (h : Keeps s t) {origin p n word} : Keeps s (t.sendResult origin p n word) := .ite h.sendPacket h.ctr
theorem Keeps.emptyWork (h : Keeps s t) {q} : Keeps s (t.emptyWork q) := h.upd.setQueue.markWork.each (·.sendResult)
theorem Keeps.loseStack (h : Keeps s t) {n} : Keeps s (t.loseStack n) := by
  refine (((h.setEvBit.upd.addCtr.each (·.formVector)).loseMiddles).abandonStack).each fun h => ?_
  split
  · exact .ite h.loadFail h
  · exact h
theorem Keeps.fenceIsle (h : Keeps s t) {n cls ukind detail} : Keeps s (t.fenceIsle n cls ukind detail) := by
  refine .ite h ?_
  exact h.setEvBit.setEvBit.upd.ctr.faultRecAt.each (·.fenceProducer) |>.each (·.emptyWork) |>.each (·.withdrawAll)
      |>.isleDown.upd.each (fun h => .ite h h.partFault.remap.faultRecAt)
      |>.each (fun h => h.partFault.restart.each (·.setRemap) |>.faultRecAt) |>.markRecovering
theorem Keeps.soundFail (h : Keeps s t) {n} : Keeps s (t.soundFail n) :=
  .ite h.setEvBit.upd.ctr.loseStack.faultRec h.setEvBit.upd.ctr.loseStack.fenceIsle
theorem Keeps.startRestore (h : Keeps s t) {mask} : Keeps s (t.startRestore mask) := h.each (·.upd) |>.markRecovering
theorem Keeps.isleRestoreWrite (h : Keeps s t) {v} : Keeps s (t.isleRestoreWrite v).1 := .iteFst h h.startRestore
theorem Keeps.soundTrained (h : Keeps s t) {n} : Keeps s (t.soundTrained n) := by
  refine .ite h ?_
  exact (h.upd.setEvBit.upd.setEvBit.setEvBit.isleUp.each fun h => .ite h.setEv.emptySlot (.ite h h.rearm.endRemap)).retryRemap.markRecovering
theorem Keeps.restoreFail (h : Keeps s t) {n} : Keeps s (t.restoreFail n) := .ite h h.elapseTo.upd.faultRec.markRecovering
theorem Keeps.resultIn (h : Keeps s t) {w} : Keeps s (t.resultIn w) := by
  unfold State.resultIn
  dsimp only
  split
  · exact h.ctr
  · refine .ite h.withdraw.ctr ?_
    exact .ite (.ite h.withdraw (.ite h.slotFault (.ite h.withdraw h.reissue))) (.ite h.withdraw (.ite h.freeReq.ctr h.t2Write))
theorem Keeps.tier2Result (h : Keeps s t) {n p eccBad} : Keeps s (t.tier2Result n p eccBad) := by
  unfold State.tier2Result
  dsimp only
  split
  · exact h.pop
  · exact .ite h.pop.faultRec (.ite h.pop.resultIn h.pop.sendResult)
theorem Keeps.t2Expire (h : Keeps s t) {seq} : Keeps s (t.t2Expire seq) := by
  unfold State.t2Expire
  split
  · exact h
  · exact h.elapseTo.withdraw
theorem Keeps.resetCore (h : Keeps s t) {c} : Keeps s (t.resetCore c) := by
  unfold State.resetCore
  extract_lets +onlyGivenNames k
  split
  · exact h
  · extract_lets +onlyGivenNames cls cd oper req slot t1 t2 f t3 t4 t5
    have h2 : Keeps s t2 := by
      refine .ite ?_ h.setCore
      split
      · extract_lets slot
        split
        · exact h.setCore.each (·.armBlock)
        · exact h.setCore
      · exact h.setCore
    have h3 : Keeps s t3 := .iteSnd h2.fresh h2
    have h4 : Keeps s t4 := by
      clear_value slot
      unfold t4
      split
      · exact h3.slotFault
      · exact h3.faultRecAt
    have h5 : Keeps s t5 := h4.refillPort
    refine .ite ?_ h5
    exact .ite h5.upd.fenceIsle h5.upd
theorem Keeps.coreWd (h : Keeps s t) {c} : Keeps s (t.coreWd c) := .ite h h.elapseTo.setCore.ctr.addCtr.resetCore
theorem Keeps.isleWd (h : Keeps s t) {n} : Keeps s (t.isleWd n) := .ite h h.elapseTo.ctr.fenceIsle
theorem Keeps.recoverResumeWrite (h : Keeps s t) {p v} : Keeps s (t.recoverResumeWrite p v).1 :=
  .iteFst h (.iteFst h (.fst h.setPartSw.setRecovery.restart))

/-! ### The pool -/

theorem Keeps.sendAdmit (h : Keeps s t) {d} : Keeps s (t.sendAdmit d) := h.sendPacket
theorem Keeps.grantCredits (h : Keeps s t) : Keeps s t.grantCredits :=
  .ite h (h.each fun h => .ite h (h.each fun h => .ite h h.upd.sendPacket))
theorem Keeps.creditBack (h : Keeps s t) {w record} : Keeps s (t.creditBack w record) := .ite h (.ite h.upd (.ite h.sendPacket h))
theorem Keeps.tryAdmit (h : Keeps s t) {d} : Keeps s (t.tryAdmit d) := .ite h.setPeer.setEvBit.sendReg.grantCredits.retryRemap h
theorem Keeps.admitRequest (h : Keeps s t) {src poolId device serial compat record} :
    Keeps s (t.admitRequest src poolId device serial compat record) := by
  refine .ite h ?_
  refine .tryAdmit (.sendPacket ?_)
  refine .ite ?_ ?_
  · exact (Keeps.ite h.extend.ctr (h.extend.setPeer.when (·.ctr))).sendAdmit
  · exact .ite h.extend.ctr (h.extend.setPeer.when (·.ctr))
theorem Keeps.admitReply (h : Keeps s t) {src outcome} : Keeps s (t.admitReply src outcome) := .ite h h.setPeer.tryAdmit
theorem Keeps.hear (h : Keeps s t) {d seq} : Keeps s (t.hear d seq) := .ite h.upd.setPeer h
theorem Keeps.heartbeatIn (h : Keeps s t) {i origin seq entries} : Keeps s (t.heartbeatIn i origin seq entries) :=
  .ite h (h.upd.hear.each (·.hear) |>.each fun h => .ite h.sendAdmit h).grantCredits
theorem Keeps.heartbeatOut (h : Keeps s t) : Keeps s t.heartbeatOut := .ite h (h.upd.each fun h => .ite h.setStrait.pumpStrait h)
theorem Keeps.voidLock (h : Keeps s t) {late l} : Keeps s (t.voidLock late l) := by
  unfold State.voidLock
  exact h.upd.ctr.when (·.ctr.faultRec)
theorem Keeps.fetchEnd (h : Keeps s t) {st} : Keeps s (t.fetchEnd st) := by
  unfold State.fetchEnd
  split
  · exact h
  · exact (Keeps.ite h.sendLock h).upd.setEv
theorem Keeps.replicaLost (h : Keeps s t) {i} : Keeps s (t.replicaLost i) := by
  refine .ite h.setSlotLock.loadFail ?_
  exact .ite (.ite h.setSlotLock.slotFault h.setSlotLock.partFault.remap.faultRec) h.setSlotLock
theorem Keeps.loseMember (h : Keeps s t) {d} : Keeps s (t.loseMember d) := by
  refine .ite h ?_
  extract_lets +onlyGivenNames via t1 t2 t3 t4 reg cr gr pool t5 t6 t7 held t8 hit t9
  have h4 : Keeps s t4 := h.setEvBit.ctr.deregisterIf.setPeer.faultRec
  have h6 : Keeps s t6 := h4.upd.each (·.voidLock)
  have h7 : Keeps s t7 := by
    unfold t7
    split
    · exact .ite h6.fetchEnd h6
    · exact h6
  have h8 : Keeps s t8 := h7.each (·.replicaLost)
  exact h8.each (fun h => .ite h.slotFault h.partFault.remap.faultRec) |>.retryRemap
theorem Keeps.lockRequest (h : Keeps s t) {src entry} : Keeps s (t.lockRequest src entry) := .ite h (.ite h.upd.sendPacket h.sendPacket)
theorem Keeps.lockRelease (h : Keeps s t) {src entry} : Keeps s (t.lockRelease src entry) := h.upd
theorem Keeps.lockReply (h : Keeps s t) {src entry epoch status} : Keeps s (t.lockReply src entry epoch status) := by
  refine .each ?_ fun h => ?_
  · split
    · exact .ite (.ite h.upd.sendSegReq h.fetchEnd) h
    · exact h
  · split
    · exact .ite (.ite h.setSlotLock.sendSegReq h.replicaLost) h
    · exact h
theorem Keeps.lockVoid (h : Keeps s t) {region} : Keeps s (t.lockVoid region) := by
  unfold State.lockVoid
  split
  · exact h
  · exact h.elapseTo.voidLock
theorem Keeps.segRequest (h : Keeps s t) {src entry epoch off len} : Keeps s (t.segRequest src entry epoch off len) := by
  unfold State.segRequest
  dsimp only
  split
  · exact .ite h.sendPacket (h.upd.each (·.movedStack.sendBulk))
  · exact .ite h.sendPacket h
theorem Keeps.fetchSegment (h : Keeps s t) {src epoch off data} : Keeps s (t.fetchSegment src epoch off data) := by
  unfold State.fetchSegment
  split
  · exact h
  · exact .ite h (.ite h.ctr.fetchEnd (.ite h.memWrite.movedStack.upd.sendSegReq h.memWrite.movedStack.upd))
theorem Keeps.streamSegment (h : Keeps s t) {src epoch off data} : Keeps s (t.streamSegment src epoch off data) := by
  refine h.each fun h => ?_
  split
  · exact .ite (.ite h.upd.sendSegReq h.upd) h
  · exact h
theorem Keeps.fetchComplete (h : Keeps s t) : Keeps s t.fetchComplete := by
  unfold State.fetchComplete
  split
  · exact h
  · exact .ite h h.movedStack.fetchEnd
theorem Keeps.fetchApply (h : Keeps s t) {v} : Keeps s (t.fetchApply v).1 :=
  .iteFst h (.iteFst h (.iteFst h (.iteFst h h.upd.setEv.sendLock)))
theorem Keeps.offerRegion (h : Keeps s t) {r} : Keeps s (t.offerRegion r).1 := by
  refine .iteFst h ?_
  refine .iteFst h ?_
  split
  · exact h
  · exact h.addOwn
theorem Keeps.withdrawOffer (h : Keeps s t) {r} : Keeps s (t.withdrawOffer r).1 := h.each (·.voidLock) |>.each (·.dropReg)
theorem Keeps.registryIn (h : Keeps s t) {src entries} : Keeps s (t.registryIn src entries) := by
  refine .ite h ?_
  refine .retryRemap ?_
  refine h.each fun h => ?_
  refine .ite h ?_
  refine .ite ?_ ?_
  · split
    · exact h.setReg
    · exact h
  · split
    · exact h.setReg
    · split
      · exact h.setReg
      · exact h
theorem Keeps.remoteWork (h : Keeps s t) {src packet} : Keeps s (t.remoteWork src packet) := by
  refine .ite h ?_
  refine .ite ?_ ?_
  · split
    · exact h.upd.flushWork.ctr
    · exact h.sendResult
  · exact h.sendResult
theorem Keeps.remoteResult (h : Keeps s t) {src packet} : Keeps s (t.remoteResult src packet) := .ite h h.resultIn
theorem Keeps.creditIn (h : Keeps s t) {src q records} : Keeps s (t.creditIn src q records) := .ite h h.setCredit.flushWork

/-! ### Strait commands -/

theorem Keeps.straitEnableWrite (h : Keeps s t) {v} : Keeps s (t.straitEnableWrite v).1 :=
  h.setEv.each fun h => .ite h.straitDisable (.ite h.straitTrain h)
theorem Keeps.straitJoined (h : Keeps s t) {i peer credits} : Keeps s (t.straitJoined i peer credits) :=
  .ite h.straitUpNow.sendAdmit h.straitUpNow
theorem Keeps.straitWait (h : Keeps s t) {i} : Keeps s (t.straitWait i) := by
  unfold State.straitWait
  split
  · exact h.elapseTo
  · exact h
theorem Keeps.initFlit (h : Keeps s t) {i data} : Keeps s (t.initFlit i data) :=
  .ite (.ite h.setStrait.setObj.linkFlit.straitJoined h.setStrait.setObj.linkFlit) (.ite h.linkFlit h)
theorem Keeps.initAcked (h : Keeps s t) {i} : Keeps s (t.initAcked i) := .ite (.ite h.straitJoined h.setStrait) h
theorem Keeps.nakIn (h : Keeps s t) {i seq} : Keeps s (t.nakIn i seq) := .ite h.resend h
theorem Keeps.linkIn (h : Keeps s t) {i kind f} : Keeps s (t.linkIn i kind f) := by
  unfold State.linkIn
  dsimp only
  split
  · exact (Keeps.ite h.acked h).initFlit
  · exact (Keeps.ite h.acked h).initAcked
  · exact (Keeps.ite h.acked h).nakIn
  · exact .ite h.acked h
theorem Keeps.execReplayTimeout (h : Keeps s t) {strait} : OutKeeps s (execReplayTimeout strait t) := by
  refine .next ?_
  split
  · exact h.elapseTo.resend
  · exact h

/-! ### Residency -/

theorem Keeps.wantIsle (h : Keeps s t) {n} : Keeps s (t.wantIsle n) := .ite h h.upd
theorem Keeps.wake (h : Keeps s t) {q} : Keeps s (t.wake q) := .ite h.wakeQuad (.ite h.isleUp.retryRemap h)
theorem Keeps.watchCores (h : Keeps s t) : Keeps s t.watchCores := h.upd
theorem Keeps.zeroTimers (h : Keeps s t) : Keeps s t.zeroTimers := h.upd
theorem Keeps.nap (h : Keeps s t) {c} : Keeps s (t.nap c) := .ite h.elapseTo.upd h
theorem Keeps.dozeEntry (h : Keeps s t) {q} : Keeps s (t.dozeEntry q) := .ite h.elapseTo.upd h
theorem Keeps.offEntry (h : Keeps s t) {n} : Keeps s (t.offEntry n) := .ite h.elapseTo.upd h
theorem Keeps.floorWake (h : Keeps s t) : Keeps s t.floorWake := h.each fun h => .ite h (.ite h.upd (h.when (·.wantIsle)))
theorem Keeps.entryDone (h : Keeps s t) {isle u'} : Keeps s (t.entryDone isle u') := by
  refine .ite h ?_
  refine .ite ?_ ?_
  · exact h.elapseTo.upd.isleDown.ctr.upd.when (·.wantIsle) |>.floorWake
  · exact (h.elapseTo.upd.upd.each (·.wakeQuad)).floorWake.each (·.refillPort)
theorem Keeps.partQuadsWrite (h : Keeps s t) {p v} : Keeps s (t.partQuadsWrite p v).1 := .iteFst h (.iteFst h (.iteFst h h.setEv.floorWake))
theorem Keeps.refuseWork (h : Keeps s t) {n w st} : Keeps s (t.refuseWork n w st) := h.moved.pushPacket
theorem Keeps.blockFails (h : Keeps s t) {n p m' w} : Keeps s (t.blockFails n p m' w) := .ite h.slotFault h.faultRec.refuseWork
theorem Keeps.dispatch (h : Keeps s t) {n p m' w poison} : Keeps s (t.dispatch n p m' w poison) :=
  (h.each (·.wake)).setSched.when (·.faultRec) |>.each (·.giveCmd.tracePacket)
theorem Keeps.schedule (h : Keeps s t) {n check err} : Keeps s (t.schedule n check err) := by
  refine .ite h ?_
  refine .ite (.ite h.wantIsle h) ?_
  refine .ite h ?_
  refine .ite h.fresh.ctr.fenceIsle ?_
  split
  · exact h
  · extract_lets +onlyGivenNames r popped sched noted
    have hr : Keeps s r.2 := h.pop
    have hnoted : Keeps s noted := hr.setSched
    clear_value r noted
    split
    · exact hnoted
    · extract_lets +onlyGivenNames w m s1 taken fetch fetched
      have htaken : Keeps s taken := hnoted.moved.creditBack.flushWork.tracePacket
      have hfetched : Keeps s fetched := htaken.when (·.moved.stackCount)
      exact .ite (htaken.refuseWork.when (·.faultRec)) (.ite hfetched.blockFails hfetched.dispatch)

/-! ### Cartridges and optics -/

theorem Keeps.setCart (h : Keeps s t) {e c} : Keeps s (t.setCart e c) := h.upd
theorem Keeps.showCart (h : Keeps s t) {e} : Keeps s (t.showCart e) := h.setEv
theorem Keeps.lightOn (h : Keeps s t) {e} : Keeps s (t.lightOn e) := h.setCart.emit.emit.setEvBit
theorem Keeps.lightOff (h : Keeps s t) {e} : Keeps s (t.lightOff e) := .ite h (h.setCart.emit.setEvBit.when fun h => h.each (·.linkDrop))
theorem Keeps.settleLight (h : Keeps s t) {e} : Keeps s (t.settleLight e) := (Keeps.ite (.ite h h.lightOff) (.ite h.lightOn h)).showCart
theorem Keeps.settleLights (h : Keeps s t) : Keeps s t.settleLights := h.each (·.settleLight)
theorem Keeps.lightLoss (h : Keeps s t) {e} : Keeps s (t.lightLoss e) := .ite h h.ctr.setObj.faultRec.lightOff.setCart.showCart
theorem Keeps.beginAuth (h : Keeps s t) {e} : Keeps s (t.beginAuth e) := h.setCart.showCart
theorem Keeps.resumeAuth (h : Keeps s t) : Keeps s t.resumeAuth := h.each fun h => .ite (h.when (·.ctr)).beginAuth h
theorem Keeps.haltAuth (h : Keeps s t) : Keeps s t.haltAuth := h.each fun h => .ite h h.setCart
theorem Keeps.occupied (h : Keeps s t) {e} : Keeps s (t.occupied e) := .ite h h.setCart.setEvBit.beginAuth
theorem Keeps.vacated (h : Keeps s t) {e} : Keeps s (t.vacated e) :=
  .ite h ((h.when (·.ctr)).lightLoss.setCart.each (·.setObj)).setEv.dropPair.setEvBit.showCart
theorem Keeps.setAcc (h : Keeps s t) {e acc} : Keeps s (t.setAcc e acc) :=
  (Keeps.iteSnd h.setObj.fresh h.setObj).setObj.setEv.when (·.setCart)
theorem Keeps.readLife (h : Keeps s t) {e r0 r1} : Keeps s (t.readLife e r0 r1) := by
  unfold State.readLife
  dsimp only
  split
  · exact h.setObj.setCart.setAcc
  · exact h.setCart.setObj.setEv.setAcc
theorem Keeps.authEnd (h : Keeps s t) {e} : Keeps s (t.authEnd e) := h.setCart.settleLight
theorem Keeps.authFail (h : Keeps s t) {e cause} : Keeps s (t.authFail e cause) := .ite h.setObj.ctr h
theorem Keeps.installWrites (h : Keeps s t) {e img} : Keeps s (t.installWrites e img) := h.emit.each (·.emit) |>.emit
theorem Keeps.authStep6 (h : Keeps s t) {e} : Keeps s (t.authStep6 e) :=
  .ite h.extend.decidePair.setCart.setCart.installWrites.showCart h.extend.decidePair.setCart.authEnd
theorem Keeps.cartReady (h : Keeps s t) {e r} : Keeps s (t.cartReady e r) := by
  unfold State.cartReady
  extract_lets +onlyGivenNames c
  clear_value c
  split
  · exact h
  · extract_lets +onlyGivenNames counted serial temp life auth
    have htemp : Keeps s temp := (Keeps.ite h.ctr h).setObj.setObj.setObj.setObj.setObj
    have hlife : Keeps s life := .ite htemp htemp.readLife
    have hauth : Keeps s auth := .ite hlife hlife.authFail
    exact .ite h hauth.upd.setCart.emit.showCart
theorem Keeps.readyLate (h : Keeps s t) {e} : Keeps s (t.readyLate e) := by
  unfold State.readyLate
  split
  · exact h.elapseTo.authFail.authEnd
  · exact h
theorem Keeps.challenged (h : Keeps s t) {e response} : Keeps s (t.challenged e response) := by
  unfold State.challenged
  dsimp only
  split
  · exact .ite h (Keeps.ite (.ite h.setObj h) h.authFail).authStep6
  · exact h
theorem Keeps.challengeLate (h : Keeps s t) {e} : Keeps s (t.challengeLate e) := by
  unfold State.challengeLate
  split
  · exact h.elapseTo.authFail.authEnd
  · exact h
theorem Keeps.installLate (h : Keeps s t) {e} : Keeps s (t.installLate e) := by
  unfold State.installLate
  split
  · exact h.elapseTo.ctr.authEnd
  · exact h
theorem Keeps.monitor (h : Keeps s t) {e l m' beyond inside} : Keeps s (t.monitor e l m' beyond inside).1 := h.setCart
theorem Keeps.monitorBy (h : Keeps s t) {e l m' k low act v} : Keeps s (t.monitorBy e l m' k low act v).1 := .iteFst h.monitor h.monitor
theorem Keeps.countEntry {r : State × Bool} (h : Keeps s r.1) : Keeps s (countEntry r) := h.when (·.ctr)
theorem Keeps.laneMonitors (h : Keeps s t) {e l rx tx} : Keeps s (t.laneMonitors e l rx tx) :=
  h.monitorBy.countEntry.monitorBy.countEntry.monitorBy.countEntry.monitorBy.countEntry.monitorBy.countEntry
theorem Keeps.optSample (h : Keeps s t) {e m} : Keeps s (t.optSample e m) := by
  refine .ite h ?_
  extract_lets old c t1 t2 r t3 c' b t4 t5
  have h3 : Keeps s t3 := (h.setCart.each (·.laneMonitors)).monitorBy.countEntry
  have h5 : Keeps s t5 := h3.setCart.when (·.event)
  exact .ite h5.lightLoss h5
theorem Keeps.relight (h : Keeps s t) {e m'} : Keeps s (t.relight e m') := by
  unfold State.relight
  split
  · exact h
  · exact .ite h (Keeps.ite h.elapseTo.lightOn.elapseTo.lightOff.setCart h.elapseTo.lightOn.elapseTo.setCart).showCart
theorem Keeps.lightReady (h : Keeps s t) {e} : Keeps s (t.lightReady e) := .ite h.elapseTo.setCart h
theorem Keeps.project (h : Keeps s t) {e fi ft} : Keeps s (t.project e fi ft) := h.setObj
theorem Keeps.projectNow (h : Keeps s t) {e fi} : Keeps s (t.projectNow e fi) := by
  unfold State.projectNow
  split
  · exact h.project
  · exact h.fresh.project
theorem Keeps.lifeSecond (h : Keeps s t) {e temp drive nominal} : Keeps s (t.lifeSecond e temp drive nominal) := by
  refine .ite h ?_
  refine .ite ?_ ?_
  · split
    · exact h.setCart.setObj.setObj.projectNow
    · exact h.setCart.setObj.setObj
  · split
    · exact h.setCart.setObj.setObj.setCart.setAcc.projectNow.settleLight
    · exact h.setCart.setObj.setObj.lightLoss
theorem Keeps.lifeWrite (h : Keeps s t) {e ok} : Keeps s (t.lifeWrite e ok) :=
  .ite h (.ite (Keeps.ite h h.elapseTo).emit.emit.setCart (Keeps.ite h h.elapseTo).emit.emit.setCart.ctr)
theorem Keeps.cartReleaseWrite (h : Keeps s t) {e v} : Keeps s (t.cartReleaseWrite e v).1 := .iteFst h (.iteFst h h.setCart.settleLight)
theorem Keeps.cartDriveWrite (h : Keeps s t) {e v} : Keeps s (t.cartDriveWrite e v).1 := .iteFst h h.setObj.emit
theorem Keeps.optThresholdWrite (h : Keeps s t) {k v} : Keeps s (t.optThresholdWrite k v).1 := .iteFst h h.setObj

/-! ### Power -/

theorem Keeps.selectBank (h : Keeps s t) {kind m'} : Keeps s (t.selectBank kind m').1 :=
  h.each (fun h => .ite h.extend h) |>.when (·.setObj) |>.upd
theorem Keeps.plainUpdate (h : Keeps s t) : Keeps s t.plainUpdate := h.setEv
theorem Keeps.restrict (h : Keeps s t) : Keeps s t.restrict := h.setEv.plainUpdate
theorem Keeps.setDomain (h : Keeps s t) {d b} : Keeps s (t.setDomain d b) := h.setEvBit
theorem Keeps.hbmDown (h : Keeps s t) : Keeps s t.hbmDown :=
  .ite h (h.each (·.isleDown) |>.each (·.loseStack) |>.upd.setEv.memLose.setDomain).loseSections
theorem Keeps.netDown (h : Keeps s t) : Keeps s t.netDown := by
  refine .ite h ?_
  exact h.each (fun h => h.when (·.fresh.portDown)) |>.each (·.setEv) |>.deregisterIf.each (·.setEv.setEvBit) |>.fetchEnd.each (·.setEvBit)
      |>.setObj.upd.upd.setDomain
theorem Keeps.dropRail (h : Keeps s t) {r} : Keeps s (t.dropRail r) := h.upd
theorem Keeps.dropRails (h : Keeps s t) {d} : Keeps s (t.dropRails d) := by
  unfold State.dropRails
  split
  · exact h
  · exact .ite h.dropRail.upd h.upd
theorem Keeps.nextDrop (h : Keeps s t) {rail} : Keeps s (t.nextDrop rail) := by
  unfold State.nextDrop
  split
  · exact h
  · exact .ite h (Keeps.ite h.elapseTo h).dropRail.upd
theorem Keeps.raise (h : Keeps s t) {rs} : Keeps s (t.raise rs) := h.upd
theorem Keeps.beginUp (h : Keeps s t) {d} : Keeps s (t.beginUp d) := .ite (h.each (·.dropRail)).upd.raise (h.each (·.dropRail)).upd.raise
theorem Keeps.netResume (h : Keeps s t) : Keeps s t.netResume :=
  (h.plainUpdate.syncPorts.each fun h => .ite h.straitTrain h).resumeAuth.settleLights.recheck.each (·.pump)
theorem Keeps.islesUp (h : Keeps s t) : Keeps s t.islesUp := (h.each fun h => .ite h h.isleUp).setObj.retryRemap
theorem Keeps.isleImage (h : Keeps s t) : Keeps s t.isleImage := by
  unfold State.isleImage
  dsimp only
  split
  · exact h.selectBank.upd.setPair.restrict
  · exact h.selectBank.upd.setObj.setObj.decidePair.upd.when (·.restrict)
theorem Keeps.dropBare (h : Keeps s t) : Keeps s t.dropBare := h.each fun h => .ite h.setEv.emptySlot h
theorem Keeps.hbmUp (h : Keeps s t) : Keeps s t.hbmUp := by
  unfold State.hbmUp
  extract_lets +onlyGivenNames pwr s1 s2 good s3 t1 s4 bare imaged
  have hbare : Keeps s bare := h.upd.setDomain.setEv.setEv.upd.dropBare
  have himaged : Keeps s imaged := .ite hbare hbare.isleImage
  exact .ite himaged.hbmDown.dropRails himaged.islesUp
theorem Keeps.cartImage (h : Keeps s t) : Keeps s t.cartImage := .ite h h.selectBank.upd.setObj
theorem Keeps.netReady (h : Keeps s t) : Keeps s t.netReady := by
  unfold State.netReady
  exact .ite h.setObj.cartImage.netResume (.ite h.setObj.cartImage.netResume.beginUp h.setObj.cartImage.netResume.islesUp)
theorem Keeps.repin (h : Keeps s t) : Keeps s t.repin := h.each fun h => .ite h.movedStack.pinEns h
theorem Keeps.netUp (h : Keeps s t) : Keeps s t.netUp := by
  unfold State.netUp
  exact h.upd.setDomain.repin.netReady
theorem Keeps.powerGood (h : Keeps s t) {r} : Keeps s (t.powerGood r) := by
  unfold State.powerGood
  extract_lets +onlyGivenNames noted ws pwr kept
  have hkept : Keeps s kept := h.setEvBit.upd
  refine .ite h ?_
  refine .ite h.setEvBit ?_
  refine .ite hkept ?_
  split
  · exact .ite hkept.raise (.ite hkept.raise hkept.netUp)
  · exact .ite hkept.raise (.ite hkept.raise hkept.hbmUp)
  · exact hkept
theorem Keeps.trigger (h : Keeps s t) {reason} : Keeps s (t.trigger reason) := .ite h.upd (.ite h.upd h)
theorem Keeps.coreStart (h : Keeps s t) {reason locks} : Keeps s (t.coreStart reason locks) := by
  refine .ite h.upd.setObj.setEv ?_
  exact .ite h.upd.zeroTimers.setEv.setObj.ctr.setObj.setEv.netReady h.upd.zeroTimers.setEv.setObj.ctr.setObj.setEv.beginUp
theorem Keeps.clockStart (h : Keeps s t) {reason locks} : Keeps s (t.clockStart reason locks) := by
  unfold State.clockStart
  dsimp only
  split
  · exact .ite (.ite h.trigger h) (Keeps.ite h.trigger h).coreStart
  · exact .ite h.trigger h
theorem Keeps.pllRetryNow (h : Keeps s t) {locks} : Keeps s (t.pllRetryNow locks) := by
  unfold State.pllRetryNow
  split
  · exact h.elapseTo.coreStart
  · exact h
theorem Keeps.rxSignal (h : Keeps s t) {l} : Keeps s (t.rxSignal l) := .ite h (.ite h.trigger.upd h.trigger)
theorem Keeps.backOff (h : Keeps s t) : Keeps s t.backOff := h.each (·.upd)
theorem Keeps.stopNow (h : Keeps s t) : Keeps s t.stopNow := by
  unfold State.stopNow
  extract_lets +onlyGivenNames keep lights entered isles hbm net
  have hisles : Keeps s isles := h.each (·.lightOff) |>.each (·.entryDone) |>.each fun h => .ite h.isleDown h
  have hhbm : Keeps s hbm := .ite hisles.hbmDown.dropRails hisles
  have hnet : Keeps s net := .ite hhbm.netDown.dropRails hhbm
  exact hnet.upd.haltAuth.setObj.setEv.backOff.ctr.setEv.each (·.showCart) |>.upd
theorem Keeps.watchIdle (h : Keeps s t) : Keeps s t.watchIdle := h.upd
theorem Keeps.clockStop (h : Keeps s t) : Keeps s t.clockStop := .ite h.elapseTo.stopNow h
theorem Keeps.emptyAll (h : Keeps s t) : Keeps s t.emptyAll := h.each fun h => (Keeps.ite h h.setEv.emptySlot).setSlot
theorem Keeps.trip (h : Keeps s t) {cause source} : Keeps s (t.trip cause source) := by
  unfold State.trip
  extract_lets +onlyGivenNames s1 s2 s3 s4 recorded emptied down
  have hrecorded : Keeps s recorded := (h.addCtr.addCtr.each (·.lightOff)).setObj.setObj.setEv.faultRec
  have hdown : Keeps s down := (hrecorded.emptyAll.each (·.isleDown)).hbmDown.netDown
  exact .ite h (hdown.upd.haltAuth.setObj.setEv.each (·.showCart))
theorem Keeps.clearTrip (h : Keeps s t) : Keeps s t.clearTrip := .ite h (h.upd.setEv.when (·.trigger))
theorem Keeps.railLate (h : Keeps s t) {r} : Keeps s (t.railLate r) := by
  unfold State.railLate
  split
  · exact h
  · exact h.elapseTo.setEv.ctr.trip
theorem Keeps.railFall (h : Keeps s t) {r} : Keeps s (t.railFall r) :=
  .ite h (.ite (.ite h.setEvBit (h.setEvBit.setEvBit.ctr.when (·.setObj))) (.ite h.setEvBit.setEv.ctr.trip h.setEvBit))
theorem Keeps.pllLost (h : Keeps s t) : Keeps s t.pllLost := .ite h h.setEv.ctr.trip
theorem Keeps.portLink (h : Keeps s t) {q} : Keeps s (t.portLink q) := .ite h (.ite h.linkUp.lanesUp h.linkUp)
theorem Keeps.portEnableWrite (h : Keeps s t) {line v} : Keeps s (t.portEnableWrite line v).1 :=
  (Keeps.ite (h.setEv.each fun h => .ite h.syncPort h) h.setEv).settleLights.when (·.trigger)
theorem Keeps.portModeWrite (h : Keeps s t) {line g v} : Keeps s (t.portModeWrite line g v).1 := h.modeWrite.settleLights
theorem Keeps.coreHoldWrite (h : Keeps s t) {v} : Keeps s (t.coreHoldWrite v).1 := h.setObj.when (·.trigger)
theorem Keeps.inferenceWrite (h : Keeps s t) {v} : Keeps s (t.inferenceWrite v).1 := h.setObj.when (·.plainUpdate)
theorem Keeps.berthKeepWrite (h : Keeps s t) {v} : Keeps s (t.berthKeepWrite v).1 := .iteFst h h.setObj
theorem Keeps.straitWrite (h : Keeps s t) {v} : Keeps s (t.straitWrite v).1 := h.straitEnableWrite.when (·.trigger)
theorem Keeps.execDetectorBackoffEnd (h : Keeps s t) {lane} : OutKeeps s (execDetectorBackoffEnd lane t) := by
  refine .next ?_
  split
  · exact h.elapseTo
  · exact h
theorem Keeps.execTripAutoResume (h : Keeps s t) : OutKeeps s (execTripAutoResume t) := by
  refine .next ?_
  split
  · exact h.elapseTo.clearTrip
  · exact h

/-! ### Heat -/

theorem Keeps.setSensor (h : Keeps s t) {n v} : Keeps s (t.setSensor n v) := h.upd
theorem Keeps.markSensor (h : Keeps s t) {n b} : Keeps s (t.markSensor n b) := .ite h h.upd.event
theorem Keeps.setDuty (h : Keeps s t) {q v} : Keeps s (t.setDuty q v) := h.upd
theorem Keeps.holdDuties (h : Keeps s t) : Keeps s t.holdDuties := h.each fun h => .ite h.setDuty h
theorem Keeps.dieSample (h : Keeps s t) {n v} : Keeps s (t.dieSample n v) := by
  refine .ite ?_ ?_
  · exact .ite h.setSensor.markSensor (.ite h.setSensor.setSensor h.setSensor)
  · exact .ite h.setSensor.markSensor.setSensor h.setSensor
theorem Keeps.stackSample (h : Keeps s t) {n v} : Keeps s (t.stackSample n v) := by
  refine .ite h ?_
  split
  · exact h.setSensor.markSensor
  · exact .ite h.setSensor.markSensor h.setSensor
theorem Keeps.coolWatch (h : Keeps s t) : Keeps s t.coolWatch := h.upd
theorem Keeps.sample (h : Keeps s t) {n v} : Keeps s (t.sample n v) := by
  unfold State.sample
  extract_lets +onlyGivenNames old read held hot
  have hread : Keeps s read := by
    refine .ite h.stackSample ?_
    split
    · exact h
    · exact .ite h.dieSample (.ite h h.setSensor)
  have hheld : Keeps s held := hread.holdDuties
  exact .ite h (.coolWatch (.ite hheld.ctr.trip hheld))
theorem Keeps.forecastNow (h : Keeps s t) : Keeps s t.forecastNow := h.upd
theorem Keeps.exchange (h : Keeps s t) {p r} : Keeps s (t.exchange p r) := h.setRot.ctr.each fun h => .ite h.wakeQuad h.wantIsle
theorem Keeps.rotateStep (h : Keeps s t) {p} : Keeps s (t.rotateStep p).1 := by
  unfold State.rotateStep
  dsimp only
  split
  · exact h
  · refine .iteFst h.setRot ?_
    split
    · exact .iteFst h.exchange.setEvBit h
    · exact h
theorem Keeps.rotBoundary (h : Keeps s t) {p} : Keeps s (t.rotBoundary p) := by
  unfold State.rotBoundary
  split
  · exact h
  · exact .ite h (.ite h.elapseTo.setRot.setEvBit h.elapseTo.exchange)
theorem Keeps.throttle (h : Keeps s t) {n engaged} : Keeps s (t.throttle n engaged) := by
  refine .ite h ?_
  refine .ite ?_ ?_
  · refine .ite h ?_
    split
    · exact h.setDuty.ctr
    · exact h
  · refine .ite ?_ ?_
    · split
      · exact h.setDuty
      · exact h
    · exact h
theorem Keeps.forecastStep (h : Keeps s t) : Keeps s t.forecastStep := by
  refine .ite h ?_
  extract_lets t1 r t2
  have hr : Keeps s r.1 := .foldlFst h.forecastNow.holdDuties fun h => h.rotateStep
  exact hr.each (·.throttle) |>.setEv
theorem Keeps.unitSecond (h : Keeps s t) {u'} : Keeps s (t.unitSecond u') := by
  unfold State.unitSecond
  split
  · exact h
  · exact h.upd
theorem Keeps.tripClearWrite (h : Keeps s t) {v} : Keeps s (t.tripClearWrite v).1 := .iteFst h (.iteFst h h.clearTrip)
theorem Keeps.reloadPeer (h : Keeps s t) {i} : Keeps s (t.reloadPeer i) := by
  unfold State.reloadPeer
  split
  · exact .ite h.upd.sendSegReq h
  · exact h
theorem Keeps.ctrlWd (h : Keeps s t) : Keeps s t.ctrlWd :=
  h.ctr.ctr.each (·.fenceProducer) |>.each (·.reloadPeer) |>.each (fun h => h.when (·.beginAuth)) |>.each (·.traceSync) |>.faultRec

/-! ### Queue commands -/

theorem Keeps.execQueuePop (h : Keeps s t) {q bad fixed} : OutKeeps s (execQueuePop q bad fixed t) := by
  refine .next ?_
  refine .ite h ?_
  refine .ite h.bulkPop ?_
  dsimp only
  split
  · exact h.pop.when (·.creditBack.flushWork) |>.emit
  · exact h.pop

/-! ### Start, updates and Off -/

theorem Keeps.takeKept (h : Keeps s t) {fuel es} : Keeps s (t.takeKept fuel es) := by
  induction fuel generalizing t es with
  | zero => exact h
  | succ fuel ih => exact .ite h (ih (.ite h.setObj h))
theorem Keeps.keptRewrite (h : Keeps s t) : Keeps s t.keptRewrite := .ite h h.flashErase.flashWrite.upd
theorem Keeps.keptChanged (h : Keeps s t) : Keeps s t.keptChanged := .ite h h.upd
theorem Keeps.keptRead (h : Keeps s t) : Keeps s t.keptRead := by
  refine .keptChanged ?_
  refine .extend (.setObj ?_)
  split
  · exact h.takeKept.upd
  · exact h.upd.setEv
theorem Keeps.step2 (h : Keeps s t) : Keeps s t.step2 := .ite h.extend.extend h.extend.extend.setEv.setPair.restrict
theorem Keeps.step4 (h : Keeps s t) : Keeps s t.step4 := by
  unfold State.step4
  extract_lets r
  have hr : Keeps s r.1 := h.keptRead.selectBank
  split
  · exact hr.setPair.upd.restrict
  · extract_lets t1 rec t2 d
    have hd : Keeps s d.1 := hr.upd.setObj.decidePair
    exact hd.when (·.restrict)
theorem Keeps.step5 (h : Keeps s t) : Keeps s t.step5 := h.upd.setObj.when (·.trigger)
theorem Keeps.start (h : Keeps s t) {keep} : Keeps s (t.start keep) := by
  unfold State.start
  extract_lets +onlyGivenNames blank t1 clk0 clk pwr t2
  have h2 : Keeps s t2 := h.lost
  exact h2.step2.step4.step5
theorem Keeps.toOff (h : Keeps s t) : Keeps s t.toOff := h.lost
theorem Keeps.updateCommit (h : Keeps s t) {kind img} : Keeps s (t.updateCommit kind img) :=
  h.extend.setObj.setObj.setEv.flashErase.flashWrite.upd
theorem Keeps.programDone (h : Keeps s t) {ok} : Keeps s (t.programDone ok) := by
  unfold State.programDone
  split
  · exact h
  · exact .ite h.upd.flashWrite.setEv h.upd.setEv
theorem Keeps.restartWrite (h : Keeps s t) {v} : Keeps s (t.restartWrite v).1 := .iteFst h (.iteFst h h.upd)
theorem Keeps.restartNow (h : Keeps s t) : Keeps s t.restartNow := by
  unfold State.restartNow
  split
  · exact h
  · exact h.elapseTo.keptRewrite.start
theorem Keeps.stepTime (h : Keeps s t) {t'} : Keeps s (t.stepTime t') := h.upd.ctr
theorem Keeps.pps (h : Keeps s t) {off} : Keeps s (t.pps off) := by
  unfold State.pps
  extract_lets +onlyGivenNames now
  refine .ite h ?_
  extract_lets +onlyGivenNames clk t1
  have h1 : Keeps s t1 := h.upd
  split
  · exact h1.upd.stepTime
  · extract_lets +onlyGivenNames cap e a good lock clk t2
    have h2 : Keeps s t2 := h1.upd
    clear_value e lock
    exact (Keeps.ite h2.upd.ctr h2.upd.setObj).setEv
theorem Keeps.ppsLost (h : Keeps s t) : Keeps s t.ppsLost := by
  unfold State.ppsLost
  split
  · exact h
  · exact h.elapseTo.upd.setEv
theorem Keeps.timeSetWrite (h : Keeps s t) {v} : Keeps s (t.timeSetWrite v).1 := h.upd
theorem Keeps.timeSetLate (h : Keeps s t) : Keeps s t.timeSetLate := by
  unfold State.timeSetLate
  split
  · exact h
  · exact h.elapseTo.upd.stepTime

/-! ### Observation -/

theorem Keeps.setLatch (h : Keeps s t) {fn v} : Keeps s (t.setLatch fn v) := h.upd
theorem Keeps.latch (h : Keeps s t) {fn} : Keeps s (t.latch fn) := .ite h (.ite h.setLatch h.setLatch)
theorem Keeps.latchDone (h : Keeps s t) {fn} : Keeps s (t.latchDone fn) := by
  unfold State.latchDone
  dsimp only
  split
  · exact h
  · exact h.setLatch.when (·.latch)
theorem Keeps.watchHangs (h : Keeps s t) : Keeps s t.watchHangs := h.upd
theorem Keeps.dumpBytes (h : Keeps s t) {u' waits mask} : Keeps s (t.dumpBytes u' waits mask).2 := h.upd
theorem Keeps.dumpNow (h : Keeps s t) {u'} : Keeps s (t.dumpNow u') := .ite h.ctr h.dumpBytes.upd.ctr.setEv
theorem Keeps.hang (h : Keeps s t) {u'} : Keeps s (t.hang u') := .ite h h.elapseTo.upd.dumpNow
theorem Keeps.dumpClearWrite (h : Keeps s t) {v} : Keeps s (t.dumpClearWrite v).1 := .iteFst h h.upd.setEv
theorem Keeps.hangReleaseWrite (h : Keeps s t) {v} : Keeps s (t.hangReleaseWrite v).1 :=
  .iteFst h (h.each fun h => h.setSched.each fun h => .ite h.setCore h).upd
theorem Keeps.inspectBytes (h : Keeps s t) : Keeps s t.inspectBytes.2 := by
  unfold State.inspectBytes
  dsimp only
  split
  · exact .iteSnd h h.upd
  · exact h

/-! ### Values read of BLOB objects -/

theorem Keeps.blobValue (h : Keeps s t) {n idx sub} : Keeps s (t.blobValue n idx sub).2 :=
  .iteSnd (.iteSnd h (.iteSnd h h)) (.iteSnd h (.iteSnd h (.iteSnd h.inspectBytes h)))

/-! ### Writes of objects -/

theorem Keeps.keep (h : Keeps s t) {k v} : Keeps s (t.keep k v).1 := h.setEv
theorem Keeps.keepIf (h : Keeps s t) {k code v} {ok : State → Bool} : Keeps s (t.keepIf k code ok v).1 := .iteFst h.setEv h
theorem Keeps.keepFlash (h : Keeps s t) {k v} : Keeps s (t.keepFlash k v).1 := .ite h h.setEv.keptChanged
theorem Keeps.writeLights (h : Keeps s t) {k flash v} : Keeps s (t.writeLights k flash v).1 := (Keeps.ite h.keepFlash h.setEv).settleLights
theorem Keeps.followWrite (h : Keeps s t) {v} : Keeps s (t.followWrite v).1 :=
  .iteFst (h.setEv.each fun h => .ite h.follow (.ite h.setPort.beginTrain h)) h.setEv
theorem Keeps.floorWrite (h : Keeps s t) {k v} : Keeps s (t.floorWrite k v).1 := h.setEv.floorWake
theorem Keeps.statsClearWrite (h : Keeps s t) {v} : Keeps s (t.statsClearWrite v).1 := .ite h h.upd
theorem Keeps.poolWrite (h : Keeps s t) {k v} : Keeps s (t.poolWrite k v).1 := .iteFst h (.ite (h.setEv.each (·.setReg)) h.setEv)
theorem Keeps.serveWrite (h : Keeps s t) {v} : Keeps s (t.serveWrite v).1 := h.setEv.each (·.relist)
theorem Keeps.hbmWrite (h : Keeps s t) {v} : Keeps s (t.hbmWrite v).1 := .iteFst h h.hbmApply
theorem Keeps.shadowWrite (h : Keeps s t) {k v} : Keeps s (t.shadowWrite k v).1 := .iteFst h h.setEv
theorem Keeps.remark (h : Keeps s t) : Keeps s t.remark := h.each (·.markEq) |>.each (·.markWork)
theorem Keeps.marksWrite (h : Keeps s t) {lo hi k code v} : Keeps s (t.marksWrite lo hi k code v).1 := .ite h.keepIf.remark h.keepIf
theorem Keeps.verdictWrite (h : Keeps s t) {k v} : Keeps s (t.verdictWrite k v).1 := .iteFst h h.setEv
theorem Keeps.destWrite (h : Keeps s t) {k v} : Keeps s (t.destWrite k v).1 := .iteFst h (.iteFst h h.setEv)
theorem writers_keep : ∀ w ∈ writers, WriteKeeps w.2 := by
  simp only [writers, List.forall_mem_cons]
  refine ⟨(·.keepFlash), (·.keepFlash), (·.keepIf), (·.keepFlash), (·.inferenceWrite), (·.keepFlash), (·.restartWrite), (·.coreHoldWrite),
    (·.berthKeepWrite), (·.floorWrite), (·.timeSetWrite), (·.tripClearWrite), (·.isleRestoreWrite), (·.traceEnableWrite), (·.traceExtWrite),
    (·.traceExtWrite), (·.dumpClearWrite), (·.hangReleaseWrite), (·.portModeWrite), (·.portModeWrite), (·.portModeWrite), (·.portModeWrite),
    (·.portModeWrite), (·.portModeWrite), (·.portModeWrite), (·.portModeWrite), (·.portEnableWrite), (·.portEnableWrite), (·.followWrite),
    (·.keepIf), (·.keepIf), (·.keepIf), (·.setEv), (·.meterApplyWrite), (·.shadowWrite), (·.shadowWrite), (·.shadowWrite), (·.marksWrite),
    (·.marksWrite), (·.marksWrite), (·.marksWrite), (·.keepIf), (·.statsClearWrite), (·.hbmWrite), (·.poolWrite), (·.poolWrite),
    (·.straitWrite), (·.serveWrite), (·.offerRegion), (·.withdrawOffer), (·.fetchApply), (·.writeLights), (·.writeLights),
    (·.optThresholdWrite), (·.optThresholdWrite), (·.optThresholdWrite), (·.optThresholdWrite), ?_⟩
  exact fun w hw => absurd hw List.not_mem_nil
theorem Keeps.vlanWrite (h : Keeps s t) {k p v} : Keeps s (t.vlanWrite k p v).1 := h.keepIf
theorem Keeps.shareWrite (h : Keeps s t) {p v} : Keeps s (t.shareWrite p v).1 := h.keepIf
theorem Keeps.keepAfter {r : State × Nat} (h : Keeps s r.1) {k v} : Keeps s (keepAfter k r v).1 := .iteFst h.setObj h
theorem partWriters_keep : ∀ w ∈ partWriters, ∀ p, WriteKeeps (w.2 · p ·) := by
  simp only [partWriters, List.forall_mem_cons]
  refine ⟨fun _ => (·.vlanWrite), fun _ => (·.vlanWrite), fun _ => (·.verdictWrite), fun _ => (·.verdictWrite), fun _ => (·.verdictWrite),
    fun _ => (·.destWrite), fun _ => (·.destWrite), fun _ => (·.destWrite), fun _ => (·.destWrite), fun _ => (·.marksWrite),
    fun _ => (·.marksWrite), fun _ => (·.t1SlotWrite), fun _ => (·.shareWrite), fun _ => (·.swapWrite.keepAfter),
    fun _ => (·.slotLoadWrite.keepAfter), fun _ => (·.slotLoadWrite.keepAfter), fun _ => (·.slotLoadWrite.keepAfter),
    fun _ => (·.slotLoadWrite.keepAfter), fun _ => (·.slotUnloadWrite.keepAfter), fun _ => (·.slotUnloadWrite.keepAfter),
    fun _ => (·.slotUnloadWrite.keepAfter), fun _ => (·.slotUnloadWrite.keepAfter), fun _ => (·.recoverResumeWrite),
    fun _ => (·.partQuadsWrite), fun _ => (·.floorWrite), ?_⟩
  exact fun w hw => absurd hw List.not_mem_nil
/-- A rule found by its key is one of its table's rules. -/
theorem mem_of_lookup {β : Type} {ws : List (Nat × β)} {k : Nat} {f : β} (h : ws.lookup k = some f) : (k, f) ∈ ws := by
  obtain ⟨l₁, l₂, rfl, -⟩ := List.lookup_eq_some_iff.1 h
  exact List.mem_append_right _ List.mem_cons_self
theorem Keeps.writeObj (h : Keeps s t) {idx sub v} : Keeps s (t.writeObj idx sub v).1 := by
  refine .iteFst ?_ (.iteFst h.cartDriveWrite (.iteFst h.cartReleaseWrite ?_))
  · split
    · next hf => exact partWriters_keep _ (mem_of_lookup hf) _ h
    · exact h.keep
  · split
    · next hf => exact writers_keep _ (mem_of_lookup hf) h
    · exact h.keep
theorem Keeps.commitBlob (h : Keeps s t) {sub img} : Keeps s (t.commitBlob sub img).1 := .iteFst h.updateCommit h.ctr

/-! ### Cuhild's requests -/

theorem Keeps.expireHandles (h : Keeps s t) {p} : Keeps s (t.expireHandles p) := h.killHandles.when (·.traceResume)
theorem Keeps.respond (h : Keeps s t) {node prio ep op seq code payload} : Keeps s (t.respond node prio ep op seq code payload) := by
  refine .send ?_
  split
  · exact h.updAgent
  · exact h
theorem Keeps.respondClaim (h : Keeps s t) {n code via payload} : Keeps s (t.respondClaim n code via payload) := h.updAgent.send
theorem Keeps.closeWindow (h : Keeps s t) : Keeps s t.closeWindow := by
  unfold State.closeWindow
  dsimp only
  split
  · exact h.upd
  · refine h.upd.changeOwner.each fun h => ?_
    split
    · exact h
    · exact h.setAgent.each (·.respondClaim)
theorem Keeps.catchUp (h : Keeps s t) : Keeps s t.catchUp := by
  unfold State.catchUp
  extract_lets +onlyGivenNames leased windowed
  have hleased : Keeps s leased := by
    unfold leased
    split
    · exact .ite h.leaseExpiry h
    · exact h
  have hwindowed : Keeps s windowed := by
    unfold windowed
    split
    · exact .ite hleased.closeWindow hleased
    · exact hleased
  exact hwindowed.expireHandles
theorem Keeps.countStale (h : Keeps s t) {code} : Keeps s (t.countStale code) := h.when (·.ctr)
theorem Keeps.feedNonce (h : Keeps s t) {n seq} : Keeps s (t.feedNonce n seq) := h.updAgent
theorem Keeps.abort (h : Keeps s t) {code} : Keeps s (t.abort code).1 := h.countStale
theorem Keeps.doRead (h : Keeps s t) {n scope seq idx sub} : Keeps s (t.doRead n scope seq idx sub).1 :=
  .iteFst h.abort (h.when (·.feedNonce))
theorem Keeps.doReadMulti (h : Keeps s t) {n scope refs} : Keeps s (t.doReadMulti n scope refs).1 := .iteFst h.abort h
theorem Keeps.doWrite (h : Keeps s t) {n scope e idx sub typ val} : Keeps s (t.doWrite n scope e idx sub typ val).1 :=
  .iteFst h.abort (.iteFst h.abort h.writeObj)
theorem Keeps.newHandle (h : Keeps s t) : Keeps s t.newHandle.2 := h.fresh
theorem Keeps.addHandle (h : Keeps s t) {h'} : Keeps s (t.addHandle h') := h.upd
theorem Keeps.dropHandle (h : Keeps s t) {id} : Keeps s (t.dropHandle id) := h.upd.when (·.traceResume)
theorem Keeps.updHandle (h : Keeps s t) {id f} : Keeps s (t.updHandle id f) := h.upd
theorem Keeps.doOpenRead (h : Keeps s t) {n scope idx sub} : Keeps s (t.doOpenRead n scope idx sub).1 :=
  .iteFst h.abort (h.blobValue.newHandle.when (·.ctr)).addHandle
theorem Keeps.doOpenWrite (h : Keeps s t) {n scope e idx sub len} : Keeps s (t.doOpenWrite n scope e idx sub len).1 :=
  .iteFst h.abort (.iteFst h.abort (.iteFst h.abort (.iteFst h.abort (.iteFst h.abort h.newHandle.addHandle.trigger))))
theorem Keeps.useHandle (h : Keeps s t) {n e id ok} {go : Handle → Answer} (hgo : ∀ x, Keeps s (go x).1) :
    Keeps s (t.useHandle n e id ok go).1 := by
  unfold State.useHandle
  split
  · exact h.abort
  · refine .iteFst h.abort (.iteFst h.abort ?_)
    split
    · exact h.dropHandle.abort
    · exact hgo _
theorem Keeps.doSeg (h : Keeps s t) {n e id count off data} : Keeps s (t.doSeg n e id count off data).1 :=
  h.useHandle fun _ => .iteFst (.iteFst h.abort (.iteFst h.abort h.updHandle.updHandle)) (.iteFst h.abort h.updHandle)
theorem Keeps.doClose (h : Keeps s t) {n e id action crc} : Keeps s (t.doClose n e id action crc).1 :=
  h.useHandle fun _ => .iteFst h.dropHandle (.iteFst h.dropHandle.abort (.iteFst h.dropHandle.abort
    (.iteFst h.dropHandle.commitBlob.abort h.dropHandle.commitBlob)))
theorem Keeps.doClaim (h : Keeps s t) {n ep scope seq prio nonce} : Keeps s (t.doClaim n ep scope seq prio nonce).1 :=
  .iteFst h.abort (.iteFst h.abort h.upd.updAgent)
theorem Keeps.doYield (h : Keeps s t) {n e target} : Keeps s (t.doYield n e target).1 :=
  .iteFst h.abort (.iteFst (.fst h.changeOwner) (.iteFst (.fst h.changeOwner) h.abort))
theorem Keeps.doGrant (h : Keeps s t) {n e p a} : Keeps s (t.doGrant n e p a).1 := by
  refine .iteFst h.abort ?_
  split
  · exact h.abort
  · exact .iteFst h.abort (.iteFst h.abort (.iteFst h.abort h.setEv))
theorem Keeps.doRevoke (h : Keeps s t) {n e p} : Keeps s (t.doRevoke n e p).1 := .iteFst h.abort h.endDeleg
theorem Keeps.doHeartbeat (h : Keeps s t) {n e num} : Keeps s (t.doHeartbeat n e num).1 := .iteFst (.iteFst (.iteFst h h.abort) h.upd) h
theorem Keeps.doRegister (h : Keeps s t) {ep} : Keeps s (t.doRegister ep).1 := by
  unfold State.doRegister
  split
  · exact h.abort
  · exact h.setAgent
theorem Keeps.doNotify (h : Keeps s t) {n ep mask} : Keeps s (t.doNotify n ep mask).1 := .iteFst h.abort h.updAgent
theorem Keeps.execute (h : Keeps s t) {n r b} : Keeps s (t.execute n r b).1 := by
  refine .iteFst h.abort ?_
  refine .iteFst h.abort ?_
  split
  · split
    · exact .iteFst h.doRegister h.abort
    · exact h.abort
  · split
    · exact h.doRead
    · exact h.doWrite
    · exact h.doReadMulti
    · exact .iteFst h.doOpenRead h.doOpenWrite
    · exact h.doSeg
    · exact h.doClose
    · exact h.doClaim
    · exact h.doYield
    · exact h.doHeartbeat
    · exact h.doGrant
    · exact h.doRevoke
    · exact h.doNotify
    · exact h.abort
    · exact h.abort
theorem Keeps.run (h : Keeps s t) {n r b} : Keeps s (t.run n r b) := by
  unfold State.run
  dsimp only
  split
  · split
    · exact h.ctr.execute.updAgent
    · exact h.ctr.execute
  · exact h.ctr.execute.respond
theorem Keeps.request (h : Keeps s t) {r b} : Keeps s (t.request r b) := by
  refine .ite h ?_
  extract_lets t1
  have h1 : Keeps s t1 := h.catchUp
  split
  · exact h1.run
  · extract_lets t2
    have h2 : Keeps s t2 := h1.updAgent
    split
    · exact h2
    · split
      · exact h2.send
      · exact .ite h2 (.ite h2.ctr h2.run)
theorem Keeps.submit (h : Keeps s t) {ep msg} : Keeps s (t.submit ep msg) := by
  refine .ite h ?_
  split
  · exact h.ctr
  · exact h.request
theorem Keeps.reqWrite (h : Keeps s t) {r idx sub v} : Keeps s (t.reqWrite r idx sub v) := h.request

/-! ### Requests by transport -/

theorem Keeps.serveBox (h : Keeps s t) {fuel fn} : Keeps s (t.serveBox fuel fn) := by
  induction fuel generalizing t with
  | zero => exact h
  | succ fuel ih =>
    unfold State.serveBox
    dsimp only
    split
    · exact h
    · exact .ite (ih h.setBox.submit) h
theorem Keeps.doorbell (h : Keeps s t) {fn producer slots} : Keeps s (t.doorbell fn producer slots) := .ite h h.setBox.trigger.serveBox
theorem Keeps.deliverRsp (h : Keeps s t) {fn} : Keeps s (t.deliverRsp fn) := by
  unfold State.deliverRsp
  dsimp only
  split
  · exact h
  · exact .ite h h.setBox.putRsp
theorem Keeps.pumpAll (h : Keeps s t) : Keeps s t.pumpAll := h.each (·.pump)
theorem Keeps.bar0Write (h : Keeps s t) {fn off v} : Keeps s (t.bar0Write fn off v) := by
  unfold State.bar0Write
  dsimp only
  split
  · exact h.setBox
  · exact h.setBox.pumpAll
  · exact h.setBox
  · exact h
theorem Keeps.bar2Write (h : Keeps s t) {fn off v} : Keeps s (t.bar2Write fn off v) :=
  .ite (.ite h.setRing h) (.ite (.ite h.setCRing h) (.ite h.setBRing h))
theorem Keeps.windowClear (h : Keeps s t) {v} : Keeps s (t.windowClear v) := .ite h.upd h
theorem Keeps.mmio (h : Keeps s t) {fn bar off v} : Keeps s (t.mmio fn bar off v) :=
  .ite h (.ite (.ite h.bar0Write h) (.ite (.ite h.bar2Write h) (.ite (.ite h.windowClear h) h)))
theorem Keeps.bar2Door (h : Keeps s t) {set : State → State} (hset : ∀ {u}, Keeps s u → Keeps s (set u)) :
    Keeps s (t.bar2Door set) := .ite h (hset h).trigger
theorem Keeps.windowGo (h : Keeps s t) {msg} : Keeps s (t.windowGo msg) := by
  refine .ite h ?_
  refine .ite h.ctr ?_
  dsimp only
  split
  · exact h.upd.upd.ctr
  · exact h.upd.request
theorem Keeps.setCanPart (h : Keeps s t) {n p} : Keeps s (t.setCanPart n p) := h.upd
theorem Keeps.canDrop (h : Keeps s t) {n} : Keeps s (t.canDrop n) := .ite h.setCanPart.ctr h
theorem Keeps.canFrame (h : Keeps s t) {id classic data} : Keeps s (t.canFrame id classic data) := by
  unfold State.canFrame
  extract_lets +onlyGivenNames src current seg first started old
  have hcurrent : Keeps s current := by
    unfold current
    split
    · exact .ite h.canDrop h
    · exact h
  have hstarted : Keeps s started := .ite hcurrent.canDrop hcurrent
  clear_value started old
  refine .ite h ?_
  refine .ite h.ctr ?_
  refine .ite h ?_
  split
  · exact hstarted
  · refine .ite hstarted.setCanPart.canDrop ?_
    exact .ite hstarted.setCanPart.upd.submit hstarted.setCanPart
theorem Keeps.canLate (h : Keeps s t) {n} : Keeps s (t.canLate n) := by
  unfold State.canLate
  split
  · exact h
  · exact h.elapseTo.canDrop
theorem Keeps.straitMsg (h : Keeps s t) {src msg} : Keeps s (t.straitMsg src msg) := h.submit
theorem Keeps.fnReset (h : Keeps s t) {fn} : Keeps s (t.fnReset fn) :=
  .ite h (h.deregisterIf.when (·.upd) |>.each fun h => .ite h.endLease h)
theorem Keeps.idleAgent (h : Keeps s t) {n} : Keeps s (t.idleAgent n) := by
  unfold State.idleAgent
  split
  · exact h
  · exact .ite h h.elapseTo.deregister
theorem Keeps.handleLate (h : Keeps s t) {id} : Keeps s (t.handleLate id) := by
  unfold State.handleLate
  split
  · exact h
  · exact h.elapseTo.expireHandles
theorem Keeps.execClaimWindowClose (h : Keeps s t) : OutKeeps s (execClaimWindowClose t) := by
  refine .next ?_
  split
  · exact h.elapseTo.closeWindow
  · exact h
theorem Keeps.execOwnerLeaseExpiry (h : Keeps s t) : OutKeeps s (execOwnerLeaseExpiry t) := by
  refine .next ?_
  split
  · exact h.elapseTo.leaseExpiry
  · exact h

/-! ### Frames in -/

theorem Keeps.frameIn (h : Keeps s t) {f} : Keeps s (t.frameIn f) := .ite h (.ite h.portIn (.ite h.portIn.ctr.submit h.portIn.pipe))
theorem Keeps.packetIn (h : Keeps s t) {i p} : Keeps s (t.packetIn i p) := by
  unfold State.packetIn
  dsimp only
  split
  · exact h.straitMsg
  · exact h.heartbeatIn
  · exact h.admitRequest
  · exact h.admitReply
  · exact h.registryIn
  · exact h.creditIn
  · exact .ite h.lockRelease h.lockRequest
  · exact h.lockReply
  · exact h.remoteWork
  · exact h.remoteResult
  · exact h.fetchSegment.streamSegment
  · exact h.streamSegment
  · exact h.segRequest
  · exact h
theorem Keeps.passOn (h : Keeps s t) {p} : Keeps s (t.passOn p) := .ite h.ctr (.ite h.forward h)
theorem Keeps.flitTake (h : Keeps s t) {i b0 p} : Keeps s (t.flitTake i b0 p) := by
  unfold State.flitTake
  dsimp only
  split
  · exact .ite h.setStrait.packetIn h.setStrait.passOn
  · exact h.setStrait
theorem Keeps.flitIn (h : Keeps s t) {i raw} : Keeps s (t.flitIn i raw) := by
  refine .ite h ?_
  refine .ite h.flitNak ?_
  exact .ite h.flitBad (.ite (.ite h.flitBad h.linkIn) (.ite h (.ite h.flitNak (.ite h.flitBad h.acked.flitTake))))

/-! ### Scalar instructions -/

theorem Keeps.scalarOpWord (h : Keeps s t) {core w xd xa xb xc} : ResKeeps s (scalarOpWord core w xd xa xb xc t) := .useX (.ok h.setCore)
theorem Keeps.branchWord (h : Keeps s t) {core w xa xb target} : ResKeeps s (branchWord core w xa xb target t) :=
  .useX (.ite (.ok h.setCore) (.ok h))
theorem Keeps.scalarLoadStoreWord (h : Keeps s t) {core store x' off eccBad} :
    ResKeeps s (scalarLoadStoreWord core store x' off eccBad t) :=
  .ite (.need (.useX (.ok h.memWrite))) (.need (.ok (h.when (·.storeEcc)).setCore))
theorem Keeps.xmovWord (h : Keeps s t) {core toPeer peer off peerOff len eccBad} :
    ResKeeps s (xmovWord core toPeer peer off peerOff len eccBad t) :=
  .need (.ok (h.when (·.storeEcc)).memWrite)
theorem Keeps.qbarWord (h : Keeps s t) {core barrier mask} : ResKeeps s (qbarWord core barrier mask t) := .ok h.setCore
theorem Keeps.opsetWord (h : Keeps s t) {core layer oper} : ResKeeps s (opsetWord core layer oper t) := .ok h.setCore
theorem Keeps.doneWord (h : Keeps s t) {core} : ResKeeps s (doneWord core t) := .useX (.ok h.setCore.ctr.opCount)
theorem Keeps.waitWord (h : Keeps s t) : ResKeeps s (waitWord t) := .ok h

/-! ### Vector instructions -/

theorem Keeps.vectorOpWord (h : Keeps s t) {core w vd va vb vc} : ResKeeps s (vectorOpWord core w vd va vb vc t) := .useV (.ok h.setCore)
theorem Keeps.vldWord (h : Keeps s t) {core v off eccBad} : ResKeeps s (vldWord core v off eccBad t) :=
  .need (.ok (h.when (·.storeEcc)).setCore)
theorem Keeps.vstWord (h : Keeps s t) {core v off} : ResKeeps s (vstWord core v off t) := .need (.useV (.ok h.memWrite))
theorem Keeps.vtlWord (h : Keeps s t) {core v tile row} : ResKeeps s (vtlWord core v tile row t) := .waitIf (.need (.need (.ok h.setCore)))
theorem Keeps.vtsWord (h : Keeps s t) {core tile row v} : ResKeeps s (vtsWord core tile row v t) :=
  .waitIf (.need (.useV (.ok h.freeTag.setCore)))
theorem Keeps.vsideWord (h : Keeps s t) {core ts srow td drow width xbase} : ResKeeps s (vsideWord core ts srow td drow width xbase t) :=
  .useX (.waitIf (.need (.need (.need (.need (.need (.need (.need (.need (.ok (h.when (·.upd)).setCore.addCtr))))))))))

/-! ### Issue -/

theorem Keeps.effect (h : Keeps s t) {a} : ResKeeps s (t.effect a) := by
  unfold State.effect
  split
  · exact h.scalarOpWord
  · exact h.branchWord
  · exact h.scalarLoadStoreWord
  · exact h.xmovWord
  · exact h.qbarWord
  · exact h.opsetWord
  · exact h.doneWord
  · exact h.waitWord
  · exact h.vectorOpWord
  · exact h.vldWord
  · exact h.vstWord
  · exact h.vtlWord
  · exact h.vtsWord
  · exact h.vsideWord
  · exact h.tcfgWord
  · exact h.trelWord
  · exact h.csldWord
  · exact h.tldWord
  · exact h.tldCvExpandWord
  · exact h.tldCvWidenWord
  · exact h.tldCvQuantiseWord
  · exact h.tstWord
  · exact h.acfgWord
  · exact h.wldWord
  · exact h.astrWord
  · exact h.astrTWord
  · exact h.aewWord
  · exact h.rqWord
  · exact h.rstatWord
  · exact .ok h
theorem Keeps.runBundle (h : Keeps s t) {ws} : Keeps s (t.runBundle ws).1 := by
  unfold State.runBundle
  refine .foldlFst h fun {b x} h => ?_
  have he := h.effect (a := x.2.2)
  split
  · exact h
  · split
    · next hr => rw [hr] at he; exact he
    · exact h
    · exact h
theorem Keeps.releaseBarrier (h : Keeps s t) {n b} : Keeps s (t.releaseBarrier n b) := h.each (·.setCore.trySave)
theorem Keeps.afterWord (h : Keeps s t) {c a} : Keeps s (t.afterWord c a) := by
  unfold State.afterWord
  split
  · exact h.endCmd
  · exact h.releaseBarrier
  · exact h
theorem Keeps.issueBundle (h : Keeps s t) {c ws} : Keeps s (t.issueBundle c ws) := by
  unfold State.issueBundle
  dsimp only
  split
  · exact h.when (·.opCount)
  · split
    · exact h.runBundle.coreFault
    · exact h.runBundle.advance.foldl (·.afterWord)
theorem Keeps.issue (h : Keeps s t) {c w slot ok fields i} : Keeps s (t.issue c w slot ok fields i) :=
  .ite h (.ite h.coreFault (.ite h (.ite h.coreFault (.ite h.issueBundle h.setCore))))

/-! ### The idle tick -/

theorem Keeps.tick (h : Keeps s t) : Keeps s t.tick := h.elapse.watchIdle.watchCores.watchHangs
theorem Keeps.idleTick (h : Keeps s t) : Keeps s (idleTick t) := .ite h.tick.upd h

/-! ### The step -/

theorem Keeps.exec (h : Keeps s t) {i} : OutKeeps s (exec i t) := by
  cases i with
  | read => exact .next h.request
  | write => exact .next h.request
  | readMulti => exact .next h.request
  | blobOpen => exact .next h.request
  | blobSeg => exact .next h.request
  | blobClose => exact .next h.request
  | claim => exact .next h.request
  | claimWindowClose => exact h.execClaimWindowClose
  | yield => exact .next h.request
  | heartbeat => exact .next h.request
  | grant => exact .next h.request
  | revoke => exact .next h.request
  | notify => exact .next h.request
  | ownerLeaseExpiry => exact h.execOwnerLeaseExpiry
  | agentIdleExpiry => exact .next h.idleAgent
  | blobHandleTimeout => exact .next h.handleLate
  | mailboxDoorbell => exact .next h.doorbell
  | mailboxResponseDeliver => exact .next h.deliverRsp
  | mmioRegisterWrite => exact .next h.mmio
  | configWindowGo => exact .next h.windowGo
  | canFdFrame => exact .next h.canFrame
  | canReassemblyTimeout => exact .next h.canLate
  | pcieFunctionReset => exact .next h.fnReset
  | porstNRelease => exact .ite (.next h) (.ite (.next h.start) .fault)
  | porstNAssert => exact .next h.toOff
  | aonLoss => exact .next h.toOff
  | coreClockStart => exact .next h.clockStart
  | startInferenceWrite => exact .next h.reqWrite
  | powerCoreHoldWrite => exact .next h.reqWrite
  | rxSignalDetect => exact .next h.rxSignal
  | pllLockRetry => exact .next h.pllRetryNow
  | coreClockStop => exact .next h.clockStop
  | berthKeepWrite => exact .next h.reqWrite
  | keptObjectRewrite => exact .next h.keptRewrite
  | nonceFeedRead => exact .next h.request
  | attestReportOpen => exact .next h.request
  | updateProgrammingDone => exact .next h.programDone
  | updRestartWrite => exact .next h.reqWrite
  | restart => exact .next h.restartNow
  | ppsEdge => exact .next h.pps
  | ppsLossTimeout => exact .next h.ppsLost
  | timeSetWrite => exact .next h.reqWrite
  | timeSetTimeout => exact .next h.timeSetLate
  | napEntry => exact .next h.nap
  | dozeEntry => exact .next h.dozeEntry
  | isleOffEntry => exact .next h.offEntry
  | residencyEntryDone => exact .next h.entryDone
  | residencyWake => exact .next (.ite h.wake h)
  | slotRearm => exact .next h.rearm
  | partQuadsWrite => exact .next h.reqWrite
  | ownerDutyWrite => exact .next h.reqWrite
  | frameIngress => exact .next h.frameIn
  | holdLimitExpiry => exact .next (h.when (·.holdLimit))
  | frameTransmit => exact .next h.transmit
  | xoffInChange => exact .next (h.when (·.setEvBit))
  | meterApply => exact .next h.reqWrite
  | linkLoss => exact .next (h.when (·.linkLoss))
  | linkUp => exact .next h.portLink
  | holdDeadline => exact h.execHoldDeadline
  | dampEnd => exact h.execDampEnd
  | seriesClose => exact .next (.ite h h.elapseTo.setPort)
  | portEnableWrite => exact .next h.reqWrite
  | portModeWrite => exact .next h.reqWrite
  | trainTimeout => exact .next h.trainTimeout
  | learnInsert => exact h.execLearnInsert
  | statsUpdate => exact .next h.applyStat
  | flowRingDoorbell => exact .next (.ite (h.bar2Door (·.setRing.renewRing) |>.each (·.serveDesc)) h)
  | flowRingEnable => exact .next (.ite h (.ite (.ite h.setRing h.ringEnable) h.ringDisable))
  | ringKeepAlive => exact .next (.ite h.renewRing h)
  | readKey => exact .next (h.descriptor (·.flowOp))
  | readSlot => exact .next (h.descriptor (·.flowOp))
  | scan => exact .next (h.descriptor (·.flowOp))
  | insert => exact .next (h.descriptor (·.flowOp))
  | update => exact .next (h.descriptor (·.flowOp))
  | delete => exact .next (h.descriptor (·.flowOp))
  | ageDelete => exact .next (h.descriptor (·.flowOp))
  | lock => exact .next (h.descriptor (·.flowOp))
  | unlock => exact .next (h.descriptor (·.flowOp))
  | trieWrite => exact .next (h.descriptor (·.flowOp))
  | trieRead => exact .next (h.descriptor (·.flowOp))
  | lockLeaseExpiry => exact .next (.ite h.elapseTo.endLease.ctr.faultRec h)
  | lockSweepDone => exact .next h.sweepDone
  | shadowPass => exact .next h.scrub
  | queuePush => exact .next (.ite h.ctr (.ite (h.when (·.moved)).push h))
  | queueCommit => exact .next ((h.when (·.setStrait)).commit.when (·.wantIsle))
  | queuePop => exact h.execQueuePop
  | queueRewind => exact .next h.rewind
  | spillRefillLand => exact .next h.refillLand
  | collectorRingDeliver => exact .next (h.when (·.collRing))
  | collectorFrameSend => exact .next (h.when (·.collFrame))
  | recordFetchComplete => exact h.execRecordFetchComplete
  | nodeFetchComplete => exact .next h.nodeFetched
  | tier1Result => exact h.execTier1Result
  | schedulerDispatch => exact .next h.schedule
  | scalarOp => exact .next h.issue
  | branch => exact .next h.issue
  | scalarLoadStore => exact .next h.issue
  | vectorOp => exact .next h.issue
  | vld => exact .next h.issue
  | vst => exact .next h.issue
  | vtl => exact .next h.issue
  | vts => exact .next h.issue
  | vside => exact .next h.issue
  | xmov => exact .next h.issue
  | qbar => exact .next h.issue
  | opset => exact .next h.issue
  | done => exact .next h.issue
  | wait => exact .next h.issue
  | tcfg => exact .next h.issue
  | trel => exact .next h.issue
  | csld => exact .next h.issue
  | tld => exact .next h.issue
  | tldCvExpand => exact .next h.issue
  | tldCvQuantise => exact .next h.issue
  | tldCvWiden => exact .next h.issue
  | tst => exact .next h.issue
  | acfg => exact .next h.issue
  | wld => exact .next h.issue
  | wldComplete => exact h.execWldComplete
  | astr => exact .next h.issue
  | astrT => exact .next h.issue
  | aew => exact .next h.issue
  | astrChunkCommit => exact h.execAstrChunkCommit
  | rq => exact .next h.issue
  | rstat => exact .next h.issue
  | preemptRequest => exact .next (.ite h.setCore.trySave h)
  | contextRestore => exact .next (.ite h.setCore.ctr h)
  | coreReset => exact .next (h.when (·.resetCore))
  | qStatsClear => exact .next h.reqWrite
  | slotLoad => exact .next h.reqWrite
  | slotUnload => exact .next h.reqWrite
  | hbmApply => exact .next h.reqWrite
  | bundleRingDoorbell => exact .next (.ite (h.bar2Door (·.setBRing) |>.each (·.serveBundle)) h)
  | bundleHostToRegion => exact .next h.bundleOp
  | bundleRegionToHost => exact .next h.bundleOp
  | tier2Result => exact .next (h.when (·.tier2Result))
  | t2Timeout => exact .next h.t2Expire
  | swap => exact .next h.reqWrite
  | t1SlotWrite => exact .next h.reqWrite
  | drainComplete => exact .next h.drainDone
  | gapArmDone => exact .next h.gapArmed
  | straitEnableWrite => exact .next h.reqWrite
  | straitTrained => exact .next (.ite h.straitInit h)
  | straitTrainTimeout => exact .next (.ite h.straitWait.straitDown h)
  | straitInitDone => exact .next (.ite h.straitJoined h)
  | straitInitTimeout => exact .next (.ite h.straitWait.straitDown h)
  | straitLinkLoss => exact .next (.ite h.straitDown h)
  | straitRetrain => exact .next (.ite h.straitWait.straitTrain h)
  | flitReceive => exact .next h.flitIn
  | nakReceive => exact .next h.nakIn
  | replayTimeout => exact h.execReplayTimeout
  | ackIdleTimeout => exact .next (.ite h.elapseTo.linkFlit (.ite h.elapseTo.linkFlit h))
  | straitCuhildMessage => exact .next h.straitMsg
  | poolHeartbeat => exact .next h.heartbeatIn
  | heartbeatPeriod => exact .next h.heartbeatOut
  | admissionRequest => exact .next h.admitRequest
  | admissionReply => exact .next h.admitReply
  | memberLost => exact .next (.ite h.elapseTo.loseMember h)
  | registryUpdate => exact .next h.registryIn
  | workCredit => exact .next h.creditIn
  | replicaLockRequest => exact .next h.lockRequest
  | replicaLockReply => exact .next h.lockReply
  | replicaLockVoid => exact .next h.lockVoid
  | segmentRequest => exact .next h.segRequest
  | bundleSegment => exact .next h.fetchSegment.streamSegment
  | weightStreamSegment => exact .next h.streamSegment
  | remoteWork => exact .next h.remoteWork
  | remoteResult => exact .next h.remoteResult
  | offerRegion => exact .next h.reqWrite
  | withdrawOffer => exact .next h.reqWrite
  | fetchApply => exact .next h.reqWrite
  | fetchComplete => exact .next h.fetchComplete
  | cartridgeOccupied => exact .next h.occupied
  | cartridgeVacated => exact .next h.vacated
  | cartridgeReady => exact .next h.cartReady
  | cartridgeReadyTimeout => exact .next h.readyLate
  | challengeDone => exact .next h.challenged
  | challengeTimeout => exact .next h.challengeLate
  | cartridgeFwInstallTimeout => exact .next h.installLate
  | opticalMonitorSample => exact .next h.optSample
  | relightAttempt => exact .next h.relight
  | lightUsable => exact .next h.lightReady
  | lifeAccrual => exact .next h.lifeSecond
  | lifeRecordWrite => exact .next h.lifeWrite
  | cartridgeRelease => exact .next h.reqWrite
  | driveSetpointWrite => exact .next h.reqWrite
  | allowUnauthWrite => exact .next h.reqWrite
  | sensorSample => exact .next h.sample
  | forecastStep => exact .next h.forecastStep
  | rotationExchange => exact .next h.rotBoundary
  | thermalCycleSample => exact .next (.ite (h.each (·.unitSecond)) h)
  | externalTrip => exact .next (.ite h.ctr.trip h)
  | tripClear => exact .next h.reqWrite
  | tripAutoResume => exact h.execTripAutoResume
  | soundTransferFail => exact .next (h.when fun h => h.addCtr.when (·.soundFail))
  | coreWatchdog => exact .next h.coreWd
  | isleWatchdog => exact .next h.isleWd
  | ctrlWatchdog => exact .next (h.when (·.ctrlWd))
  | isleRestore => exact .next h.reqWrite
  | isleAutoRestore => exact .next (.ite h h.elapseTo.upd.startRestore)
  | restoreTrainTimeout => exact .next h.restoreFail
  | recoverResume => exact .next h.reqWrite
  | counterLatch => exact .next h.latch
  | hangDetect => exact .next h.hang
  | dumpClear => exact .next h.reqWrite
  | hangRelease => exact .next h.reqWrite
  | inspectOpen => exact .next h.request
  | traceReadOpen => exact .next h.request
  | traceFrameClose => exact .next (.ite h h.elapseTo.closeFrame)
  | traceTimePeriod => exact .next h.tracePacket
  | powerGoodArrive => exact .next h.powerGood
  | powerGoodTimeout => exact .next h.railLate
  | powerGoodFall => exact .next h.railFall
  | pllLockLoss => exact .next h.pllLost
  | perstNAssert => exact .next h.upd
  | perstNRelease => exact .next h.upd.pumpAll
  | slotLoadComplete => exact .next h.loadComplete
  | restartArmingDone => exact .next h.restartArmed
  | soundTrained => exact .next h.soundTrained
  | counterLatchComplete => exact .next h.latchDone
  | detectorBackoffEnd => exact h.execDetectorBackoffEnd
  | reverseEnableDrop => exact .next h.nextDrop

/-- A step that answers a next state keeps: it runs a command of the queue, or lets a grain tick pass. -/
theorem step_keeps (e : step s = .next t) : Keeps s t := by
  unfold step at e
  split at e
  · next c rest _ =>
    have hs : Keeps s { s with pending := rest } := (Keeps.refl s).upd
    have hc := hs.exec (i := c)
    rw [e] at hc
    exact hc
  · cases e
    exact (Keeps.refl s).idleTick

/-- Settles O59: a step that answers a next state keeps (`step_keeps`), whichever command it runs. -/
theorem everyStepKeepsTheInvariant : Obligations.EveryStepKeepsTheInvariant :=
  ⟨fun _ _ i e => (step_keeps e).inv i, fun _ _ e => (step_keeps e).dev⟩

end Sys2Proof.Machine
end

section
/-! What a step does with the queue (O53): it runs the command at the front, or lets a grain tick pass. -/
namespace Sys2Proof.Machine

/-- With a command at the front of the queue, a step executes it on the state with the queue's rest. -/
theorem step_cons (s : State) (c : Instr) (rest : List Instr) : step { s with pending := c :: rest } = exec c { s with pending := rest } := rfl

/-- On an empty queue a step is one idle tick. -/
theorem step_nil {s : State} (hp : s.pending = []) : step s = .next (idleTick s) := by
  simp [step, hp]

/-- A grain tick moves the clock and what the block watches without a command; the rest stands. -/
theorem tick_rest (s : State) :
    s.tick = { s with clk := (s.elapse 1).clk, pwr := { s.pwr with idleAt := s.tick.pwr.idleAt }, res := { s.res with idle := s.tick.res.idle },
                      obs := { s.obs with watch := s.tick.obs.watch } } := rfl

/-- Out of Off, an idle tick is a grain tick with the events due at it in the queue. -/
theorem idleTick_on {s : State} (ho : s.on = true) : idleTick s = { s.tick with pending := dueEvents s.tick } := by
  simp [idleTick, ho]

/-- In Off an idle tick changes nothing. -/
theorem idleTick_off {s : State} (ho : s.on = false) : idleTick s = s := by
  simp [idleTick, ho]

/-- Settles O53: by the queue's two cases, and the two of an empty queue. -/
theorem stepRunsTheFrontCommand : Obligations.StepRunsTheFrontCommand := by
  refine ⟨step_cons, fun s hp ho => ?_, fun s hp ho => ?_⟩
  · have hq : { s.tick with pending := [] } = s.tick := by rw [← hp]; rfl
    refine ⟨{ s.tick with pending := dueEvents s.tick }, ?_, rfl, elapse_ticks s 1, ?_, ?_⟩
    · rw [step_nil hp, idleTick_on ho]
    · exact congrArg dueEvents hq.symm
    · rw [tick_rest]
  · rw [step_nil hp, idleTick_off ho]

end Sys2Proof.Machine
end

section
/-! The canonical form at reset (O58). -/
namespace Sys2Proof.Machine

/-- Settles O58: at reset memory and flash list nothing. -/
theorem invariantAtReset : Obligations.InvariantAtReset := ⟨rfl, rfl⟩

end Sys2Proof.Machine
end

section
/-! What memory reads as after a write, in whole runs of bytes. -/
namespace Sys2Proof.Machine

/-- Exactly `n` bytes are `n` bytes. -/
@[simp] theorem padTo_length (n : Nat) (bs : Bytes) : (padTo n bs).length = n := by
  simp only [padTo, zeros, List.length_append, List.length_take, List.length_replicate]
  omega

/-- Bytes just written read back. -/
theorem Memory.readAll_writeAll (m : List (Nat × Byte)) (a : Nat) (bs : Bytes) :
    Memory.readAll (Memory.writeAll m a bs) a bs.length = bs := by
  induction bs generalizing m a with
  | nil => rfl
  | cons b bs ih =>
    have hb : Memory.read (Memory.writeAll (Memory.write m a b) (a + 1) bs) a = b := by
      rw [Memory.read_writeAll_other _ _ _ _ (.inl (Nat.lt_succ_self a)), Memory.read_write_same]
    simp only [Memory.writeAll, List.length_cons, Memory.readAll, hb, ih]

/-- What is sent does not change what memory reads as. -/
@[simp] theorem memRead_emit (s : State) (o : Out) (a n : Nat) : (s.emit o).memRead a n = s.memRead a n := rfl

/-- A write of exactly `n` bytes reads back. -/
theorem memRead_memWrite_padTo (s : State) (a n : Nat) (bs : Bytes) : (s.memWrite a (padTo n bs)).memRead a n = padTo n bs := by
  have h := Memory.readAll_writeAll s.mem a (padTo n bs)
  rwa [padTo_length] at h

end Sys2Proof.Machine
end

section
/-! Operations that the bundle ring uses: start triggers, what a stack reports of a read, completions. -/
namespace Sys2Proof.Machine

/-- A start trigger changes what the power sequencer waits for, and nothing else (R133). -/
theorem trigger_rest (s : State) (reason : Nat) : s.trigger reason = { s with pwr := (s.trigger reason).pwr } := by
  unfold State.trigger
  repeat' split
  all_goals rfl

/-- A counter counts `n`, modulo 2^64; every other object is as before (R432). -/
theorem addCtr_obj (s : State) (k n j : Nat) : (s.addCtr k n).obj j = if j = k then (s.obj k + n) % 2 ^ 64 else s.obj j :=
  obj_setObj s k _ j

/-- A read without a failed burst only counts what the stack reports (R348). -/
theorem stackErrs_of_not_failed (s : State) (n part addr : Nat) {e : Bursts} (he : e.failed = false) :
    s.stackErrs n part addr e = s.stackCount e := by
  simp [State.stackErrs, he]

/-- What the stack corrected is counted. -/
theorem stackCount_corrected (s : State) (e : Bursts) :
    (s.stackCount e).obj Obj.ctrHbmEccCorrected = (s.obj Obj.ctrHbmEccCorrected + e.fixed) % 2 ^ 64 := by
  have hu : Obj.ctrHbmEccCorrected ≠ Obj.ctrHbmEccUncorrectable := by decide
  have he : Obj.ctrHbmEccCorrected ≠ Obj.ctrHbmE2eFail := by decide
  rw [State.stackCount, addCtr_obj, if_neg he, addCtr_obj, if_neg hu, addCtr_obj, if_pos rfl]

/-- Every object but the three counters of R348 is as before. -/
theorem stackCount_obj_other (s : State) (e : Bursts) {j : Nat}
    (hj : ¬ j ∈ [Obj.ctrHbmEccCorrected, Obj.ctrHbmEccUncorrectable, Obj.ctrHbmE2eFail]) : (s.stackCount e).obj j = s.obj j := by
  simp only [List.mem_cons, List.not_mem_nil, or_false, not_or] at hj
  obtain ⟨hc, hu, he⟩ := hj
  rw [State.stackCount, addCtr_obj, if_neg he, addCtr_obj, if_neg hu, addCtr_obj, if_neg hc]

/-- Completing a descriptor only sends (R197). -/
theorem complete_rest (s : State) (fn : Nat) (r : Ring) (c : Bytes) (vec : Nat) :
    (s.complete fn r c vec).1 = { s with out := (s.complete fn r c vec).1.out } := by
  unfold State.complete State.when
  split <;> rfl

/-- The completion record leaves, and what had left stays in the log. -/
theorem mem_complete_out {s : State} {fn : Nat} {r : Ring} {c : Bytes} {vec : Nat} {o : Out}
    (h : o = .dma fn (r.comp + 32 * (r.cp % r.entries)) c ∨ o ∈ s.out) : o ∈ (s.complete fn r c vec).1.out := by
  have hdma : o ∈ (s.emit (.dma fn (r.comp + 32 * (r.cp % r.entries)) c)).out := List.mem_cons.2 h
  unfold State.complete State.when
  split
  · exact List.mem_cons_of_mem _ hdma
  · exact hdma

end Sys2Proof.Machine
end

section
/-! The bundle ring (O43, R350): what a doorbell does, what is left of a descriptor once its ring has served it, and from that each transfer. -/
namespace Sys2Proof.Machine
open Sys2Proof.Claims

/-! ### The doorbell -/

/-- The submission pointer of a bundle ring is written. -/
def bundleBell (fn producer : Nat) (s : State) : State := s.setBRing fn { s.bRing fn with sp := producer % (s.bRing fn).wrap }

/-- A doorbell serves what is fetched now, in order, once the pointer is written. -/
theorem exec_bundleRingDoorbell (s : State) {fn : Nat} (producer : Nat) (fetched : List (Bytes × Bytes)) (hfn : fn ≤ 16) :
    exec (.bundleRingDoorbell fn ⟨producer, fetched⟩) s =
      .next (fetched.foldl (fun x d => x.serveBundle fn d.1 d.2) (s.bar2Door (bundleBell fn producer))) :=
  congrArg Host.Outcome.next (if_pos hfn)

/-- With the link up a doorbell in BAR2 is written, and is a start trigger (R133). -/
theorem bar2Door_of_linkOn {s : State} (set : State → State) (hl : s.linkOn = true) : s.bar2Door set = (set s).trigger 3 := by
  simp [State.bar2Door, hl]

/-- A doorbell that finds nothing to fetch leaves the new pointer, the objects and the storage as they were. -/
theorem bundleRingDoorbell_sets_pointer (s : State) (fn producer : Nat) (hfn : fn ≤ 16) (hl : s.linkOn = true) :
    ∃ t, exec (.bundleRingDoorbell fn ⟨producer, []⟩) s = .next t ∧
      t.bRing fn = { s.bRing fn with sp := producer % (s.bRing fn).wrap } ∧ t.objs = s.objs ∧ storageSame s t := by
  refine ⟨(bundleBell fn producer s).trigger 3, ?_, ?_⟩
  · rw [exec_bundleRingDoorbell s producer [] hfn, bar2Door_of_linkOn _ hl]; rfl
  · rw [trigger_rest]
    exact ⟨bRing_setBRing_same s fn _, rfl, fun _ => rfl, rfl⟩

/-- The commands of the two operations do what the ring does with a descriptor of their code. -/
theorem exec_bundle_eq_serveBundle (s : State) (fn : Nat) (b buf : Bytes) :
    (byteAt b 0 = 0x01 → exec (.bundleHostToRegion (bdescOf fn b buf)) s = .next (s.serveBundle fn b buf)) ∧
    (byteAt b 0 = 0x02 → exec (.bundleRegionToHost (bdescOf fn b buf)) s = .next (s.serveBundle fn b buf)) := by
  constructor <;> intro hop <;> rw [State.serveBundle, hop] <;> rfl

/-! ### A descriptor that its ring serves -/

/-- The bundle ring of function `fn` serves a descriptor now (R194, R350): the function has one, PCIe is up, the ring is enabled, a descriptor is
there, and its completion has room. -/
structure BundleServes (s : State) (fn : Nat) : Prop where
  fn_le : fn ≤ 16
  pcie : s.pcie = true
  en : (s.bRing fn).en = true
  submitted : (s.bRing fn).sp ≠ (s.bRing fn).sc
  room : (s.bRing fn).room = true

/-- The checks of R350 that both transfers share. -/
structure BundleChecked (s : State) (d : BDesc) (write : Bool) : Prop where
  region_lt : d.region < 64
  len_pos : 1 ≤ d.len
  len_le : d.len ≤ 16777216
  holder : if d.fn = 0 then (s.region d.region).holder ≠ 0xFF else (s.region d.region).holder = d.fn - 1
  epoch : d.epoch % 65536 = (s.region d.region).epoch % 65536
  fits : d.off + d.len ≤ (s.region d.region).size * mib
  hbm : s.domain 1 = true
  reach : s.addrOk ((s.region d.region).base + d.off) d.len write = true

/-- A descriptor that passes the checks, and whose region no slot holds if it writes, ends with status 0. -/
theorem bundleStatus_zero {s : State} {d : BDesc} {write : Bool} (h : BundleChecked s d write) (hw : (write && s.heldBySlot d.region) = false) :
    s.bundleStatus d write = 0 := by
  obtain ⟨hr, h1, h2, hh, he, hf, hd, ha⟩ := h
  have hbad : ¬ (if d.fn = 0 then (s.region d.region).holder == 0xFF else (s.region d.region).holder != d.fn - 1) = true := by
    by_cases h0 : d.fn = 0 <;> simpa [h0] using hh
  have hargs : ¬ (64 ≤ d.region ∨ d.len = 0 ∨ 16777216 < d.len) := by omega
  have hplace : ¬ ((s.region d.region).size * mib < d.off + d.len ∨ s.addrOk ((s.region d.region).base + d.off) d.len write = false ∨
      s.domain 1 = false) := by simp [ha, hd, hf]
  unfold State.bundleStatus
  simp only [if_neg hargs, he, ne_eq, not_true_eq_false, if_false, if_neg hbad, hw, Bool.false_eq_true, if_neg hplace]

/-- The state once a bundle ring has read its descriptor from the host. -/
def bundleFetched (s : State) (d : BDesc) : State := s.emit (.dmaRead d.fn ((s.bRing d.fn).descAt 64) 64)

/-- State `u`, where the descriptor that the ring of `s` served has had its effect, once the ring has completed it with status `st`. -/
def bundleCompleted (s u : State) (op : Nat) (d : BDesc) (st : Nat) : State :=
  let r := s.bRing d.fn
  let c := u.complete d.fn { r with sc := (r.sc + 1) % r.wrap, epoch := (s.region d.region).epoch % 65536 } (completion d.cookie op { st := st })
    (if d.fn = 0 then 70 else 8)
  c.1.setBRing d.fn c.2

section
variable {s : State} {d : BDesc}

/-- A code that is no operation ends with status 10 and has no effect. -/
theorem bundleOp_unknown (h : BundleServes s d.fn) {op : Nat} (h1 : op ≠ 1) (h2 : op ≠ 2) :
    s.bundleOp op d false = bundleCompleted s (bundleFetched s d) op d 10 := by
  obtain ⟨hf, hp, he, hs, hr⟩ := h
  simp [State.bundleOp, bundleCompleted, bundleFetched, h1, h2, hp, he, hs, hr, Nat.not_lt.2 hf]

/-- Host to region with status 0: the host's bytes are read and written into the region. -/
theorem bundleOp_write (h : BundleServes s d.fn) (hst : s.bundleStatus d true = 0) :
    s.bundleOp 0x01 d true = bundleCompleted s (((((bundleFetched s d).emit (.dmaRead d.fn d.host d.len)).memWrite
      ((s.region d.region).base + d.off) (padTo d.len d.data)).movedStack (ensStack (s.region d.region).base) d.len)) 0x01 d 0 := by
  obtain ⟨hf, hp, he, hs, hr⟩ := h
  simp [State.bundleOp, bundleCompleted, bundleFetched, hst, hp, he, hs, hr, Nat.not_lt.2 hf]

/-- Region to host with status 0 and no failed burst: the region's bytes are sent and what the stack reports is counted. -/
theorem bundleOp_read (h : BundleServes s d.fn) (hst : s.bundleStatus d false = 0) (herr : d.err.failed = false) :
    s.bundleOp 0x02 d false = bundleCompleted s ((((bundleFetched s d).emit (.dma d.fn d.host
      (s.memRead ((s.region d.region).base + d.off) d.len))).movedStack (ensStack (s.region d.region).base) d.len).stackCount d.err) 0x02 d 0 := by
  obtain ⟨hf, hp, he, hs, hr⟩ := h
  simp [State.bundleOp, bundleCompleted, bundleFetched, hst, hp, he, hs, hr, Nat.not_lt.2 hf, stackErrs_of_not_failed _ _ _ _ herr]

variable (s d) (u : State) (op st : Nat)

/-- Completing a bundle descriptor changes its ring and what leaves, and nothing else. -/
theorem bundleCompleted_rest :
    bundleCompleted s u op d st = { u with out := (bundleCompleted s u op d st).out, flow := (bundleCompleted s u op d st).flow } := by
  unfold bundleCompleted
  dsimp only
  rw [complete_rest]
  rfl

/-- The ring's consumer of descriptors moves on by one. -/
theorem bundleCompleted_sc : ((bundleCompleted s u op d st).bRing d.fn).sc = ((s.bRing d.fn).sc + 1) % (s.bRing d.fn).wrap := by
  simp only [bundleCompleted, bRing_setBRing_same, State.complete]

/-- The ring's producer of completions moves on by one. -/
theorem bundleCompleted_cp : ((bundleCompleted s u op d st).bRing d.fn).cp = ((s.bRing d.fn).cp + 1) % (s.bRing d.fn).wrap := by
  simp only [bundleCompleted, bRing_setBRing_same, State.complete, Ring.wrap, Ring.entries]

variable {u op st}

/-- What had left before the completion stays in the log. -/
theorem bundleCompleted_keeps_out {o : Out} (h : o ∈ u.out) : (bundleCompleted s u op d st).out.contains o = true :=
  List.contains_iff_mem.2 (mem_complete_out (.inr h))

/-- The completion record goes to the place of the old producer (R197). -/
theorem bundleCompleted_sends :
    (bundleCompleted s u op d st).out.contains
      (.dma d.fn ((s.bRing d.fn).comp + 32 * ((s.bRing d.fn).cp % (s.bRing d.fn).entries)) (completion d.cookie op { st := st })) = true :=
  List.contains_iff_mem.2 (mem_complete_out (.inl rfl))

end

/-! ### The operations of R350 -/

/-- A code that is no operation completes with status 10 and changes neither objects nor storage. -/
theorem serveBundle_unknown {s : State} {fn : Nat} (b buf : Bytes) (h : BundleServes s fn) (h1 : byteAt b 0 ≠ 1) (h2 : byteAt b 0 ≠ 2) :
    (s.serveBundle fn b buf).out.contains (.dma fn ((s.bRing fn).comp + 32 * ((s.bRing fn).cp % (s.bRing fn).entries))
      (completion (leAt b 4 4) (byteAt b 0) { st := 10 })) = true ∧
    (s.serveBundle fn b buf).objs = s.objs ∧ storageSame s (s.serveBundle fn b buf) := by
  have hs : s.serveBundle fn b buf = bundleCompleted s (bundleFetched s (bdescOf fn b buf)) (byteAt b 0) (bdescOf fn b buf) 10 := by
    rw [State.serveBundle, beq_false_of_ne h1]
    exact bundleOp_unknown (d := bdescOf fn b buf) h h1 h2
  rw [hs]
  refine ⟨bundleCompleted_sends s (bdescOf fn b buf), ?_⟩
  rw [bundleCompleted_rest]
  exact ⟨rfl, fun _ => rfl, rfl⟩

/-- Host to region: the region reads as the host's bytes, and no other byte of memory changes. -/
theorem bundleHostToRegion_writes {s : State} {d : BDesc} (h : BundleServes s d.fn) (hc : BundleChecked s d true)
    (hheld : s.heldBySlot d.region = false) :
    ∃ t, exec (.bundleHostToRegion d) s = .next t ∧
      t.memRead ((s.region d.region).base + d.off) d.len = padTo d.len d.data ∧
      memoryBut s t ((s.region d.region).base + d.off) d.len ∧
      t.out.contains (.dma d.fn ((s.bRing d.fn).comp + 32 * ((s.bRing d.fn).cp % (s.bRing d.fn).entries))
        (completion d.cookie 0x01 { st := 0 })) = true ∧
      (t.bRing d.fn).sc = ((s.bRing d.fn).sc + 1) % (s.bRing d.fn).wrap ∧
      (t.bRing d.fn).cp = ((s.bRing d.fn).cp + 1) % (s.bRing d.fn).wrap ∧
      t.objs = s.objs ∧ t.flash = s.flash := by
  refine ⟨_, congrArg Host.Outcome.next (bundleOp_write h (bundleStatus_zero hc (by simp [hheld]))), ?_, ?_, bundleCompleted_sends s d,
    bundleCompleted_sc s d _ _ _, bundleCompleted_cp s d _ _ _, ?_⟩
  · rw [bundleCompleted_rest]
    exact memRead_memWrite_padTo s _ _ _
  · rw [bundleCompleted_rest]
    intro x hx
    exact memWrite_read_other s _ x _ (by rwa [padTo_length])
  · rw [bundleCompleted_rest]
    exact ⟨rfl, rfl⟩

/-- Region to host: the region's bytes are sent, the storage stays, and what the stack corrected is counted. -/
theorem bundleRegionToHost_sends {s : State} {d : BDesc} (h : BundleServes s d.fn) (hc : BundleChecked s d false) (herr : d.err.failed = false) :
    ∃ t, exec (.bundleRegionToHost d) s = .next t ∧
      t.out.contains (.dma d.fn d.host (s.memRead ((s.region d.region).base + d.off) d.len)) = true ∧
      t.out.contains (.dma d.fn ((s.bRing d.fn).comp + 32 * ((s.bRing d.fn).cp % (s.bRing d.fn).entries))
        (completion d.cookie 0x02 { st := 0 })) = true ∧
      (t.bRing d.fn).sc = ((s.bRing d.fn).sc + 1) % (s.bRing d.fn).wrap ∧
      (t.bRing d.fn).cp = ((s.bRing d.fn).cp + 1) % (s.bRing d.fn).wrap ∧
      t.obj Obj.ctrHbmEccCorrected = (s.obj Obj.ctrHbmEccCorrected + d.err.fixed) % 2 ^ 64 ∧
      objsBut s t [Obj.ctrHbmEccCorrected, Obj.ctrHbmEccUncorrectable, Obj.ctrHbmE2eFail] ∧
      storageSame s t := by
  refine ⟨_, congrArg Host.Outcome.next (bundleOp_read h (bundleStatus_zero hc rfl) herr), bundleCompleted_keeps_out s d ?_,
    bundleCompleted_sends s d, bundleCompleted_sc s d _ _ _, bundleCompleted_cp s d _ _ _, ?_⟩
  · exact List.mem_cons_self
  · rw [bundleCompleted_rest]
    exact ⟨stackCount_corrected _ d.err, fun j hj _ _ => stackCount_obj_other _ d.err hj, fun _ => rfl, rfl⟩

/-- Settles O43: the doorbell, the tie of the commands to the ring, and the three ends of a descriptor that the ring serves. -/
theorem bundleRings : Obligations.BundleRings := by
  refine ⟨bundleRingDoorbell_sets_pointer, fun s u fn producer fetched hu hfn => ?_, exec_bundle_eq_serveBundle,
    fun s fn b buf h1 h2 hf hp he hs hr => serveBundle_unknown b buf ⟨hf, hp, he, hs, hr⟩ h1 h2,
    fun s d hf hp he hs hr hg hl hl' hh hep hfit hd hheld ha =>
      bundleHostToRegion_writes ⟨hf, hp, he, hs, hr⟩ ⟨hg, hl, hl', hh, hep, hfit, hd, ha⟩ hheld,
    fun s d hf hp he hs hr hg hl hl' hh hep hfit hd herr ha =>
      bundleRegionToHost_sends ⟨hf, hp, he, hs, hr⟩ ⟨hg, hl, hl', hh, hep, hfit, hd, ha⟩ herr⟩
  rw [exec_bundleRingDoorbell s producer [] hfn] at hu
  rw [exec_bundleRingDoorbell s producer fetched hfn, ← Host.Outcome.next.inj hu]
  rfl

end Sys2Proof.Machine
end

section
/-! What a command answers (O55, R91): a next state, but for the release of PORST_N without its conditions. -/
namespace Sys2Proof.Machine

/-- Without its conditions, a release of PORST_N in Off stops the model (R91). -/
theorem porstNRelease_undefined {s : State} (ho : s.on = false) : exec (.porstNRelease false) s = .fault .undefinedRelease := by
  simp [exec, execPorstNRelease, ho]

/-- Out of Off a release of PORST_N changes nothing. -/
theorem porstNRelease_on {s : State} (ho : s.on = true) (met : Bool) : exec (.porstNRelease met) s = .next s := by
  simp [exec, execPorstNRelease, ho]

/-- In Off and under its conditions a release of PORST_N starts the device. -/
theorem porstNRelease_starts {s : State} (ho : s.on = false) : exec (.porstNRelease true) s = .next (s.start false) := by
  simp [exec, execPorstNRelease, ho]

/-- Only a release of PORST_N judges whether it has a meaning; every other command's meaning is a next state. -/
theorem completes_of_ne_release {c : Instr} (s : State) (hc : c ≠ .porstNRelease false) : Completes c s := by
  cases c with
  | porstNRelease met =>
    cases met with
    | false => exact absurd rfl hc
    | true =>
      cases ho : s.on with
      | false => exact ⟨_, porstNRelease_starts ho⟩
      | true => exact ⟨_, porstNRelease_on ho true⟩
  | _ => exact ⟨_, rfl⟩

/-- Settles O55: by `completes_of_ne_release`, and the release's own two cases. -/
theorem onlyTheUndefinedReleaseStops : Obligations.OnlyTheUndefinedReleaseStops :=
  ⟨fun s _ hc => completes_of_ne_release s hc, fun _ ho => porstNRelease_undefined ho, fun _ ho => ⟨_, porstNRelease_on ho false⟩⟩

end Sys2Proof.Machine
end

section
/-! Flash after a write and after an erase (R98), and the kept copies and update banks in it (O14, R101, R117). -/
namespace Sys2Proof.Machine
open Sys2Proof.Claims

/-- What the flash address `a` reads as. -/
def State.flashAt (s : State) (a : Nat) : Byte := mget (fun _ => (0xFF : Byte)) s.flash a

/-- A run of flash bytes, byte by byte. -/
theorem flashRead_eq (s : State) (a n : Nat) : s.flashRead a n = (List.range n).map (fun i => s.flashAt (a + i)) := rfl

/-- Programming reads back in its range and leaves the rest. -/
theorem flashAt_flashWrite (s : State) (a x : Nat) (bs : Bytes) :
    (s.flashWrite a bs).flashAt x = if a ≤ x ∧ x < a + bs.length then bs.getD (x - a) 0 else s.flashAt x := by
  suffices h : ∀ (m : List (Nat × Byte)) (k : Nat),
      mget (fun _ => (0xFF : Byte)) ((bs.zipIdx k).foldl (fun m e => mset (fun _ => (0xFF : Byte)) m (a + e.2) e.1) m) x =
        if a + k ≤ x ∧ x < a + k + bs.length then bs.getD (x - (a + k)) 0 else mget (fun _ => (0xFF : Byte)) m x from h s.flash 0
  induction bs with
  | nil =>
    intro m k
    exact (if_neg (by rw [List.length_nil]; omega)).symm
  | cons b bs ih =>
    intro m k
    rw [List.zipIdx_cons, List.foldl_cons, ih, mget_mset, List.length_cons]
    by_cases hx : x = a + k
    · subst hx
      rw [if_neg (by omega), if_pos rfl, if_pos (by omega), Nat.sub_self, List.getD_cons_zero]
    · by_cases hin : a + (k + 1) ≤ x ∧ x < a + (k + 1) + bs.length
      · obtain ⟨i, hi⟩ : ∃ i, x - (a + k) = i + 1 := ⟨x - (a + k) - 1, by omega⟩
        have hi' : x - (a + (k + 1)) = i := by omega
        rw [if_pos hin, if_pos (by omega), hi, hi', List.getD_cons_succ]
      · rw [if_neg hin, if_neg hx, if_neg (by omega)]

/-- Programmed bytes read back. -/
theorem flashRead_flashWrite (s : State) (a : Nat) {bs : Bytes} {n : Nat} (hn : bs.length = n) : (s.flashWrite a bs).flashRead a n = bs := by
  subst hn
  apply List.ext_getElem
  · simp [flashRead_eq]
  · intro i hi hb
    simp [flashRead_eq, flashAt_flashWrite, hb]

/-- An erase leaves what lies outside it. -/
theorem flashAt_flashErase_other (s : State) {a n x : Nat} (hx : x < a ∨ a + n ≤ x) : (s.flashErase a n).flashAt x = s.flashAt x := by
  simp only [State.flashAt, State.flashErase, mget_mdrop, Bool.and_eq_true, decide_eq_true_eq]
  exact if_neg (by omega)

/-! ### The rewrite of the kept objects -/

@[simp] theorem le_length (k n : Nat) : (le k n).length = k := by
  induction k generalizing n with
  | zero => rfl
  | succ k ih => simp [le, ih]

/-- No type of the dictionary is wider than 10 bytes. -/
theorem typeWidth_le (ty : Nat) : typeWidth ty ≤ 10 := by
  unfold typeWidth
  split <;> decide

/-- An entry of a kept copy is at most 15 bytes. -/
theorem keptEntry_length_le (s : State) (k : Nat) : (s.keptEntry k).length ≤ 15 := by
  have hw := typeWidth_le (((keyRow k).map (·.ty)).getD 0)
  simp only [State.keptEntry, List.length_append, le_length]
  omega

/-- The pieces of a list's entries, none longer than `n`, are together at most `n` for each entry. -/
theorem flatMap_length_le {α : Type} {f : α → Bytes} {n : Nat} (hf : ∀ x, (f x).length ≤ n) (xs : List α) :
    (xs.flatMap f).length ≤ n * xs.length := by
  induction xs with
  | nil => exact Nat.zero_le _
  | cons x xs ih =>
    rw [List.flatMap_cons, List.length_append, List.length_cons, Nat.mul_succ, Nat.add_comm]
    exact Nat.add_le_add ih (hf x)

/-- A kept copy fits its 64 KiB. -/
theorem keptBytes_length_le (s : State) (seq : Nat) : (s.keptBytes seq).length ≤ 0x10000 := by
  have hes : (keptObjs.flatMap s.keptEntry).length ≤ 90 := flatMap_length_le (keptEntry_length_le s) keptObjs
  simp only [State.keptBytes, List.length_append, le_length]
  omega

/-- Equal flash reads equally. -/
theorem flashAt_congr {s t : State} (h : t.flash = s.flash) (a : Nat) : t.flashAt a = s.flashAt a := congrArg (mget _ · a) h
theorem flashRead_congr {s t : State} (h : t.flash = s.flash) (a n : Nat) : t.flashRead a n = s.flashRead a n := by
  simp only [flashRead_eq, flashAt_congr h]

/-- A pending rewrite erases the other copy and programs it with the next sequence. -/
theorem keptRewrite_flash {s : State} (hp : s.boot.keptPending = true) :
    s.keptRewrite.flash = ((s.flashErase (keptAt (1 - s.boot.keptCopy)) 0x10000).flashWrite (keptAt (1 - s.boot.keptCopy))
      (s.keptBytes ((s.boot.keptSeq + 1) % 2 ^ 32))).flash := by
  simp only [State.keptRewrite, hp, Bool.not_true, Bool.false_eq_true, if_false]

/-- The other copy is then the one written last, under the next sequence. -/
theorem keptRewrite_boot {s : State} (hp : s.boot.keptPending = true) :
    s.keptRewrite.boot =
      { s.boot with keptPending := false, keptCopy := 1 - s.boot.keptCopy, keptSeq := (s.boot.keptSeq + 1) % 2 ^ 32 } := by
  simp only [State.keptRewrite, hp, Bool.not_true, Bool.false_eq_true, if_false]
  rfl

/-- A rewrite of the kept objects changes flash and what the start knows of the copies, and nothing else. -/
theorem keptRewrite_rest (s : State) : s.keptRewrite = { s with flash := s.keptRewrite.flash, boot := s.keptRewrite.boot } := by
  unfold State.keptRewrite
  split <;> rfl

/-- The rewrite leaves flash outside the 64 KiB of its copy. -/
theorem keptRewrite_flashAt_other {s : State} (hp : s.boot.keptPending = true) {x : Nat}
    (hx : x < keptAt (1 - s.boot.keptCopy) ∨ keptAt (1 - s.boot.keptCopy) + 0x10000 ≤ x) : s.keptRewrite.flashAt x = s.flashAt x := by
  have hl := keptBytes_length_le s ((s.boot.keptSeq + 1) % 2 ^ 32)
  rw [flashAt_congr (keptRewrite_flash hp), flashAt_flashWrite, if_neg (by omega), flashAt_flashErase_other s hx]

/-! ### The end of an update's programming -/

/-- A good read-back writes the magic; the rest is the status and the end of the programming. -/
theorem programDone_good {s : State} {p : Prog} (hp : s.boot.prog = some p) :
    s.programDone true =
      (({ s with boot := { s.boot with prog := none } } : State).flashWrite (bankAt p.kind p.bank).1 (p.image.take 4)).setEv Obj.updStatus 2 := by
  rw [State.programDone, hp]
  rfl
/-- A bad read-back shows its status and ends the programming. -/
theorem programDone_bad {s : State} {p : Prog} (hp : s.boot.prog = some p) :
    s.programDone false = ({ s with boot := { s.boot with prog := none } } : State).setEv Obj.updStatus 3 := by
  rw [State.programDone, hp]
  rfl

/-- Giving an event object a value leaves flash. -/
@[simp] theorem setEv_flash (s : State) (k v : Nat) : (s.setEv k v).flash = s.flash := by rw [setEv_rest]
/-- Giving an event object a value leaves the state of the start. -/
@[simp] theorem setEv_boot (s : State) (k v : Nat) : (s.setEv k v).boot = s.boot := by rw [setEv_rest]
/-- Giving an event object a value changes no other object. -/
theorem setEv_objsBut {s u : State} (hu : u.objs = s.objs) (k v : Nat) : objsBut s (u.setEv k v) [k] := fun j hj _ hn => by
  rw [setEv_obj u k v j hn, if_neg (by simpa using hj), State.obj, hu]
  rfl

/-- Settles O14: the rewrite by what a programmed range reads as, the end of programming by its two outcomes. -/
theorem flashAndUpdates : Obligations.FlashAndUpdates := by
  refine ⟨fun s hp => ⟨s.keptRewrite, rfl, ?_, ?_, ?_, ?_, fun a ha => ?_, ?_⟩, fun s p hp hl => ⟨s.programDone true, rfl, ?_⟩,
    fun s p hp => ⟨s.programDone false, rfl, ?_⟩⟩
  · rw [keptRewrite_boot hp]
  · rw [keptRewrite_boot hp]
  · rw [keptRewrite_boot hp]
  · rw [keptRewrite_boot hp, flashRead_congr (keptRewrite_flash hp), flashRead_flashWrite _ _ rfl]
  · simp [flashRead_eq, keptRewrite_flashAt_other hp ha]
  · rw [keptRewrite_rest]
  · have h4 : (p.image.take 4).length = 4 := by rw [List.length_take]; omega
    rw [programDone_good hp]
    refine ⟨by rw [setEv_boot]; rfl, by rw [setEv_obj _ _ _ _ (by decide), if_pos rfl], ?_, setEv_objsBut (by rfl) _ _⟩
    rw [flashRead_congr (setEv_flash _ _ _), flashRead_flashWrite _ _ h4]
  · rw [programDone_bad hp]
    exact ⟨by rw [setEv_boot], by rw [setEv_obj _ _ _ _ (by decide), if_pos rfl], by rw [setEv_flash], setEv_objsBut (by rfl) _ _⟩

end Sys2Proof.Machine
end

section
/-! Starts and Off (O9, R90, R91, R118, R132): what start steps 1 to 5 leave as they find it, from that the state after a start. -/
namespace Sys2Proof.Machine

/-- The objects that say the device is in Berth, with no domain powered and without an owner. -/
def berthObjs : List Nat := [Obj.powerState, Obj.powerDomains, Obj.ownerAgent]

/-- From `s` to `t` a start step has left flash, memory, the clocks, the device's phase, a restart that is set, and `berthObjs`. -/
structure StartKeeps (s t : State) : Prop where
  flash : t.flash = s.flash
  mem : t.mem = s.mem
  clk : t.clk = s.clk
  phase : t.pwr.phase = s.pwr.phase
  restartAt : t.boot.restartAt = s.boot.restartAt
  obj : ∀ k ∈ berthObjs, t.obj k = s.obj k

section
variable {s t u : State}

theorem StartKeeps.refl (s : State) : StartKeeps s s := ⟨rfl, rfl, rfl, rfl, rfl, fun _ _ => rfl⟩
theorem StartKeeps.ite {c : Prop} [Decidable c] (h : StartKeeps s t) (g : StartKeeps s u) : StartKeeps s (if c then t else u) := by
  split
  · exact h
  · exact g
theorem StartKeeps.when {c : Bool} {f : State → State} (h : StartKeeps s t) (hf : ∀ {u}, StartKeeps s u → StartKeeps s (f u)) :
    StartKeeps s (t.when c f) := .ite (hf h) h

/-- An update of the start's own state that leaves a restart that is set. -/
theorem StartKeeps.setBoot (h : StartKeeps s t) {boot : Boot} (hr : boot.restartAt = t.boot.restartAt) : StartKeeps s { t with boot := boot } :=
  { h with restartAt := hr.trans h.restartAt }
/-- An update of the measurements and of any of the start's own state but the restart. -/
theorem StartKeeps.upd {served recovery firstDone passed harbour isle cart prog keptPending keptDeadline keptSeq keptCopy pairs meas}
    (h : StartKeeps s t) :
    StartKeeps s { t with
      boot := ⟨served, recovery, firstDone, passed, harbour, isle, cart, prog, keptPending, keptDeadline, keptSeq, keptCopy, t.boot.restartAt,
        pairs⟩
      meas := meas } := { h with }
theorem StartKeeps.setObj (h : StartKeeps s t) {k v : Nat} (hk : k ∉ berthObjs := by decide) : StartKeeps s (t.setObj k v) :=
  { h with obj := fun j hj => by rw [obj_setObj_other t k v j (ne_of_mem_of_not_mem hj hk), h.obj j hj] }
theorem StartKeeps.setEv (h : StartKeeps s t) {k v : Nat} (hk : k ∉ berthObjs := by decide) : StartKeeps s (t.setEv k v) := by
  have hn : Obj.ctrNotifyLost ∉ berthObjs := by decide
  have ho : ∀ j ∈ berthObjs, (t.setEv k v).obj j = s.obj j := fun j hj => by
    rw [setEv_obj t k v j (ne_of_mem_of_not_mem hj hn), if_neg (ne_of_mem_of_not_mem hj hk), h.obj j hj]
  rw [setEv_rest] at ho ⊢
  exact { h with obj := ho }
theorem StartKeeps.trigger (h : StartKeeps s t) {reason : Nat} : StartKeeps s (t.trigger reason) := by
  have hp : (t.trigger reason).pwr.phase = t.pwr.phase := by
    unfold State.trigger
    repeat' split
    all_goals rfl
  rw [trigger_rest]
  exact { h with phase := hp.trans h.phase }

/-! ### Measurements and compatibility decisions -/

theorem StartKeeps.extend (h : StartKeeps s t) {i subject : Nat} {d : Bytes} : StartKeeps s (t.extend i subject d) :=
  .ite h.upd.setObj.upd h.upd.setObj.setEv
theorem StartKeeps.setPair (h : StartKeeps s t) {n out a b : Nat} : StartKeeps s (t.setPair n out a b) := h.upd.setEv.setObj.setObj
theorem StartKeeps.decidePair (h : StartKeeps s t) {n : Nat} {x y : Bytes} {scope : Bool} : StartKeeps s (t.decidePair n x y scope).1 :=
  h.extend.setPair
theorem StartKeeps.restrict (h : StartKeeps s t) : StartKeeps s t.restrict := h.setEv.setEv

/-! ### Kept objects and banks -/

/-- No kept object is one of `berthObjs`. -/
theorem not_mem_berthObjs_of_kept {k : Nat} (hk : keptObjs.contains k = true) : k ∉ berthObjs := by
  have hall : ∀ j ∈ keptObjs, j ∉ berthObjs := by decide
  exact hall k (List.contains_iff_mem.1 hk)
theorem StartKeeps.takeKept (h : StartKeeps s t) {fuel : Nat} {es : Bytes} : StartKeeps s (t.takeKept fuel es) := by
  induction fuel generalizing t es with
  | zero => exact h
  | succ fuel ih =>
    refine .ite h (ih ?_)
    split
    · next hc =>
      simp only [Bool.and_eq_true] at hc
      exact h.setObj (not_mem_berthObjs_of_kept hc.1.1)
    · exact h
theorem StartKeeps.keptChanged (h : StartKeeps s t) : StartKeeps s t.keptChanged := .ite h h.upd
theorem StartKeeps.keptRead (h : StartKeeps s t) : StartKeeps s t.keptRead := by
  refine .keptChanged (.extend (.setObj ?_))
  split
  · exact h.takeKept.setBoot (h.restartAt.trans h.takeKept.restartAt.symm)
  · exact h.upd.setEv
theorem StartKeeps.selectBank (h : StartKeeps s t) {kind : Nat} {m : Bool} : StartKeeps s (t.selectBank kind m).1 :=
  each_keeps (StartKeeps s) _ _ (fun _ _ _ hu => .ite hu.extend hu) t h |>.when (·.setObj) |>.upd

/-! ### The steps -/

theorem StartKeeps.step2 (h : StartKeeps s t) : StartKeeps s t.step2 := .ite h.extend.extend h.extend.extend.setEv.setPair.restrict
theorem StartKeeps.step4 (h : StartKeeps s t) : StartKeeps s t.step4 := by
  unfold State.step4
  extract_lets r
  have hr : StartKeeps s r.1 := h.keptRead.selectBank
  split
  · exact hr.setPair.upd.restrict
  · extract_lets t1 rec t2 d
    have hd : StartKeeps s d.1 := hr.upd.setObj.decidePair
    exact hd.when (·.restrict)
theorem StartKeeps.step5 (h : StartKeeps s t) : StartKeeps s t.step5 := h.upd.setObj.when (·.trigger)

end

/-! ### The state after a start -/

/-- The state that start step 1 finds: as at reset but for the clocks, the phase, PERST_N, and what a start keeps. -/
def startBase (s : State) (keep : Bool) : State :=
  { State.reset with
    pending := s.pending, out := s.out, free := s.free, dev := s.dev, flash := s.flash
    clk := if keep then { Clk.init with ticks := s.clk.ticks } else Clk.init
    dbg := if keep then s.dbg else {}
    pwr := { Power.init with phase := 1, perst := s.pwr.perst, pcieUp := s.pwr.pcieUp }
    heat := { units := if keep then unitsRestart s.heat.units else [] } }
theorem start_eq (s : State) (keep : Bool) : s.start keep = (startBase s keep).step2.step4.step5 := rfl

/-- Step 5 ends with Cuhild served. -/
theorem step5_served (s : State) : s.step5.boot.served = true := by
  unfold State.step5 State.when
  extract_lets t1 t2
  split
  · exact congrArg (·.boot.served) (trigger_rest _ 1)
  · rfl

/-- After a start the device is in Berth, unpowered, ownerless and served, with memory lost, flash and the facts of manufacture as before,
and no restart set. -/
structure Started (s t : State) : Prop where
  on : t.on = true
  served : t.boot.served = true
  powerState : t.obj Obj.powerState = 1
  powerDomains : t.obj Obj.powerDomains = 0
  ownerAgent : t.obj Obj.ownerAgent = 0xFF
  mem : ∀ a, Memory.read t.mem a = 0
  flash : t.flash = s.flash
  dev : t.dev = s.dev
  restartAt : t.boot.restartAt = none

theorem start_started (s : State) (keep : Bool) : Started s (s.start keep) := by
  have h : StartKeeps (startBase s keep) (s.start keep) := (StartKeeps.refl _).step2.step4.step5
  exact {
    on := by rw [State.on, h.phase]; rfl
    served := by rw [start_eq, step5_served]
    powerState := h.obj _ (by decide)
    powerDomains := h.obj _ (by decide)
    ownerAgent := h.obj _ (by decide)
    mem := fun a => by rw [h.mem]; rfl
    flash := h.flash
    dev := (Keeps.refl s).start.dev
    restartAt := h.restartAt }
/-- A start sets the clocks, and keeps the grain clock where it is a restart's. -/
theorem start_clk (s : State) (keep : Bool) : (s.start keep).clk = if keep then { Clk.init with ticks := s.clk.ticks } else Clk.init :=
  (StartKeeps.refl (startBase s keep)).step2.step4.step5.clk

/-- In Off every object reads its default and memory is lost; flash and the facts of manufacture stay. -/
theorem toOff_off (s : State) : s.toOff.on = false ∧ (∀ k, s.toOff.obj k = objDefault k) ∧ (∀ a, Memory.read s.toOff.mem a = 0) ∧
    s.toOff.flash = s.flash ∧ s.toOff.dev = s.dev := ⟨rfl, fun _ => rfl, fun _ => rfl, rfl, rfl⟩

/-- A restart that is set completes a pending rewrite at its tick and starts the device. -/
theorem restartNow_set {s : State} {w : Nat} (hw : s.boot.restartAt = some w) : s.restartNow = (s.elapseTo w).keptRewrite.start true := by
  rw [State.restartNow, hw]
/-- A restart keeps the facts of manufacture. -/
theorem restartNow_dev (s : State) : s.restartNow.dev = s.dev := (Keeps.refl s).restartNow.dev
/-- The grain clock goes on over a restart; the device time begins at 0. -/
theorem restartNow_clk {s : State} {w : Nat} (hw : s.boot.restartAt = some w) :
    s.restartNow.clk = { Clk.init with ticks := max s.clk.ticks w } := by
  rw [restartNow_set hw, start_clk, if_pos rfl, keptRewrite_rest, elapseTo_ticks]

/-- Settles O9: by what a start leaves (`start_started`), what Off is, and the clocks over a restart. -/
theorem startAndOff : Obligations.StartAndOff := by
  refine ⟨fun s ho => ⟨_, porstNRelease_starts ho, ?_⟩, fun s ho => porstNRelease_undefined ho, fun s => ⟨_, rfl, toOff_off s⟩,
    fun s => ⟨_, rfl, toOff_off s⟩, fun s w hw => ⟨s.restartNow, rfl, ?_⟩⟩
  · have h := start_started s false
    exact ⟨h.on, h.served, h.powerState, h.powerDomains, h.ownerAgent, h.mem, h.flash, h.dev⟩
  · have h := start_started (s.elapseTo w).keptRewrite true
    rw [← restartNow_set hw] at h
    have hc := restartNow_clk hw
    exact ⟨h.on, h.served, h.restartAt, h.powerState, h.powerDomains, by rw [hc], by rw [hc]; rfl, h.mem, restartNow_dev s⟩

end Sys2Proof.Machine
end

section
/-! The state after reset (O54, R131): what each guard reads as in it, and from that that a command other than PORST_N_RELEASE and the two
of PERST_N finds nothing to act on. -/
namespace Sys2Proof.Machine

/-! ### What the guards read -/

@[simp] theorem reset_netOn : State.reset.netOn = false := rfl
@[simp] theorem reset_pcie : State.reset.pcie = false := rfl
@[simp] theorem reset_linkOn : State.reset.linkOn = false := rfl
@[simp] theorem reset_bar2On : State.reset.bar2On = false := rfl
@[simp] theorem reset_isleOn (n : Nat) : State.reset.isleOn n = false := rfl
@[simp] theorem reset_inPool : State.reset.inPool = false := rfl
@[simp] theorem reset_coreReady (c : Nat) : State.reset.coreReady c = false := by simp [State.coreReady]
@[simp] theorem reset_trigger (reason : Nat) : State.reset.trigger reason = State.reset := rfl

/-- No endpoint's transport is served (R68). -/
@[simp] theorem reset_served (ep : Endpoint) : State.reset.served ep = false := by
  cases ep with
  | vf p => simp [State.served]
  | _ => rfl

@[simp] theorem bit_zero_left (i : Nat) : bit 0 i = false := by simp [bit]

/-- Zero has no bits set. -/
theorem bitsOf_zero (w : Nat) : bitsOf w 0 = [] :=
  List.filter_eq_nil_iff.2 fun i _ => by rw [bit_zero_left]; exact Bool.false_ne_true

/-- No bit of an object whose default is 0 is set. -/
theorem reset_objBit {k : Nat} (hk : objDefault k = 0) (i : Nat) : State.reset.objBit k i = false := by
  have ho : State.reset.obj k = 0 := hk
  rw [State.objBit, ho, bit_zero_left]

/-- No partition recovers (R425), and a number past the last partition names no object. -/
theorem objDefault_partRecoveryState (p : Nat) : objDefault (Obj.partRecoveryState p) = 0 := by
  have hidx : Obj.partRecoveryState p / 256 = 0x82C0 + 0x400 * p := by simp only [Obj.partRecoveryState]; omega
  have hsub : Obj.partRecoveryState p % 256 = 2 := by simp only [Obj.partRecoveryState]; omega
  have hbase : idxBase (0x82C0 + 0x400 * p) = 0x82C0 ∨ idxBase (0x82C0 + 0x400 * p) = 0 := by
    simp only [idxBase]
    split
    · split
      · left; omega
      · exact .inr rfl
    · omega
  rw [objDefault, keyRow, hidx, hsub, dictRow]
  rcases hbase with h | h <;> rw [h] <;> decide

/-! ### What the shared operations do -/

theorem request_reset (r : Req) (b : Body) : State.reset.request r b = State.reset := by simp [State.request]
theorem issue_reset (c w slot : Nat) (ok fields : Bool) (i : Instr) : State.reset.issue c w slot ok fields i = State.reset :=
  issue_not_ready _ _ _ _ _ _ _ (reset_coreReady c)
theorem descriptor_reset (op : Nat) (d : Desc) (f : State → Nat → State × DRes) : State.reset.descriptor op d f = State.reset := by
  simp [State.descriptor]
theorem bundleOp_reset (op : Nat) (d : BDesc) (write : Bool) : State.reset.bundleOp op d write = State.reset := by
  simp [State.bundleOp]
theorem bar2Door_reset (set : State → State) : State.reset.bar2Door set = State.reset := by simp [State.bar2Door]

/-- A loop of which no pass changes a state leaves it. -/
theorem each_of_fixed {α : Type} {s : State} {f : State → α → State} (hf : ∀ x, f s x = s) (xs : List α) : s.each xs f = s :=
  each_keeps (· = s) xs f (fun _ x _ hu => hu ▸ hf x) s rfl
theorem when_of_fixed {s : State} {f : State → State} (hf : f s = s) (c : Bool) : s.when c f = s := by
  cases c
  · rfl
  · exact hf

/-! ### The commands whose guard reads an operand -/

theorem doorbell_reset (fn producer : Nat) (slots : List Bytes) : State.reset.doorbell fn producer slots = State.reset := by
  simp [State.doorbell]
theorem mmio_reset (fn bar off v : Nat) : State.reset.mmio fn bar off v = State.reset := by
  simp [State.mmio, State.windowClear]
theorem fnReset_reset (fn : Nat) : State.reset.fnReset fn = State.reset := by simp [State.fnReset]
theorem clockStart_reset (reason : Nat) (locks : Bool) : State.reset.clockStart reason locks = State.reset := by
  simp only [State.clockStart, reset_trigger, ite_self]
  rfl
theorem rxSignal_reset (l : Nat) : State.reset.rxSignal l = State.reset := by
  simp only [State.rxSignal, reset_trigger]
  split <;> rfl
theorem wake_reset (q : Nat) : State.reset.wake q = State.reset := by
  have hd : State.reset.domain (2 + q / 8) = false := reset_objBit (by decide) _
  simp [State.wake, State.isleMay, hd]
/-- A slot without quads has no isle to be armed on. -/
theorem rearm_reset (p n : Nat) (ok : Bool) (err : Bursts) : State.reset.rearm p n ok err = State.reset := by
  have hq : (State.reset.slot p n).quads = 0 := rfl
  have hi : State.reset.slotIsle p n = none := by rw [State.slotIsle, hq, bitsOf_zero]; rfl
  simp only [State.rearm, hi, ite_self]
theorem frameIn_reset (f : FrameIn) : State.reset.frameIn f = State.reset := by simp [State.frameIn, State.portTakes]
theorem linkUp_reset (q : Nat) : State.reset.linkUp q = State.reset := by simp [State.linkUp]
theorem portLink_reset (q : Nat) : State.reset.portLink q = State.reset := by
  have hl : ∀ lo n, State.reset.lanesUp lo n = State.reset := fun _ _ => rfl
  simp [State.portLink, linkUp_reset, hl]
theorem queuePush_reset (q epoch : Nat) (word : Bytes) (poison : Bool) :
    exec (.queuePush q epoch word poison) State.reset = .next State.reset := by
  have hf : State.reset.objBit Obj.faultIslesFenced ((q - 128) / 16) = false := reset_objBit (by decide) _
  simp [exec, execQueuePush, hf]
/-- An empty queue holds no uncommitted word, and no isle has work. -/
theorem queueCommit_reset (q : Nat) : exec (.queueCommit q) State.reset = .next State.reset := by
  have hc : State.reset.commit q = State.reset := rfl
  have hw : ∀ n, State.reset.isleWork n = false := fun _ => rfl
  have hu : (State.reset.queue q).unc = 0 := rfl
  simp [exec, execQueueCommit, hu, hc, hw]
theorem collRing_reset (q bad fixed : Nat) : State.reset.collRing q bad fixed = State.reset := by simp [State.collRing]
theorem collFrame_reset (q bad fixed : Nat) : State.reset.collFrame q bad fixed = State.reset := by simp [State.collFrame]
theorem schedule_reset (n check : Nat) (err : Bursts) : State.reset.schedule n check err = State.reset := by simp [State.schedule]
theorem heartbeatIn_reset (i origin seq : Nat) (es : List (Nat × Nat)) : State.reset.heartbeatIn i origin seq es = State.reset := by
  simp [State.heartbeatIn]
theorem reset_member (d : Nat) : State.reset.member d = false := by simp [State.member, reset_objBit (show objDefault Obj.poolMembers = 0 by decide)]
theorem registryIn_reset (src : Nat) (es : List Bytes) : State.reset.registryIn src es = State.reset := by
  simp [State.registryIn, reset_member]
theorem creditIn_reset (src q records : Nat) : State.reset.creditIn src q records = State.reset := by simp [State.creditIn, reset_member]
/-- No slot waits for a lock, and nothing is fetched. -/
theorem lockReply_reset (src entry epoch status : Nat) : State.reset.lockReply src entry epoch status = State.reset :=
  each_of_fixed (fun _ => rfl) (List.range 64)
theorem streamSegment_reset (src epoch off : Nat) (data : Bytes) : State.reset.streamSegment src epoch off data = State.reset :=
  each_of_fixed (fun _ => rfl) (List.range 64)
theorem lightReady_reset (e : Nat) : State.reset.lightReady e = State.reset := by
  simp [State.lightReady, State.lit, reset_objBit (show objDefault Obj.cartLit = 0 by decide)]
theorem tracePacket_reset (n : Nat) (bs : Bytes) : State.reset.tracePacket n bs = State.reset := by simp [State.tracePacket, State.tracing]
theorem restartArmed_reset (p : Nat) : State.reset.restartArmed p = State.reset := by
  have ho : State.reset.obj (Obj.partRecoveryState p) = 0 := objDefault_partRecoveryState p
  simp [State.restartArmed, ho]

/-! ### Every command -/

/-- PORST_N_RELEASE and the two commands of PERST_N, an input that the device reads in Off too (notes/assumptions/47 and 108). -/
def actsAtReset : Instr → Bool
  | .porstNRelease _ => true
  | .perstNAssert => true
  | .perstNRelease => true
  | _ => false

/-- No other command changes the state after reset. For the commands of the last case the guard evaluates whatever the operands are. -/
theorem exec_reset {c : Instr} (hc : actsAtReset c = false) : exec c State.reset = .next State.reset := by
  cases c with
  | porstNRelease | perstNAssert | perstNRelease => cases hc
  | read | write | readMulti | blobOpen | blobSeg | blobClose | claim | yield | heartbeat | grant | revoke | notify | startInferenceWrite
  | powerCoreHoldWrite | berthKeepWrite | nonceFeedRead | attestReportOpen | updRestartWrite | timeSetWrite | partQuadsWrite | ownerDutyWrite
  | meterApply | portEnableWrite | portModeWrite | qStatsClear | slotLoad | slotUnload | hbmApply | swap | t1SlotWrite | straitEnableWrite
  | offerRegion | withdrawOffer | fetchApply | cartridgeRelease | driveSetpointWrite | allowUnauthWrite | tripClear | isleRestore
  | recoverResume | dumpClear | hangRelease | inspectOpen | traceReadOpen => exact congrArg _ (request_reset _ _)
  | scalarOp | branch | scalarLoadStore | vectorOp | vld | vst | vtl | vts | vside | xmov | qbar | opset | done | wait | tcfg | trel | csld | tld
  | tldCvExpand | tldCvQuantise | tldCvWiden | tst | acfg | wld | astr | astrT | aew | rq | rstat => exact congrArg _ (issue_reset _ _ _ _ _ _)
  | readKey | readSlot | scan | insert | update | delete | ageDelete | lock | unlock | trieWrite | trieRead =>
    exact congrArg _ (descriptor_reset _ _ _)
  | bundleHostToRegion | bundleRegionToHost => exact congrArg _ (bundleOp_reset _ _ _)
  | flowRingDoorbell fn ring bell =>
    have hd : (State.reset.each bell.fetched fun s d => s.serveDesc fn ring d.1 d.2) = State.reset :=
      each_of_fixed (fun _ => descriptor_reset _ _ _) _
    simp [exec, execFlowRingDoorbell, bar2Door_reset, hd]
  | bundleRingDoorbell fn bell =>
    have hd : (State.reset.each bell.fetched fun s d => s.serveBundle fn d.1 d.2) = State.reset :=
      each_of_fixed (fun _ => bundleOp_reset _ _ _) _
    simp [exec, execBundleRingDoorbell, bar2Door_reset, hd]
  | flowRingEnable => simp [exec, execFlowRingEnable]
  | ringKeepAlive => simp [exec, execRingKeepAlive]
  | preemptRequest => simp [exec, execPreemptRequest]
  | contextRestore => simp [exec, execContextRestore]
  | mailboxDoorbell => exact congrArg _ (doorbell_reset _ _ _)
  | mmioRegisterWrite => exact congrArg _ (mmio_reset _ _ _ _)
  | pcieFunctionReset => exact congrArg _ (fnReset_reset _)
  | coreClockStart => exact congrArg _ (clockStart_reset _ _)
  | rxSignalDetect => exact congrArg _ (rxSignal_reset _)
  | residencyWake => simp [exec, execResidencyWake, wake_reset]
  | slotRearm => exact congrArg _ (rearm_reset _ _ _ _)
  | frameIngress => exact congrArg _ (frameIn_reset _)
  | linkUp => exact congrArg _ (portLink_reset _)
  | queuePush => exact queuePush_reset _ _ _ _
  | queueCommit => exact queueCommit_reset _
  | collectorRingDeliver => exact congrArg _ (when_of_fixed (collRing_reset _ _ _) _)
  | collectorFrameSend => exact congrArg _ (when_of_fixed (collFrame_reset _ _ _) _)
  | schedulerDispatch => exact congrArg _ (schedule_reset _ _ _)
  | poolHeartbeat => exact congrArg _ (heartbeatIn_reset _ _ _ _)
  | memberLost => simp [exec, execMemberLost, reset_member]
  | registryUpdate => exact congrArg _ (registryIn_reset _ _)
  | workCredit => exact congrArg _ (creditIn_reset _ _ _)
  | replicaLockReply src entry epoch status => exact congrArg Host.Outcome.next (lockReply_reset src entry epoch status)
  | bundleSegment src epoch off data => exact congrArg Host.Outcome.next (streamSegment_reset src epoch off data)
  | weightStreamSegment src epoch off data => exact congrArg Host.Outcome.next (streamSegment_reset src epoch off data)
  | lightUsable => exact congrArg _ (lightReady_reset _)
  | traceTimePeriod => exact congrArg _ (tracePacket_reset _ _)
  | restartArmingDone => exact congrArg _ (restartArmed_reset _)
  | _ => rfl

/-- Settles O54: by what reset lists, and `exec_reset`. -/
theorem resetIsOff : Obligations.ResetIsOff := by
  refine ⟨⟨rfl, rfl, rfl, rfl, rfl, fun _ => rfl, fun _ => rfl, fun _ => rfl⟩, fun c hc => exec_reset ?_⟩
  cases c with
  | porstNRelease | perstNAssert | perstNRelease => cases hc
  | _ => rfl

end Sys2Proof.Machine
end

section
/-! A release whose owner speaks through the cartridge's own light (O49, R177, R379, R394): putting the cartridge dark takes the link of the port
that the engine carries, the loss of the link deregisters the agents on that port (R79), and the response is kept for nobody. -/
namespace Sys2Proof.Machine
open Sys2Proof.Claims

/-- An in-band endpoint on line port 32, a port of engine 0 (R68, R378). -/
def engineEndpoint : Endpoint := .inband 32 0 0
/-- The owner's request over it. -/
def engineRequest : Req := { ep := engineEndpoint, agent := 0, seq := 1, epoch := 0 }
/-- An agent there that has been heard and has asked for nothing yet. -/
def engineAgent : Agent :=
  { ep := engineEndpoint, heard := 0, heardTick := 0, mask := 0, nonce := [], kept := [], claims := [], notes := [], lost := 0 }
/-- The device in Crossing, cartridge 0 decided and lit, port 32 Up with in-band messages, and `engineAgent` its owner. -/
def engineOwned : State :=
  let s : State :=
    { State.reset with
      pwr := { Power.init with phase := 1, coreClock := true }
      boot := { Boot.init with served := true }
      cu := { Cuhild.init with agents := [(0, some engineAgent)] }
      carts := [(0, { phase := 3 })] }
  s.each [(Obj.powerState, 3), (Obj.powerDomains, 1), (Obj.ownerAgent, 0), (portObj 32 1, 2), (Obj.cuhildInbandLine, 1), (Obj.cartLit, 1)]
    (fun s e => s.setObj e.1 e.2)

/-- The owner's write of cart.0.release is admitted and allowed. -/
theorem engineRequest_admitted : admitted engineOwned engineRequest 0x02 0 = true ∧ owns engineOwned engineRequest 0 = true := by decide +kernel

/-- The write leaves the owner deregistered: the light goes off, and the link of port 32 with it. -/
theorem release_deregisters_owner : (engineOwned.reqWrite engineRequest 0x4110 12 1).agent 0 = none := by decide +kernel

/-- No response is kept for an agent that is not registered. -/
theorem wrote_of_no_agent {t : State} {n : Nat} (hn : t.agent n = none) (r : Req) (idx sub : Nat) : wrote t n r idx sub = false := by
  simp [wrote, answered, hn]

/-- Refutes O49, in its clause on cart.e.release: `engineOwned` meets the hypotheses, and the release keeps no response for the owner. -/
theorem not_cartridgesAreAuthenticatedAndServed : ¬ Obligations.CartridgesAreAuthenticatedAndServed := by
  rintro ⟨-, -, -, -, -, -, -, hrelease, -⟩
  obtain ⟨hadm, hown⟩ := engineRequest_admitted
  obtain ⟨t, ht, -, -, -, hwrote, -⟩ := hrelease engineOwned engineRequest 0 0 hadm hown (by decide) (by decide +kernel) (by decide +kernel)
  have hnext : t = engineOwned.reqWrite engineRequest 0x4110 12 1 := (Host.Outcome.next.inj ht).symm
  rw [hnext, wrote_of_no_agent release_deregisters_owner] at hwrote
  exact Bool.false_ne_true hwrote

end Sys2Proof.Machine
end

section
/-! The tree tier (O27): a flow record's fetch with one update waiting (R238, R239, R348), a node that arrives (R244, R247), and a result at
tier 1 with the frames that it releases (R29, R188, R248 to R251). -/
namespace Sys2Proof.Machine
open Sys2Proof.Claims

/-- Equal memory and flash hold the same. -/
theorem storageSame_of_eq {s t : State} (hmem : t.mem = s.mem) (hflash : t.flash = s.flash) : storageSame s t :=
  ⟨fun a => congrArg (Memory.read · a) hmem, hflash⟩

/-! What is counted as moved in a stack (R398) is the forecaster's -/

@[simp] theorem movedStack_objs (s : State) (k n : Nat) : (s.movedStack k n).objs = s.objs := rfl
@[simp] theorem movedStack_t1 (s : State) (k n : Nat) : (s.movedStack k n).t1 = s.t1 := rfl
@[simp] theorem movedStack_mem (s : State) (k n : Nat) : (s.movedStack k n).mem = s.mem := rfl
@[simp] theorem movedStack_flash (s : State) (k n : Nat) : (s.movedStack k n).flash = s.flash := rfl

/-! ### The fetch of a flow record -/

/-- A record that is used stands in the flow-record cache. -/
theorem mem_cacheUse (c : List Nat) (i : Nat) : i ∈ cacheUse c i := by
  unfold cacheUse
  dsimp only
  split
  · exact List.mem_cons_self
  · split <;> exact List.mem_cons_self

/-- The record in the cache takes an update at once. -/
theorem recordUpdate_cached {s : State} {i : Nat} {r : Rec} (hup : s.stackUp (recStack i) = true)
    (hnone : s.t1.fetches.find? (fun f => f.1 == i) = none) (hr : s.recOf i = some r) (hc : i ∈ s.t1.cache) (m : Meta)
    (req : Option Nat) : s.recordUpdate i m req = (s.setRec i (some (r.update m)), true) := by
  simp [State.recordUpdate, hup, hnone, hr, hc]

/-- The state once slot i's record `r` has arrived good in the cache: its fetch is no longer under way. -/
def recordArrived (s : State) (i : Nat) (r : Rec) : State :=
  (({ s with t1 := { s.t1 with fetches := s.t1.fetches.filter (fun g => g.1 != i) } } : State).movedStack (recStack i) 128).setRec i (some r)

/-- Writing a record leaves the fetches under way. -/
theorem setRec_fetches (s : State) (i : Nat) (r : Option Rec) : (s.setRec i r).t1.fetches = s.t1.fetches := rfl

/-- The slot's fetches are over, the others still under way. -/
theorem recordArrived_fetches (s : State) (i : Nat) (r : Rec) : (recordArrived s i r).t1.fetches = s.t1.fetches.filter (fun g => g.1 != i) := by
  rw [recordArrived, setRec_fetches, movedStack_t1]

/-- No fetch of the slot is left. -/
theorem recordArrived_no_fetch (s : State) (i : Nat) (r : Rec) : (recordArrived s i r).t1.fetches.find? (fun f => f.1 == i) = none := by
  rw [recordArrived_fetches, List.find?_eq_none]
  intro f hmem
  simpa using (List.mem_filter.1 hmem).2

/-- A good fetch applies the one update that waited for it, which no tier-2 request waits for. -/
theorem exec_recordFetchComplete {s : State} {i : Nat} {u : FetchUpd} {r : Rec}
    (hf : s.t1.fetches.find? (fun f => f.1 == i) = some (i, [u])) (hq : u.req = none) (hup : s.stackUp (recStack i) = true)
    (hr : s.recOf i = some r) :
    exec (.recordFetchComplete i 0) s = .next ((recordArrived s i r).setRec i (some (r.update u.fact))) := by
  have happly : (recordArrived s i r).recordUpdate i u.fact none = ((recordArrived s i r).setRec i (some (r.update u.fact)), true) :=
    recordUpdate_cached (s := recordArrived s i r) hup (recordArrived_no_fetch s i r) (recOf_setRec_same _ i _) (mem_cacheUse _ i) u.fact none
  have hrun : exec (.recordFetchComplete i 0) s = .next ((recordArrived s i r).recordUpdate i u.fact none).1 := by
    show execRecordFetchComplete i 0 s = _
    simp only [execRecordFetchComplete, hf, List.filterMap_cons, hq, List.filterMap_nil, each_cons, each_nil]
    have hgood : ¬((0 : Nat) = 1 ∨ (0 : Nat) = 2 ∨ (0 : Nat) = 4) := by decide
    rw [if_neg hgood, recordArrived, ← hr]
    rfl
  rw [hrun, happly]

/-! ### A node that arrives -/

/-- `setAt` is the library's `List.set`. -/
theorem setAt_eq_set {α : Type} (xs : List α) (n : Nat) (y : α) : setAt xs n y = xs.set n y := by
  induction xs generalizing n with
  | nil => rfl
  | cons x xs ih =>
    cases n with
    | zero => rfl
    | succ n => exact congrArg (x :: ·) (ih n)

/-- A request that is replaced under its number is the one found under it. -/
theorem find_setT1 {s : State} {id : Nat} {q q' : T1Req} (hq : s.t1.reqs.find? (fun r => r.id == id) = some q) (hid : q'.id = q.id) :
    (s.setT1 q').t1.reqs.find? (fun r => r.id == id) = some q' := by
  have hq' : q'.id = id := by simpa [hid] using List.find?_some hq
  have hpred : (fun r => r.id == id) ∘ (fun r => if r.id = q'.id then q' else r) = fun r : T1Req => r.id == id := by
    funext r
    by_cases h : r.id = q'.id
    · simp [h, hq']
    · simp [h]
  have hreqs : (s.setT1 q').t1.reqs = s.t1.reqs.map (fun r => if r.id = q'.id then q' else r) := rfl
  rw [hreqs, List.find?_map, hpred, hq, Option.map_some, if_pos hid.symm]

@[simp] theorem ctr_t1 (s : State) (k : Nat) : (s.ctr k).t1 = s.t1 := rfl
@[simp] theorem ctr_mem (s : State) (k : Nat) : (s.ctr k).mem = s.mem := rfl
@[simp] theorem ctr_flash (s : State) (k : Nat) : (s.ctr k).flash = s.flash := rfl

/-- No tree of a request waits for its walker. -/
def noneWaits (s : State) : Prop := ∀ r ∈ s.t1.reqs, ∀ y ∈ r.trees, y.waits = false

/-- A walker takes only a tree that waits (R247). -/
theorem takeTree_of_noneWaits {s : State} (h : noneWaits s) (id i : Nat) : s.takeTree id i = s := by
  unfold State.takeTree
  split
  · rfl
  · next q hq =>
    split
    · rfl
    · next y hy => simp [h q (List.mem_of_find?_eq_some hq) y (List.mem_of_getElem? hy)]

/-- With no tree waiting the walkers take nothing. -/
theorem feed_of_noneWaits {s : State} (h : noneWaits s) : s.feed = s :=
  each_of_fixed (fun q => each_of_fixed (takeTree_of_noneWaits h q.id) (List.range q.trees.length)) s.t1.reqs

/-- The state once a node for a tree of request `q` has arrived good and has put the tree at position `y`. -/
def nodeArrived (s : State) (q : T1Req) (tree : Nat) (y : TreePos) : State :=
  (s.movedStack (ensStack q.ens) 32).setT1 { q with trees := setAt q.trees tree y }

theorem nodeArrived_objs (s : State) (q : T1Req) (tree : Nat) (y : TreePos) : (nodeArrived s q tree y).objs = s.objs := by
  rw [nodeArrived, setT1_objs, movedStack_objs]
theorem nodeArrived_mem (s : State) (q : T1Req) (tree : Nat) (y : TreePos) : (nodeArrived s q tree y).mem = s.mem := by
  rw [nodeArrived, setT1_mem, movedStack_mem]
theorem nodeArrived_flash (s : State) (q : T1Req) (tree : Nat) (y : TreePos) : (nodeArrived s q tree y).flash = s.flash := by
  rw [nodeArrived, setT1_flash, movedStack_flash]

/-- The request is found with its tree at the new position. -/
theorem find_nodeArrived {s : State} {id : Nat} {q : T1Req} (hq : s.t1.reqs.find? (fun r => r.id == id) = some q) (tree : Nat) (y : TreePos) :
    (nodeArrived s q tree y).t1.reqs.find? (fun r => r.id == id) = some { q with trees := setAt q.trees tree y } :=
  find_setT1 (s := s.movedStack (ensStack q.ens) 32) hq rfl

/-- A tree that does not wait, put in the place of another, leaves none waiting. -/
theorem noneWaits_nodeArrived {s : State} {q : T1Req} (h : noneWaits s) (hq : q ∈ s.t1.reqs) (tree : Nat) {y : TreePos}
    (hy : y.waits = false) : noneWaits (nodeArrived s q tree y) := by
  intro r hr z hz
  obtain ⟨r', hr', rfl⟩ := List.mem_map.1 hr
  split at hz
  · rw [setAt_eq_set] at hz
    rcases List.mem_or_eq_of_mem_set hz with hz | rfl
    · exact h q hq z hz
    · exact hy
  · exact h r' hr' z hz

section
variable {s : State} {id tree : Nat} {q : T1Req} {x : TreePos} (hq : s.t1.reqs.find? (fun r => r.id == id) = some q)
  (hx : q.trees[tree]? = some x) (hfetch : x.fetch = true)
include hq hx hfetch

/-- A good node that is a leaf ends its tree there, and the walkers take what they have room for. -/
theorem nodeFetched_leaf (hleaf : (s.treeNode q x.node).leaf = true) :
    s.nodeFetched id tree 0 =
      (nodeArrived s q tree { x with leaf := some (s.treeNode q x.node).threshold, fetch := false }).feed := by
  have hn : (s.movedStack (ensStack q.ens) 32).treeNode q x.node = s.treeNode q x.node := rfl
  simp [State.nodeFetched, nodeArrived, State.when, hq, hx, hfetch, hn, hleaf]

/-- A good node that is a test moves its tree on by a level, and the child's fetch is counted. -/
theorem nodeFetched_test (htest : (s.treeNode q x.node).leaf = false) :
    s.nodeFetched id tree 0 =
      (nodeArrived s q tree { x with node := (s.treeNode q x.node).next q.feats, depth := x.depth + 1 }).ctr Obj.ctrT1NodeFetches := by
  have hn : (s.movedStack (ensStack q.ens) 32).treeNode q x.node = s.treeNode q x.node := rfl
  simp [State.nodeFetched, nodeArrived, State.when, hq, hx, hfetch, hn, htest]

end

/-! ### What a frame that leaves keeps -/

/-- What a tier result sets in an entry (R188): verdict, tier, score, epoch. -/
def FEntry.result (e : FEntry) : Nat × Nat × Nat × Nat := (e.verdict, e.tier, e.score, e.epoch)

/-- From `s` to `t` the results in the flow table, tier 1, memory and flash are as before. -/
structure CrossKeeps (s t : State) : Prop where
  result : ∀ i, (t.entry i).result = (s.entry i).result
  t1 : t.t1 = s.t1
  mem : t.mem = s.mem
  flash : t.flash = s.flash

section
variable {s t u : State}

theorem CrossKeeps.refl (s : State) : CrossKeeps s s := ⟨fun _ => rfl, rfl, rfl, rfl⟩
/-- An update that leaves the flow table, tier 1, memory and flash as they are. -/
theorem CrossKeeps.upd {pending out free dev objs boot meas clk cu pwr res x queues pend flooded tags rings bring crings statq trie unconf shadowLog
    m st pool isle carts heat fault obs dbg} (h : CrossKeeps s t) :
    CrossKeeps s ⟨pending, out, free, dev, objs, t.flash, t.mem, boot, meas, clk, cu, pwr, res, x, queues,
      ⟨t.flow.entries, pend, flooded, tags, rings, bring, crings, statq, trie, unconf, shadowLog⟩, t.t1, m, st, pool, isle, carts, heat, fault, obs,
      dbg⟩ := ⟨h.result, h.t1, h.mem, h.flash⟩
/-- An entry whose result stays. -/
theorem CrossKeeps.setEntry (h : CrossKeeps s t) {i : Nat} {e : FEntry} (he : e.result = (t.entry i).result) : CrossKeeps s (t.setEntry i e) :=
  have hres : ∀ j, ((t.setEntry i e).entry j).result = (s.entry j).result := fun j => by
    rw [entry_setEntry]
    split
    · next hj => rw [he, hj, h.result]
    · exact h.result j
  ⟨hres, h.t1, h.mem, h.flash⟩
theorem CrossKeeps.ite {c : Prop} [Decidable c] (h : CrossKeeps s t) (g : CrossKeeps s u) : CrossKeeps s (if c then t else u) := by
  split
  · exact h
  · exact g
theorem CrossKeeps.iteFst {c : Prop} [Decidable c] {α : Type} {x y : State × α} (h : CrossKeeps s x.1) (g : CrossKeeps s y.1) :
    CrossKeeps s (if c then x else y).1 := by
  split
  · exact h
  · exact g
theorem CrossKeeps.when {c : Bool} {f : State → State} (h : CrossKeeps s t) (hf : ∀ {u}, CrossKeeps s u → CrossKeeps s (f u)) :
    CrossKeeps s (t.when c f) := .ite (hf h) h
theorem CrossKeeps.each {α : Type} {xs : List α} {f : State → α → State} (h : CrossKeeps s t)
    (hf : ∀ {u x}, CrossKeeps s u → CrossKeeps s (f u x)) : CrossKeeps s (t.each xs f) :=
  each_keeps (CrossKeeps s) xs f (fun _ _ _ hu => hf hu) t h

/-! Objects, light counters and queues -/

theorem CrossKeeps.ctr (h : CrossKeeps s t) {k : Nat} : CrossKeeps s (t.ctr k) := h.upd
theorem CrossKeeps.setEv (h : CrossKeeps s t) {k v : Nat} : CrossKeeps s (t.setEv k v) := by
  rw [setEv_rest]
  exact h.upd
theorem CrossKeeps.emit (h : CrossKeeps s t) {o : Out} : CrossKeeps s (t.emit o) := h.upd
theorem CrossKeeps.partLight (h : CrossKeeps s t) {p i : Nat} : CrossKeeps s (t.partLight p i) := h.upd
theorem CrossKeeps.movedStack (h : CrossKeeps s t) {k n : Nat} : CrossKeeps s (t.movedStack k n) := h.upd
theorem CrossKeeps.setQueue (h : CrossKeeps s t) {q : Nat} {v : Queue} : CrossKeeps s (t.setQueue q v) := h.upd
theorem CrossKeeps.putSettled (h : CrossKeeps s t) {q : Nat} {v : Queue} : CrossKeeps s (t.putSettled q v) := by
  unfold State.putSettled
  exact h.setQueue.when (·.movedStack)
theorem CrossKeeps.markWork (h : CrossKeeps s t) {q : Nat} : CrossKeeps s (t.markWork q) := .ite (h.setQueue.upd.when (·.emit)) h
theorem CrossKeeps.collDrop (h : CrossKeeps s t) {q : Nat} : CrossKeeps s (t.collDrop q) := h.setQueue.ctr.partLight
theorem CrossKeeps.pushWord (h : CrossKeeps s t) {q epoch : Nat} {w : Bytes} {poison : Bool} : CrossKeeps s (t.pushWord q epoch w poison) :=
  .ite h.ctr (.ite h.setQueue (.ite h.collDrop.setQueue (.ite h h.setQueue)))
theorem CrossKeeps.commit (h : CrossKeeps s t) {q : Nat} : CrossKeeps s (t.commit q) := .ite h.setQueue (h.putSettled.when (·.emit))
theorem CrossKeeps.tailRoom (h : CrossKeeps s t) {q n : Nat} : CrossKeeps s (t.tailRoom q n) := .ite h.putSettled.movedStack h
theorem CrossKeeps.collect (h : CrossKeeps s t) {p c kind : Nat} {body : Bytes} : CrossKeeps s (t.collect p c kind body) :=
  .ite h.collDrop (h.tailRoom.each (·.pushWord)).commit.markWork

/-! Egress -/

theorem CrossKeeps.setEq (h : CrossKeeps s t) {q : Nat} {v : EQueue} : CrossKeeps s (t.setEq q v) := h.upd
theorem CrossKeeps.markEq (h : CrossKeeps s t) {q : Nat} : CrossKeeps s (t.markEq q) :=
  .ite (h.setEq.when (·.emit)) (h.setEq.when (·.emit)).setEv
theorem CrossKeeps.enqueue (h : CrossKeeps s t) {q : Nat} {b : Bytes} {c : Check} : CrossKeeps s (t.enqueue q b c) := .ite h.ctr h.setEq.markEq
/-- A copy finds room in its queue, is counted as refused, or has no port. -/
theorem CrossKeeps.egressCopy (h : CrossKeeps s t) {full q : Nat} {b : Bytes} {c : Check} : CrossKeeps s (t.egressCopy full q b c) := by
  unfold State.egressCopy
  cases t.admits q with
  | in_ => exact h.enqueue
  | noRoom => exact h.ctr
  | linkDown => exact h.ctr
  | absent => exact h
/-- A frame is offered as a copy is, under the counter of its port. -/
theorem CrossKeeps.egress (h : CrossKeeps s t) {q : Nat} {b : Bytes} {c : Check} : CrossKeeps s (t.egress q b c) :=
  h.egressCopy (full := portObj q (if t.portState q = 2 then 9 else 6))

/-! A frame that leaves, and those that were held -/

/-- `CrossKeeps` of the state that an answer of a state and more carries, said of the whole answer. -/
def FstCrossKeeps (s : State) {α : Type} (r : State × α) : Prop := CrossKeeps s r.1
theorem FstCrossKeeps.mk {α : Type} {a : α} (h : CrossKeeps s t) : FstCrossKeeps s (t, a) := h
theorem FstCrossKeeps.ite {c : Prop} [Decidable c] {α : Type} {x y : State × α} (h : FstCrossKeeps s x) (g : FstCrossKeeps s y) :
    FstCrossKeeps s (if c then x else y) := CrossKeeps.iteFst h g

theorem CrossKeeps.measure (h : CrossKeeps s t) {i n : Nat} : CrossKeeps s (t.measure i n).1 := .iteFst h.upd (.iteFst h.upd h.upd)
theorem CrossKeeps.tagFrame (h : CrossKeeps s t) {port part : Nat} {v : Verd} {p : Parsed} {b : Bytes} :
    CrossKeeps s (t.tagFrame port part v p b).1 := .iteFst (.iteFst h (.iteFst h.ctr h)) h
theorem CrossKeeps.leave (h : CrossKeeps s t) {port part : Nat} {f : FrameIn} {p : Parsed} {v : Verd} :
    CrossKeeps s (t.leave port part f p v).1 := by
  show FstCrossKeeps s _
  unfold State.leave
  extract_lets +onlyGivenNames bad act prm out lit tagged named
  have hlit : CrossKeeps s lit := h.partLight
  have htag {u b} (hu : CrossKeeps s u) : CrossKeeps s (tagged u b).1 := hu.tagFrame
  clear_value act lit tagged
  split
  · exact .mk (htag hlit).egress
  · exact .mk (htag hlit).egress
  · exact .mk (.ite (htag hlit).egress.egressCopy (htag hlit).egress.ctr)
  · exact .ite (.mk hlit.measure) (.mk (htag hlit.measure).egress)
  · exact .ite (.mk (htag hlit).egress) (.mk hlit.ctr)
  · exact .mk hlit
/-- Counting a frame that was held leaves its entry's result. -/
theorem CrossKeeps.countHeld (h : CrossKeeps s t) {k : FlowKey} : CrossKeeps s (t.countHeld k) := by
  unfold State.countHeld
  split
  · exact .ite h (h.setEntry rfl)
  · exact h.upd
theorem CrossKeeps.takeHeld (h : CrossKeeps s t) {sel : HeldKey → Bool} : CrossKeeps s (t.takeHeld sel).1 := by
  unfold State.takeHeld
  generalize List.range 8 = ns
  generalize ha : (t, ([] : List HeldKey)) = a
  replace h : CrossKeeps s a.1 := ha ▸ h
  clear ha
  induction ns generalizing a with
  | nil => exact h
  | cons n ns ih => exact ih _ (.iteFst h.upd h)
/-- Releasing a key's frames under a result keeps every result in the table. -/
theorem CrossKeeps.releaseResult (h : CrossKeeps s t) {k : FlowKey} {word score epoch : Nat} :
    CrossKeeps s (t.releaseResult k word score epoch) := h.takeHeld.each fun h => h.each (·.countHeld.leave)

end

/-! ### A result at tier 1 -/

/-- The amendment is made, if one is due; then the entry takes the result (R188). -/
theorem applyVerdict_eq (s : State) (i tier verdict score epoch time : Nat) :
    ∃ u e, CrossKeeps s u ∧ e.result = (verdict, tier, score, epoch) ∧ s.applyVerdict i tier verdict score epoch time = u.setEntry i e :=
  ⟨_, _, .ite (CrossKeeps.refl s).collect.ctr.partLight (.refl s), rfl, rfl⟩

/-- A result that R29 lets through is applied to the entry of its key. -/
theorem tierResult_written {s : State} {k : FlowKey} {tier epoch i : Nat} (hp : s.plain = false) (hj : s.judge k tier epoch = .written i)
    (verdict score time : Nat) :
    s.tierResult k tier verdict score epoch time = (s.applyVerdict i tier verdict score epoch time, true) := by
  simp [State.tierResult, hp, hj]

/-- A finished walk whose result R29 lets through leaves the walkers, writes its result, and releases the frames held for its key. -/
theorem exec_tier1Result {s : State} {id i word score : Nat} {q : T1Req} (hp : s.plain = false)
    (hq : s.t1.reqs.find? (fun r => r.id == id) = some q) (hw : s.walkResult q = some (word, score)) (hj : s.judge q.key 1 q.epoch = .written i) :
    exec (.tier1Result id) s =
      .next ((((s.dropT1 id).applyVerdict i 1 word score q.epoch q.time).partLight q.key.part 12).releaseResult q.key word score q.epoch) := by
  have hwrite := tierResult_written (s := s.dropT1 id) hp hj word score q.time
  show execTier1Result id s = _
  simp only [execTier1Result, hq, hw, hwrite, if_true]

/-! ### The three commands -/

/-- The one update that waited is applied to the record, and the fetch is over. -/
theorem recordFetchComplete_applies {s : State} {i : Nat} {u : FetchUpd} {r : Rec}
    (hf : s.t1.fetches.find? (fun f => f.1 == i) = some (i, [u])) (hq : u.req = none) (hup : s.stackUp (recStack i) = true)
    (hr : s.recOf i = some r) :
    ∃ t, exec (.recordFetchComplete i 0) s = .next t ∧ t.recOf i = some (r.update u.fact) ∧
      t.t1.fetches = s.t1.fetches.filter (fun g => g.1 != i) ∧ t.objs = s.objs ∧ storageSame s t := by
  refine ⟨_, exec_recordFetchComplete hf hq hup hr, recOf_setRec_same _ i _, ?_, ?_, storageSame_of_eq ?_ ?_⟩
  · rw [setRec_fetches, recordArrived_fetches]
  · rw [setRec_objs, recordArrived, setRec_objs, movedStack_objs]
  · rw [setRec_mem, recordArrived, setRec_mem, movedStack_mem]
  · rw [setRec_flash, recordArrived, setRec_flash, movedStack_flash]

/-- A leaf that arrives is kept in its tree. -/
theorem nodeFetchComplete_leaf {s : State} {id tree : Nat} {q : T1Req} {x : TreePos} (hq : s.t1.reqs.find? (fun r => r.id == id) = some q)
    (hx : q.trees[tree]? = some x) (hfetch : x.fetch = true) (hwait : noneWaits s) (hleaf : (s.treeNode q x.node).leaf = true) :
    ∃ t, exec (.nodeFetchComplete id tree 0) s = .next t ∧
      (t.t1.reqs.find? (fun r => r.id == id)).map (·.trees) =
        some (setAt q.trees tree { x with leaf := some (s.treeNode q x.node).threshold, fetch := false }) ∧
      t.objs = s.objs ∧ storageSame s t := by
  refine ⟨_, congrArg Host.Outcome.next (nodeFetched_leaf hq hx hfetch hleaf), ?_⟩
  rw [feed_of_noneWaits (noneWaits_nodeArrived hwait (List.mem_of_find?_eq_some hq) tree rfl), find_nodeArrived hq]
  exact ⟨rfl, nodeArrived_objs s q tree _, storageSame_of_eq (nodeArrived_mem s q tree _) (nodeArrived_flash s q tree _)⟩

/-- A test that arrives moves its tree one level on, and is counted. -/
theorem nodeFetchComplete_test {s : State} {id tree : Nat} {q : T1Req} {x : TreePos} (hq : s.t1.reqs.find? (fun r => r.id == id) = some q)
    (hx : q.trees[tree]? = some x) (hfetch : x.fetch = true) (htest : (s.treeNode q x.node).leaf = false) :
    ∃ t, exec (.nodeFetchComplete id tree 0) s = .next t ∧
      (t.t1.reqs.find? (fun r => r.id == id)).map (fun r => (r.trees[tree]?).map (·.depth)) = some (some (x.depth + 1)) ∧
      t.obj Obj.ctrT1NodeFetches = (s.obj Obj.ctrT1NodeFetches + 1) % 2 ^ 64 ∧ storageSame s t := by
  obtain ⟨hlt, -⟩ := List.getElem?_eq_some_iff.1 hx
  refine ⟨_, congrArg Host.Outcome.next (nodeFetched_test hq hx hfetch htest), ?_, ?_, storageSame_of_eq ?_ ?_⟩
  · rw [ctr_t1, find_nodeArrived hq, Option.map_some, setAt_eq_set, List.getElem?_set_self hlt, Option.map_some]
  · rw [ctr_obj_same, State.obj, nodeArrived_objs, State.obj]
  · rw [ctr_mem, nodeArrived_mem]
  · rw [ctr_flash, nodeArrived_flash]

/-- A walk's result stands in its key's entry, whatever the release of the held frames does, and its request is gone. -/
theorem tier1Result_writes {s : State} {id i word score : Nat} {q : T1Req} (hp : s.plain = false)
    (hq : s.t1.reqs.find? (fun r => r.id == id) = some q) (hw : s.walkResult q = some (word, score)) (hj : s.judge q.key 1 q.epoch = .written i) :
    ∃ t, exec (.tier1Result id) s = .next t ∧ (t.entry i).verdict = word ∧ (t.entry i).tier = 1 ∧ (t.entry i).score = score ∧
      (t.entry i).epoch = q.epoch ∧ t.t1.reqs = s.t1.reqs.filter (·.id != id) ∧ storageSame s t := by
  obtain ⟨u, e, hu, he, happly⟩ := applyVerdict_eq (s.dropT1 id) i 1 word score q.epoch q.time
  have hrel : CrossKeeps (u.setEntry i e) (((u.setEntry i e).partLight q.key.part 12).releaseResult q.key word score q.epoch) :=
    (CrossKeeps.refl _).partLight.releaseResult
  have hres := hrel.result i
  rw [entry_setEntry_same, he] at hres
  simp only [FEntry.result, Prod.mk.injEq] at hres
  obtain ⟨hverdict, htier, hscore, hepoch⟩ := hres
  rw [exec_tier1Result hp hq hw hj, happly]
  exact ⟨_, rfl, hverdict, htier, hscore, hepoch, congrArg (·.reqs) (hrel.t1.trans hu.t1),
    storageSame_of_eq (hrel.mem.trans hu.mem) (hrel.flash.trans hu.flash)⟩

/-- Settles O27: the record's fetch, a leaf, a test, and the result of a finished walk. -/
theorem tierOneWalks : Obligations.TierOneWalks :=
  ⟨fun _ _ _ _ => recordFetchComplete_applies, fun _ _ _ _ _ => nodeFetchComplete_leaf, fun _ _ _ _ _ => nodeFetchComplete_test,
    fun _ _ _ _ _ _ => tier1Result_writes⟩

end Sys2Proof.Machine
end
